-- ==== Sys2Proof/Word.lean ====
section
/-! DEFINITION. The smallest vocabulary of the model: bytes as the exchanges carry them (R179), and the index 1 to 4
that numbers lanes, decks and slots (deck n belongs to lane n: 06, opening text). -/

namespace Sys2Proof

/-- One whole byte of an exchange (R166). -/
abbrev Byte := BitVec 8

/-- A number from 1 to 4. -/
inductive Idx where
  | i1 | i2 | i3 | i4
deriving DecidableEq, Repr

/-- A lane, 1 to 4. -/
abbrev Lane := Idx
/-- A weighbridge deck, 1 to 4; deck n belongs to lane n. -/
abbrev Deck := Idx
/-- A slot of a lane queue, 1 to 4 (R46). -/
abbrev Slot := Idx

/-- Four like things, numbered 1 to 4. -/
structure Four (α : Type) where
  one   : α
  two   : α
  three : α
  four  : α
deriving DecidableEq, Repr

/-- A master port: the office port or lane port 1 to 4 (10, opening text). -/
inductive PortId where
  | office
  | lane (l : Lane)
deriving DecidableEq, Repr

/-- Numbered records, in rising order of index; an index that is not listed holds the table's empty or default record. -/
abbrev Table (α : Type) := List (Nat × α)

/-- Text as the codes its characters are sent and printed as (R150, R179). -/
abbrev Text := List Byte

end Sys2Proof
end

