-- ==== Sys2Proof/Syntax.lean ====
section
/-! DEFINITION. The commands: one constructor per row of spec/opcode_table.json, with the operands the spec gives it.
An exchange's command names the port `p` that issues it and carries its argument bytes at the widths of R178; an event
names the unit it concerns. The meaning is in Machine/ alone. -/

namespace Sys2Proof

/-- The event kinds of R156. -/
inductive EventKind where
  | deckOccupied | deckClear | deckStable | deckFault | deckOverload
  | safetyOccupied | safetyClear | barrierUp | barrierDown | barrierFault
  | captureDone | captureFailed | visitRefused | visitDisputed | ticketIssued
  | printDone | printFailed | paperOut | laneStalled
  | journalNearFull | journalFull | overstay | overrun | rollover
  | inputRise | inputFall | minute
deriving DecidableEq, Repr

/-- The task kinds of R159 to R161. -/
inductive TaskKind where
  | outputSet | outputClear | outputPulse
  | lightRed | lightGreen | barrierRaise | barrierLower | startCapture
  | notice
deriving DecidableEq, Repr

/-- The field kinds of R148. -/
inductive FieldKind where
  | ticketNo | date | time | site | vehicle | account | category | kind
  | firstWeight | firstTime | secondWeight | secondTime
  | tare | tareSource | net | audit | check | lane | copyMark
deriving DecidableEq, Repr

/-- An account's status (R78). -/
inductive AccountStatus where
  | active | suspended
deriving DecidableEq, Repr

/-- An account to store, as a WRITE RECORD to ACCOUNTS carries it (R85). `status` is `none` for a value that is neither
ACTIVE nor SUSPENDED; `rows` are pairs of a category and an allowance. -/
structure AccountWrite where
  number : BitVec 16
  status : Option AccountStatus
  keepTares : Bool
  storedTareAllowed : Bool
  rows : List (Byte × BitVec 32)
deriving DecidableEq, Repr

/-- A line record to store (R143, R144): `next` 255 is END (the one value left of a byte whose numbers are 0 to 254);
a reference's kind is `none` for a value outside the list of R148. -/
structure LineWrite where
  next : Byte
  literal : Text
  refs : List (Option FieldKind × Byte)
deriving DecidableEq, Repr

/-- A route record to store (R157, R162). A kind is `none` for a value outside its list; `eventIndex` is `none` for ANY. -/
structure RouteWrite where
  enabled : Bool
  event : Option EventKind
  eventIndex : Option Byte
  task : Option TaskKind
  taskIndex : Byte
deriving DecidableEq, Repr

/-- The eight fields CAL SET carries, at the widths of R178. -/
structure CalFields where
  max : BitVec 32
  e : Byte
  n : Byte
  w : Byte
  mf : BitVec 16
  tracking : Byte
  zc : BitVec 32
  k : BitVec 32
deriving DecidableEq, Repr

/-- Which non-volatile cells pass their integrity check on reading (R28, R122). -/
structure CellsReadable where
  cal : Four Bool
  audit : Bool
  site : Bool
  floor : Bool
deriving DecidableEq, Repr

/-- What the world decides at a start (R185, R186): `writeLanded` whether a non-volatile write in flight, when the part
is stopped by this very command, had changed the cells; `dropout` what the battery supervisor reports; `cells` which
cells can be read; `cutShort` that power is lost again before the start has run to its end (log 23). -/
structure StartInputs where
  writeLanded : Bool
  dropout : Bool
  cells : CellsReadable
  cutShort : Bool
deriving DecidableEq, Repr

/-- One of a lane's two deck-end beams (R97). -/
inductive Beam where
  | beam1 | beam2
deriving DecidableEq, Repr

/-- One of a barrier's two limit inputs (R116). -/
inductive Limit where
  | up | down
deriving DecidableEq, Repr

/-- The commands of the YT24, one constructor per row of the opcode table. -/
inductive Instr where
  -- port state (R169 to R177)
  | readStatus (p : PortId)
  | clearNotices (p : PortId) (set : BitVec 16)
  | setNoticeEnable (p : PortId) (set : BitVec 16)
  | readParameter (p : PortId) (code inst : Byte)
  | writeParameter (p : PortId) (code inst : Byte) (value : BitVec 32)
  | writeLaneMode (p : PortId) (inst : Byte) (value : BitVec 32)
  | writeLanePortEnable (p : PortId) (inst : Byte) (value : BitVec 32)
  | selectTable (p : PortId) (table : Byte) (index : BitVec 32)
  | readRecord (p : PortId)
  -- table writes (R176): the exchange as bytes, and each owner's write with its fields spelled out
  | writeRecord (p : PortId) (args : List Byte)
  | writeCategory (p : PortId) (name : Text) (reserve : BitVec 32)
  | removeCategory (p : PortId)
  | writeAccount (p : PortId) (w : AccountWrite)
  | deleteAccount (p : PortId)
  | writeSiteCap (p : PortId) (cap : BitVec 32)
  | emptySiteCap (p : PortId)
  | writeTare (p : PortId) (vehicle : List Byte) (tare : BitVec 32) (deck : Byte)
  | deleteTare (p : PortId)
  | writeTemplate (p : PortId) (name : Text) (head : Byte)
  | emptyTemplate (p : PortId)
  | writeLine (p : PortId) (w : LineWrite)
  | writeRoute (p : PortId) (w : RouteWrite)
  | readWeight (p : PortId) (deck : Byte)
  -- follow mode and the journal (R138, R167, R177)
  | followJournal (p : PortId)
  | leaveFollow (p : PortId)
  | followExchange (p : PortId)
  | readJournal (p : PortId)
  | readCursorMove (p : PortId)
  | framingDiscard (p : PortId) (code : Byte) (argBytes replyBytes : Nat)
  | unknownCommand (p : PortId) (code : Byte)
  -- lane commands (R48 to R52, R113, R153, R154)
  | announce (p : PortId) (lane : Byte) (vehicle : List Byte) (account : BitVec 16) (category kind : Byte)
      (payload : BitVec 32)
  | attach (p : PortId) (lane : Byte) (vehicle : List Byte)
  | release (p : PortId) (lane : Byte) (ref : BitVec 16)
  | capture (p : PortId) (lane : Byte) (ref : BitVec 16)
  | manualRaise (p : PortId) (lane : Byte)
  | manualLower (p : PortId) (lane : Byte)
  | reprintLast (p : PortId) (lane : Byte)
  | reprintTicket (p : PortId) (ticket : BitVec 32) (lane : Byte)
  | abortPrint (p : PortId) (lane : Byte)
  | zeroDeck (p : PortId) (deck : Byte)
  -- office commands
  | voidVisit (p : PortId) (visit : BitVec 16)
  | resolve (p : PortId) (visit : BitVec 16) (choice : Byte)
  | archiveUpTo (p : PortId) (seq : BitVec 32)
  | setClock (p : PortId) (day : BitVec 16) (second : BitVec 24)
  | forceRollover (p : PortId)
  | setOutput (p : PortId) (output action : Byte)
  | restartLanes (p : PortId)
  | clearLaneFault (p : PortId) (lane : Byte)
  | calBegin (p : PortId) (deck : Byte)
  | calSet (p : PortId) (deck : Byte) (fields : CalFields)
  | calZero (p : PortId) (deck : Byte)
  | calSpan (p : PortId) (deck : Byte) (load : BitVec 32)
  | calEnd (p : PortId) (deck : Byte)
  | calAbandon (p : PortId) (deck : Byte)
  | lockCalibration (p : PortId)
  | writeSiteNumber (p : PortId) (value : BitVec 16)
  | retryStore (p : PortId)
  -- deck events
  | sampleOk (d : Deck) (count : BitVec 24)
  | sampleCellError (d : Deck) (count : BitVec 24)
  | linkSilenceTimeout (d : Deck)
  | captureTimeout (d : Deck)
  | zeroTrackingStep (d : Deck)
  -- ticket and writer events
  | ticketIssue
  | floorWriteEnd (ok : Bool)
  | calWriteEnd (ok : Bool)
  | siteNumberWriteEnd (ok : Bool)
  -- clock events
  | clockAdvance
  | overstay (visit : BitVec 16)
  -- lane events
  | loopFilterChange (l : Lane) (occupied : Bool)
  | beamFilterChange (l : Lane) (beam : Beam) (broken : Bool)
  | barrierLimitChange (l : Lane) (limit : Limit) (active : Bool)
  | travelTimeout (l : Lane)
  | passTimeout (l : Lane)
  | unannouncedOccupancyTimeout (l : Lane)
  | metrologySwitchChange (closed : Bool)
  -- print events
  | printByteSent (l : Lane)
  | printerReadyChange (l : Lane) (ready : Bool)
  | paperOutChange (l : Lane) (active : Bool)
  | pauseTimeout (l : Lane)
  -- yard events
  | inputFilterChange (input : Nat) (high : Bool)
  | outputPulseExpiry (output : Nat)
  -- power
  | powerOn (x : StartInputs)
  | externalReset (x : StartInputs)
  | powerLoss (writeLanded : Bool)
deriving DecidableEq, Repr

end Sys2Proof
end

