-- ==== Sys2Proof/Machine/State.lean ====
section
/-! DEFINITION. The state of the YT24 as plain data: every register, table, queue, timer, mode, mark and pin the spec gives
its blocks (00_scope, section 2), and the state right after reset. INVENTORY.md lists the fields with their rules.
Weights and fine weights are integers, counts and indexes naturals, notice sets and exchange fields bit vectors. -/

namespace Sys2Proof.Machine
open Sys2Proof

/-! ### Common vocabulary -/

/-- A time on a record: day number and second of day (00_scope, section 4). -/
structure Stamp where
  day : Nat
  second : Nat
deriving DecidableEq, Repr

/-- A timer (R184): its deadline in milliseconds of the monotonic time base, `none` when stopped. `late` is the model's own:
how many of its expiries that wait in the queue belong to runs that have ended, and so do nothing (log 51). -/
structure Timer where
  deadline : Option Nat
  late : Nat
deriving DecidableEq, Repr

/-- A stopped timer with no expiry waiting. -/
def Timer.stopped : Timer := { deadline := none, late := 0 }

/-- A timer that runs to a deadline, with no expiry waiting. -/
def Timer.until (deadline : Nat) : Timer := { deadline := some deadline, late := 0 }

/-- The result codes (00_scope section 6, R179). -/
inductive Result where
  | done | held | busy | framing | denied | noSuch | unmapped | gone
  | state | range | full | locked | motion | failed
deriving DecidableEq, Repr

/-- The notice kinds (R171). -/
inductive Notice where
  | capture | decision | ticket | print | paper | lane | deck
  | journal | visit | allowance | calib | store | route | restart
deriving DecidableEq, Repr

/-- The reasons a capture ends FAILED with (R20 to R22). -/
inductive CaptureReason where
  | timeout | abandoned | deckFault | gone
deriving DecidableEq, Repr

/-- A captured weight record (R19). -/
structure CapturedWeight where
  weight : Int
  deck : Deck
  time : Stamp
  audit : Nat
deriving DecidableEq, Repr

/-! ### Deck measurement unit (01) -/

/-- Deck states (section 1.2). -/
inductive DeckPhase where
  | starting | active | fault | calibrating
deriving DecidableEq, Repr

/-- The record of a capture in flight (R17). -/
structure CaptureRecord where
  visit : Nat
  deadline : Nat
deriving DecidableEq, Repr

/-- One deck measurement unit. -/
structure DeckUnit where
  phase : DeckPhase
  linkLost : Bool
  linkTimer : Timer
  /-- the sample window, oldest first (R8) -/
  window : List Int
  /-- the filter sum F (R8) -/
  sum : Int
  /-- the fine-weight history, oldest first (R12) -/
  history : List Int
  /-- w of the last sample that reached the fine weight stage (R9) -/
  fine : Int
  /-- g_f of the last sample that reached the zero offset stage (R10) -/
  netFine : Int
  /-- G in kilograms (R10) -/
  gross : Int
  valid : Bool
  stable : Bool
  overload : Bool
  underload : Bool
  centre : Bool
  occupied : Bool
  /-- the zero offset Zs (R10) -/
  zs : Int
  trackCount : Nat
  capture : Option CaptureRecord
  /-- expiries of ended captures that still wait: the model's own (log 51) -/
  captureLate : Nat
  /-- the occupancy threshold T (R24) -/
  threshold : Nat
  captureTimeout : Nat
deriving DecidableEq, Repr

/-! ### Calibration unit (02) -/

/-- A calibration record (R27). -/
structure CalRecord where
  max : Nat
  e : Nat
  n : Nat
  w : Nat
  mf : Nat
  tracking : Bool
  zc : Int
  k : Nat
deriving DecidableEq, Repr

/-- The cold default record (R15, R27). -/
def CalRecord.coldDefault : CalRecord :=
  { max := 60000, e := 20, n := 16, w := 10, mf := 100, tracking := true, zc := 0, k := 6554 }

/-- Lock modes (R29). -/
inductive LockMode where
  | switch | lockedUntilPower
deriving DecidableEq, Repr

/-- The staged calibration record (R36), and the fields of a CALIBRATION entry (R132). -/
structure StagedCal where
  deck : Deck
  audit : Nat
  oldZc : Int
  newZc : Int
  oldK : Nat
  newK : Nat
  max : Nat
  e : Nat
deriving DecidableEq, Repr

/-- The calibration unit. -/
structure CalUnit where
  stored : Four CalRecord
  working : Four (Option CalRecord)
  audit : Nat
  site : Option Nat
  lock : LockMode
  switchClosed : Bool
  staged : Option StagedCal
deriving DecidableEq, Repr

/-! ### Visit table (03) -/

/-- Kinds of visit (R43). -/
inductive VisitKind where
  | delivery | collection
deriving DecidableEq, Repr

/-- Visit states (R45). -/
inductive VisitState where
  | announced | firstWeighed | attached | awaitingTicket | disputed | refused | ticketed | ticketedOnSite
deriving DecidableEq, Repr

/-- Tare sources (R43). -/
inductive TareSource where
  | none | weighed | stored
deriving DecidableEq, Repr

/-- Reasons of a refusal or a dispute (R43). -/
inductive Reason where
  | accountSuspended | categoryNotPermitted | allowance | siteCap | negativeNet
deriving DecidableEq, Repr

/-- Pass kinds (R43). -/
inductive PassKind where
  | entry | exit
deriving DecidableEq, Repr

/-- A visit's current lane (R43, R46). -/
structure LanePlace where
  lane : Lane
  slot : Slot
  pass : PassKind
deriving DecidableEq, Repr

/-- A visit record (R43), with the manual mark of R69. -/
structure Visit where
  number : Nat
  vehicle : Text
  account : Nat
  category : Nat
  kind : VisitKind
  payload : Nat
  announceLane : Lane
  announceTime : Stamp
  announceSecond : Nat
  first : Option CapturedWeight
  second : Option CapturedWeight
  tareSource : TareSource
  storedTare : Option Nat
  manualTare : Bool
  net : Option Int
  reserve : Nat
  state : VisitState
  place : Option LanePlace
  ticket : Option Nat
  reason : Option Reason
  overstayNoticed : Bool
  calChanged : Bool
  negativeNet : Bool
deriving DecidableEq, Repr

/-- A lane queue: slot and visit number, oldest first, and the generation of each slot (R46). -/
structure LaneQueue where
  members : List (Slot × Nat)
  generations : Four Nat
deriving DecidableEq, Repr

/-- The visit table. -/
structure VisitTable where
  records : Table Visit
  next : Nat
  queues : Four LaneQueue
  overstayLimit : Nat
deriving DecidableEq, Repr

/-! ### Tare store (04) -/

/-- A tare entry (R67); deck 0 is a manual tare entered without a deck. -/
structure TareEntry where
  vehicle : Text
  tare : Nat
  deck : Nat
  taken : Stamp
  manual : Bool
  uses : Nat
deriving DecidableEq, Repr

/-- The tare store. -/
structure TareStore where
  entries : Table TareEntry
  validity : Nat
deriving DecidableEq, Repr

/-! ### Allowance unit (05) -/

/-- The amounts of an allowance row or a site cap row: A, D, H and the overrun mark (R78, R80). -/
structure Amounts where
  allow : Nat
  debited : Nat
  held : Nat
  overrun : Bool
deriving DecidableEq, Repr

/-- An allowance row (R78). -/
structure AllowanceRow where
  category : Nat
  amounts : Amounts
deriving DecidableEq, Repr

/-- An account (R78). -/
structure Account where
  number : Nat
  status : AccountStatus
  keepTares : Bool
  storedTareAllowed : Bool
  rows : List AllowanceRow
deriving DecidableEq, Repr

/-- A category record (R76); its code is its index plus 1. -/
structure Category where
  name : Text
  reserve : Nat
deriving DecidableEq, Repr

/-- The site counters of one category code (R90). -/
structure SiteCounters where
  delivered : Nat
  collected : Nat
  tickets : Nat
deriving DecidableEq, Repr

/-- The allowance unit. `categories`, `caps` and `counters` are listed by category code 1 to 8, `accounts` by index. -/
structure AllowanceUnit where
  categories : Table Category
  accounts : Table Account
  caps : Table Amounts
  counters : Table SiteCounters
  yardDay : Nat
deriving DecidableEq, Repr

/-! ### Tickets and the journal (07) -/

/-- A TICKET record (R128); `site` is the site number its check word started from (R130), kept for printing (R148). -/
structure TicketRecord where
  number : Nat
  visit : Nat
  issued : Stamp
  lane : Lane
  vehicle : Text
  account : Nat
  category : Nat
  kind : VisitKind
  first : CapturedWeight
  second : Option CapturedWeight
  tareSource : TareSource
  tare : Int
  net : Int
  negativeNet : Bool
  overrun : Bool
  calChanged : Bool
  manualTare : Bool
  audit : Nat
  check : BitVec 32
  site : Nat
deriving DecidableEq, Repr

/-- A RESTART record's contents (R132). -/
structure RestartInfo where
  cold : Bool
  resume : Nat
  merges : Nat
  firstStart : Stamp
deriving DecidableEq, Repr

/-- The contents of a journal entry by kind (R132). -/
inductive JournalBody where
  | ticket (t : TicketRecord)
  | void (visit : Nat) (time : Stamp) (lane : Option Lane)
  | calibration (c : StagedCal) (time : Stamp)
  | rollover (newDay : Nat) (time : Stamp)
  | restart (r : RestartInfo) (time : Stamp)
deriving DecidableEq, Repr

/-- A journal entry (R131). -/
structure JournalEntry where
  seq : Nat
  body : JournalBody
deriving DecidableEq, Repr

/-- The journal: the ring by place (sequence number modulo 1024), and R133's counts. -/
structure Journal where
  ring : Table JournalEntry
  last : Nat
  mark : Nat
  reservations : Nat
deriving DecidableEq, Repr

/-- Issue waits (R126). -/
inductive IssueWait where
  | none | systemRecord | journal | siteNumber | storeFault | floorWrite | numberingEnded
deriving DecidableEq, Repr

/-- The ticket unit's floor write in flight (R122), and whether RETRY STORE asked for it (R124). -/
structure FloorWrite where
  value : Nat
  retry : Bool
deriving DecidableEq, Repr

/-- The ticket unit (R122). -/
structure TicketUnit where
  next : Nat
  floor : Nat
  queue : List Nat
  floorWrite : Option FloorWrite
  pendingRestart : Option RestartInfo
  pendingRollover : Option Nat
  wait : IssueWait
deriving DecidableEq, Repr

/-! ### Printing (08) -/

/-- A template (R142). -/
structure Template where
  name : Text
  head : Nat
deriving DecidableEq, Repr

/-- A field reference (R143). -/
structure FieldRef where
  kind : FieldKind
  column : Nat
deriving DecidableEq, Repr

/-- A line record (R143); `next` is `none` for END. -/
structure LineRecord where
  next : Option Nat
  literal : Text
  refs : List FieldRef
deriving DecidableEq, Repr

/-- A cold line record (R155). -/
def LineRecord.cold : LineRecord := { next := none, literal := [], refs := [] }

/-- The template store: TEMPLATES by index, the in-use count of each index, LINES by index. -/
structure TemplateStore where
  templates : Table Template
  inUse : Table Nat
  lines : Table LineRecord
deriving DecidableEq, Repr

/-- Where a started job stands on its template (R145, R146). -/
structure JobWalk where
  template : Nat
  position : Nat
  rendered : Nat
  finished : Bool
deriving DecidableEq, Repr

/-- A print job (R145); `walk` is `none` until the job starts. -/
structure PrintJob where
  ticket : TicketRecord
  copy : Bool
  walk : Option JobWalk
deriving DecidableEq, Repr

/-- Print engine states (R145). -/
inductive EngineState where
  | idle | printing | paused
deriving DecidableEq, Repr

/-- Reasons of a FAILED print (R145). -/
inductive PrintReason where
  | templateError | paperTimeout | aborted | queueFull
deriving DecidableEq, Repr

/-- The last print result (R145). -/
inductive PrintResult where
  | none | done | failed (r : PrintReason)
deriving DecidableEq, Repr

/-- A lane's print engine and its parameters (R145, R146, R150, R151). -/
structure PrintEngine where
  state : EngineState
  /-- the current job, then the waiting job -/
  jobs : List PrintJob
  fifo : List Byte
  pauseTimer : Timer
  ready : Bool
  /-- a byte that may still be going down the line after printer-ready was withdrawn (R150) -/
  byteInProgress : Bool
  paperOut : Bool
  lastResult : PrintResult
  deliveryTemplate : Nat
  collectionTemplate : Nat
  pauseTimeout : Nat
deriving DecidableEq, Repr

/-! ### Lanes and barriers (06) -/

/-- Lane modes (R95). -/
inductive LaneMode where
  | closed | auto | manual
deriving DecidableEq, Repr

/-- Lane directions (R95). -/
inductive Direction where
  | inbound | outbound | both
deriving DecidableEq, Repr

/-- Sequencer states (R99, R119). -/
inductive SeqState where
  | idle | occupied | capturing | held | releasing | opened | passing | closing | manual | closed
deriving DecidableEq, Repr

/-- The lane light (R111). -/
inductive Light where
  | red | green
deriving DecidableEq, Repr

/-- The unannounced occupancy timer: stopped, running to a deadline, or expired and not started again until both its
conditions have ended, with which of them has ended since (R110). -/
inductive UnannouncedTimer where
  | stopped
  | running (deadline : Nat)
  | spent (deckEnded queueEnded : Bool)
deriving DecidableEq, Repr

/-- The last capture result of a lane report (R119). -/
inductive CaptureReport where
  | none | done | failed (r : CaptureReason) | notStarted (code : Result)
deriving DecidableEq, Repr

/-- The last decision of a lane report (R119). -/
inductive Decision where
  | none | pass | hold
deriving DecidableEq, Repr

/-- Lane parameters (R95). -/
structure LaneParams where
  mode : LaneMode
  direction : Direction
  autoCapture : Bool
  passTimeout : Nat
  unannouncedTimeout : Nat
  travelTimeout : Nat
deriving DecidableEq, Repr

/-- The lane sequencer (R98 to R113). -/
structure Sequencer where
  state : SeqState
  /-- the head as the visit table last handed it, `none` when the queue was empty (R99) -/
  head : Option (Nat × VisitState)
  released : Option Nat
  passageArmed : Bool
  passTimer : Timer
  unannounced : UnannouncedTimer
  /-- expiries of ended runs of that timer that still wait: the model's own (log 51) -/
  unannouncedLate : Nat
  /-- a MANUAL RAISE waits for UP to turn the light green (R113) -/
  raiseWait : Bool
  light : Light
  /-- the sequencer's copy of the deck occupancy flag (R98) -/
  occupied : Bool
deriving DecidableEq, Repr

/-- The filtered lane sensors (R97). -/
structure LaneSensors where
  loopOccupied : Bool
  beam1Broken : Bool
  beam2Broken : Bool
deriving DecidableEq, Repr

/-- Barrier states (R114). -/
inductive BarrierState where
  | down | raising | up | lowering | fault
deriving DecidableEq, Repr

/-- The barrier controller and its limit inputs (R114, R116). -/
structure Barrier where
  state : BarrierState
  pendingLower : Bool
  travelTimer : Timer
  limitUp : Bool
  limitDown : Bool
deriving DecidableEq, Repr

/-- The fields of the lane report that are not read from other state (R119). -/
structure LaneReport where
  lastCapture : CaptureReport
  lastReason : Option Reason
  lastDecision : Decision
  lastTicket : Option Nat
deriving DecidableEq, Repr

/-- One lane. -/
structure LaneUnit where
  params : LaneParams
  seqr : Sequencer
  sensors : LaneSensors
  barrier : Barrier
  report : LaneReport
  printer : PrintEngine
deriving DecidableEq, Repr

/-! ### Route unit (09) -/

/-- The last outcome of a route (R157). -/
inductive RouteOutcome where
  | none | taken | refused
deriving DecidableEq, Repr

/-- A route record (R157); `eventIndex` is `none` for ANY. -/
structure Route where
  enabled : Bool
  event : EventKind
  eventIndex : Option Nat
  task : TaskKind
  taskIndex : Nat
  outcome : RouteOutcome
deriving DecidableEq, Repr

/-- A cold route record (R165). -/
def Route.cold : Route :=
  { enabled := false, event := .minute, eventIndex := none, task := .notice, taskIndex := 0, outcome := .none }

/-- A general yard output (R164). -/
structure Output where
  on : Bool
  pulseTimer : Timer
  pulseLength : Nat
deriving DecidableEq, Repr

/-- A cold output (R165). -/
def Output.cold : Output := { on := false, pulseTimer := .stopped, pulseLength := 1000 }

/-- The route unit: ROUTES by index 0 to 31, outputs and filtered input levels by number 1 to 8. -/
structure RouteUnit where
  routes : Table Route
  outputs : Table Output
  inputs : Table Bool
deriving DecidableEq, Repr

/-! ### What a read returns (10) -/

/-- The tables of R175. -/
inductive TableId where
  | categories | accounts | siteCaps | counters | tares | visits | laneVisit | lanes | templates | lines | routes | journal
deriving DecidableEq, Repr

/-- A handle: slot and generation (R47). -/
structure Handle where
  slot : Nat
  generation : Nat
deriving DecidableEq, Repr

/-- The last reply data: handle, visit number and valid-tare answer (R168, R179). -/
structure ReplyData where
  handle : Handle
  visit : Nat
  validTare : Bool
deriving DecidableEq, Repr

/-- Reply data of all zeros (R168). -/
def ReplyData.zero : ReplyData := { handle := { slot := 0, generation := 0 }, visit := 0, validTare := false }

/-- The live weight record (R16). -/
structure LiveWeight where
  deck : Nat
  phase : DeckPhase
  gross : Int
  valid : Bool
  stable : Bool
  occupied : Bool
  overload : Bool
  underload : Bool
  centre : Bool
  calibrating : Bool
  uncalibrated : Bool
  audit : Nat
deriving DecidableEq, Repr

/-- What the print engine contributes to the lane report (R145): its state, the jobs' ticket numbers and copy marks, the
bytes in the FIFO and the last print result. -/
structure PrintReport where
  state : EngineState
  current : Option (Nat × Bool)
  waiting : Option (Nat × Bool)
  fifo : Nat
  lastResult : PrintResult
deriving DecidableEq, Repr

/-- The lane report (R119). -/
structure LaneView where
  mode : LaneMode
  direction : Direction
  state : SeqState
  barrier : BarrierState
  pendingLower : Bool
  light : Light
  sensors : LaneSensors
  queue : List (Nat × Handle)
  released : Option Nat
  capture : Option Nat
  report : LaneReport
  printer : PrintReport
deriving DecidableEq, Repr

/-- What a LANE_VISIT record shows of the visit in the slot (R65). -/
structure LaneVisitView where
  handle : Handle
  visit : Nat
  vehicle : Text
  category : Nat
  kind : VisitKind
  state : VisitState
  first : Option CapturedWeight
  second : Option CapturedWeight
  tareSource : TareSource
  net : Option Int
  reason : Option Reason
  ticket : Option Nat
deriving DecidableEq, Repr

/-- The amounts of a row with its free amount (R79, R93). -/
structure AmountsView where
  amounts : Amounts
  free : Int
deriving DecidableEq, Repr

/-- What READ RECORD shows of each table's record (R65, R73, R93, R119, R140, R142, R143, R162). -/
inductive RecordView where
  | category (code : Nat) (c : Option Category)
  | account (a : Option (Account × List AmountsView))
  | siteCap (c : Option AmountsView)
  | counters (c : SiteCounters) (yardDay : Nat)
  | tare (t : Option (TareEntry × Bool))
  | visit (v : Option (Visit × Option Handle))
  | laneVisit (generation : Nat) (v : Option LaneVisitView)
  | lane (v : LaneView)
  | template (t : Option Template) (inUse : Nat)
  | line (l : LineRecord)
  | route (r : Route)
  | journal (e : Option JournalEntry)
deriving DecidableEq, Repr

/-- The READ STATUS reply (R169, R179). -/
structure StatusReply where
  lastCommand : Byte
  lastResult : Result
  reasonStore : Bool
  data : ReplyData
  pendingSet : BitVec 16
  enabledSet : BitVec 16
  busy : Bool
  follow : Bool
  enabled : Bool
  granted : Bool
  table : Option TableId
  index : Nat
  journalCursor : Nat
deriving DecidableEq, Repr

/-- The reply a read-type command or a follow exchange has formed. -/
inductive Reply where
  | status (x : StatusReply)
  | parameter (r : Result) (value : Nat)
  | weight (r : Result) (x : Option LiveWeight)
  | journal (r : Result) (lost : Nat) (x : Option JournalEntry)
  | record (r : Result) (t : Option TableId) (x : Option RecordView)
deriving DecidableEq, Repr

/-- A cursor move formed by a read and not yet committed (R167). -/
inductive CursorMove where
  | table (index : Nat)
  | journal (seq : Nat)
deriving DecidableEq, Repr

/-- One master port. -/
structure Port where
  /-- code of the last command, 0 when none (R179) -/
  lastCommand : Byte
  lastResult : Result
  /-- the last reason: STORE when set, NONE otherwise (R168) -/
  reasonStore : Bool
  data : ReplyData
  pendingSet : BitVec 16
  enabledSet : BitVec 16
  busy : Bool
  follow : Bool
  /-- the lane port enable and the site counters grant; the office port reads both as set (R169, R173) -/
  enabled : Bool
  granted : Bool
  /-- the selected table and the cursor's index -/
  cursor : Option (TableId × Nat)
  journalCursor : Nat
  reply : Option Reply
  move : Option CursorMove
deriving DecidableEq, Repr

/-- The five ports. -/
structure Ports where
  office : Port
  lanes : Four Port
deriving DecidableEq, Repr

/-! ### Clock, cells and writer (11) -/

/-- What the model holds of the monotonic second that falls into the present second of the yard clock. Both count seconds, so
exactly one falls into each whole second of the clock that the part has power for (R182, R184, log 2). -/
inductive MonoSecond where
  /-- it falls before the next advance and is not counted yet -/
  | owed
  /-- the part was without power for some of the second, so one may fall before the next advance, or none -/
  | possible
  /-- it is counted -/
  | counted
deriving DecidableEq, Repr

/-- The yard clock and the monotonic yard seconds (R182, R184). -/
structure Clock where
  day : Nat
  second : Nat
  isSet : Bool
  rolloverTime : Nat
  mono : Nat
  /-- the model's own: the monotonic second of the present second of the clock (log 2) -/
  monoSecond : MonoSecond
  /-- an advance that arrived together with a SET CLOCK still waits behind it, and is absorbed (R183, log 50) -/
  absorbs : Bool
deriving DecidableEq, Repr

/-- The non-volatile cells; `none` is a cell that has never been written. -/
structure Cells where
  cal : Four (Option CalRecord)
  audit : Option Nat
  site : Option Nat
  floor : Option Nat
deriving DecidableEq, Repr

/-- The content of a non-volatile write (R186). -/
inductive NvRequest where
  | floor (value : Nat)
  | site (value : Nat)
  | cal (deck : Deck) (record : CalRecord) (audit : Nat)
deriving DecidableEq, Repr

/-- The cells, the writer and its arbiter, and the store fault (R186). -/
structure NvUnit where
  cells : Cells
  inFlight : Option NvRequest
  waitingFloor : Option NvRequest
  waitingOffice : Option NvRequest
  storeFault : Bool
deriving DecidableEq, Repr

/-! ### The machine -/

/-- The YT24. -/
structure State where
  /-- the part has power and is not held in reset (R185) -/
  power : Bool
  /-- the retention marker (R185) -/
  marker : Bool
  decks : Four DeckUnit
  cal : CalUnit
  visits : VisitTable
  tares : TareStore
  allow : AllowanceUnit
  lanes : Four LaneUnit
  tickets : TicketUnit
  journal : Journal
  templates : TemplateStore
  routes : RouteUnit
  ports : Ports
  clock : Clock
  nv : NvUnit
  /-- the model's counter of free values taken (log 9) -/
  freeIx : Nat
  /-- the commands that wait, first in first out (log 1) -/
  pending : List Instr
deriving DecidableEq, Repr

/-- Conditions in which the machine stops. There is none: the spec describes no condition in which the YT24 halts; link,
barrier and store faults are states of its blocks (R3, R117, R186). Nobody raises a fault; safe. -/
inductive Fault where
deriving DecidableEq, Repr

/-- Reasons for having no meaning for a command. -/
inductive Refusal where
  /-- raised by an arm of `exec` whose command has no meaning yet; no arm is such an arm; safe -/
  | notModelled (mnemonic : String)
deriving DecidableEq, Repr

/-! ### The state right after reset

The cold start (R188) of a new part: cells never written, both 'never written' readings as R28 and R122 give, the arm
resting on its down limit and the printers not ready (DESIGN CHOICE, log 3 and log 4). -/

/-- Four times the same. -/
def Four.all {α : Type} (x : α) : Four α := { one := x, two := x, three := x, four := x }

/-- A deck after a cold start (R26, R24); the 100 ms link silence timer has been started at monotonic time 0 (R2). -/
def DeckUnit.cold : DeckUnit :=
  { phase := .starting, linkLost := false, linkTimer := .until 100, window := [], sum := 0, history := [], fine := 0,
    netFine := 0, gross := 0, valid := false, stable := false, overload := false, underload := false, centre := false,
    occupied := false, zs := 0, trackCount := 0, capture := none, captureLate := 0, threshold := 400, captureTimeout := 15 }

/-- A lane after a cold start with its arm on the down limit (R112, R121, R155). -/
def LaneUnit.cold : LaneUnit :=
  { params := { mode := .closed, direction := .both, autoCapture := false, passTimeout := 60, unannouncedTimeout := 120,
                travelTimeout := 6 },
    seqr := { state := .closed, head := none, released := none, passageArmed := false, passTimer := .stopped,
              unannounced := .stopped, unannouncedLate := 0, raiseWait := false, light := .red, occupied := false },
    sensors := { loopOccupied := true, beam1Broken := true, beam2Broken := true },
    barrier := { state := .down, pendingLower := false, travelTimer := .stopped, limitUp := false, limitDown := true },
    report := { lastCapture := .none, lastReason := none, lastDecision := .none, lastTicket := none },
    printer := { state := .idle, jobs := [], fifo := [], pauseTimer := .stopped, ready := false, byteInProgress := false,
                 paperOut := true, lastResult := .none, deliveryTemplate := 0, collectionTemplate := 0,
                 pauseTimeout := 120 } }

/-- A port after a cold start, with the notices in `set` pending (R181, R188). -/
def Port.cold (set : BitVec 16) (granted : Bool) : Port :=
  { lastCommand := 0, lastResult := .done, reasonStore := false, data := ReplyData.zero, pendingSet := set,
    enabledSet := 0x3FFF#16, busy := false, follow := false, enabled := true, granted := granted, cursor := none,
    journalCursor := 1, reply := none, move := none }

/-- The RESTART COLD record a new part's first start appends as sequence 1 (R188). -/
def RestartInfo.firstCold : RestartInfo := { cold := true, resume := 1, merges := 1, firstStart := { day := 0, second := 0 } }

/-- The machine right after the cold start of a new part (R188). -/
def State.reset : State :=
  { power := true
    marker := true
    decks := Four.all DeckUnit.cold
    cal := { stored := Four.all CalRecord.coldDefault, working := Four.all none, audit := 0, site := none, lock := .switch,
             switchClosed := false, staged := none }
    visits := { records := [], next := 1, queues := Four.all { members := [], generations := Four.all 0 },
                overstayLimit := 240 }
    tares := { entries := [], validity := 90 }
    allow := { categories := [], accounts := [], caps := [], counters := [], yardDay := 0 }
    lanes := Four.all LaneUnit.cold
    tickets := { next := 1, floor := 1, queue := [], floorWrite := none, pendingRestart := none, pendingRollover := none,
                 wait := .none }
    journal := { ring := [(1, { seq := 1, body := .restart RestartInfo.firstCold { day := 0, second := 0 } })], last := 1,
                 mark := 0, reservations := 0 }
    templates := { templates := [], inUse := [], lines := [] }
    routes := { routes := [], outputs := [], inputs := [] }
    ports := { office := Port.cold 0x2000#16 true, lanes := Four.all (Port.cold 0x2000#16 false) }
    clock := { day := 0, second := 0, isSet := false, rolloverTime := 0, mono := 0, monoSecond := .possible,
               absorbs := false }
    nv := { cells := { cal := Four.all none, audit := none, site := none, floor := none }, inFlight := none,
            waitingFloor := none, waitingOffice := none, storeFault := false }
    freeIx := 0
    pending := [] }

end Sys2Proof.Machine
end

