-- ==== Sys2Proof/Config.lean ====
section
/-! DEFINITION. What the spec leaves open, as constants without a body: nothing can be proved of their values, so a claim
holds whatever they are. Each is named in the assumption log. -/

namespace Sys2Proof.Config
open Sys2Proof

/-- The order in which one taking of RESTART LANES, or one start, goes through the lanes (R120: "in any order between
lanes"), by the model's counter of free values: the number of a permutation of the four lanes (log 9). -/
opaque laneOrder : Nat → Fin 24

/-- The monotonic yard seconds after 4 294 967 295, by the counter of free values (R184 gives the range and no wrap;
log 24). -/
opaque monoAfterMax : Nat → BitVec 32

/-- The account status a wire byte stands for, `none` for neither (R85; the code is not given: log 15). -/
opaque accountStatusOf : Byte → Option AccountStatus

/-- The flag a wire byte stands for in an ACCOUNTS or ROUTES write (R85, R157; the code is not given: log 15). -/
opaque flagOf : Byte → Bool

/-- Row `i` of the eight that the 40 row bytes of an ACCOUNTS write have room for is given (R85; how a shorter list is marked
is not told: log 15). -/
opaque rowGiven : List Byte → Nat → Bool

/-- The event kind a wire byte stands for, `none` for no kind (R157; log 15). -/
opaque eventKindOf : Byte → Option EventKind

/-- The code of event index ANY, less 9: modulo 256 a byte outside 1 to 8, which are the indices themselves (R157, R162;
log 15). -/
opaque anyIndexCode : Fin 248

/-- The task kind a wire byte stands for, `none` for no kind (R157; log 15). -/
opaque taskKindOf : Byte → Option TaskKind

/-- The field references carried by the 9 reference bytes of a LINES write, a kind `none` for a byte outside R148's list
(R143; log 15). -/
opaque refsOf : List Byte → List (Option FieldKind × Byte)

/-! ### READ RECORD payloads (R175; log 15)

R175 gives each payload's length and the order of its fields. Where the lengths do not fix the fields' widths, or a value has
no number of its own, the constants below stand for what is not given. -/

open Machine in
/-- A value of a record that is no number: a flag, a state, a kind, a reason, a result. -/
inductive WireValue where
  | flag (x : Bool) | status (x : AccountStatus) | visitKind (x : VisitKind) | visitState (x : VisitState)
  | tareSource (x : TareSource) | reason (x : Reason) | pass (x : PassKind)
  | laneMode (x : LaneMode) | direction (x : Direction) | seqState (x : SeqState) | barrier (x : BarrierState)
  | light (x : Light) | capture (x : CaptureReport) | decision (x : Decision) | engine (x : EngineState)
  | printResult (x : PrintResult) | event (x : EventKind) | task (x : TaskKind) | outcome (x : RouteOutcome)
deriving DecidableEq, Repr

/-- The code a value of a record is sent as. -/
opaque wireCode : WireValue → Byte

/-- The width of field `i` of a record of VISITS, LANE_VISIT, LANES or COUNTERS, in bytes. -/
opaque fieldWidth : Machine.TableId → Nat → Nat

/-- The widths of D, of H and of the free amount of a row in ACCOUNTS and SITE_CAPS, in bytes. -/
opaque debitedWidth : Nat
opaque heldWidth : Nat
opaque freeWidth : Nat

/-- Byte `i` of a field that is absent, in a record that is not empty. -/
opaque absentByte : Nat → Byte

/-- Bits 4 to 7 of the port flags byte of READ STATUS, which R179 names by bits 0 to 3 alone (log 52). -/
opaque portFlagBits : BitVec 4

/-- Byte `i` of the 9 bytes that a line's field references are sent as. -/
opaque refByte : List Machine.FieldRef → Nat → Byte

end Sys2Proof.Config
end

