-- ==== Sys2Proof/Machine/Ops.lean ====
section
/-! DEFINITION. The named operations over the state that every block uses: the four numbered units, the numbered tables,
the reads and writes of one deck, lane or port, times and timers, notices (R171), general outputs (R159), the journal's
lookup (R131) and the non-volatile writer's requests (R186). -/

namespace Sys2Proof

/-- The number of a lane, deck or slot. -/
def Idx.num : Idx → Nat
  | .i1 => 1 | .i2 => 2 | .i3 => 3 | .i4 => 4

/-- The lane, deck or slot with a number, if it is 1 to 4. -/
def Idx.ofNat? : Nat → Option Idx
  | 1 => some .i1 | 2 => some .i2 | 3 => some .i3 | 4 => some .i4 | _ => none

/-- The four numbers in rising order. -/
def Idx.all : List Idx := [.i1, .i2, .i3, .i4]

/-- One of four. -/
def Four.get {α : Type} (f : Four α) : Idx → α
  | .i1 => f.one | .i2 => f.two | .i3 => f.three | .i4 => f.four

/-- Replace one of four. -/
def Four.put {α : Type} (f : Four α) (i : Idx) (x : α) : Four α :=
  match i with
  | .i1 => { f with one := x } | .i2 => { f with two := x } | .i3 => { f with three := x } | .i4 => { f with four := x }

/-- Change each of four. -/
def Four.map {α β : Type} (f : Four α) (g : Idx → α → β) : Four β :=
  { one := g .i1 f.one, two := g .i2 f.two, three := g .i3 f.three, four := g .i4 f.four }

/-- The record listed at an index. -/
def Table.find {α : Type} : Table α → Nat → Option α
  | [], _ => none
  | (j, x) :: t, i => if j = i then some x else Table.find t i

/-- The record at an index, the default where none is listed. -/
def Table.getD {α : Type} (t : Table α) (d : α) (i : Nat) : α := (Table.find t i).getD d

/-- List a record at an index, keeping the indices in rising order. -/
def Table.insert {α : Type} : Table α → Nat → α → Table α
  | [], i, x => [(i, x)]
  | (j, y) :: t, i, x =>
    if i < j then (i, x) :: (j, y) :: t
    else if i = j then (i, x) :: t
    else (j, y) :: Table.insert t i x

/-- List nothing at an index. -/
def Table.erase {α : Type} : Table α → Nat → Table α
  | [], _ => []
  | (j, y) :: t, i => if j = i then Table.erase t i else (j, y) :: Table.erase t i

/-- Make the record at an index `x`, listing nothing for the default. -/
def Table.put {α : Type} [DecidableEq α] (t : Table α) (d : α) (i : Nat) (x : α) : Table α :=
  if x = d then Table.erase t i else Table.insert t i x

/-- Change every listed record. -/
def Table.mapVals {α : Type} (t : Table α) (f : α → α) : Table α := t.map fun p => (p.1, f p.2)

/-- The indices rise strictly. -/
def Table.rising {α : Type} : Table α → Bool
  | [] => true
  | [_] => true
  | (i, _) :: (j, y) :: t => decide (i < j) && Table.rising ((j, y) :: t)

/-- The lowest index below `n` at which nothing is listed. -/
def Table.lowestFree {α : Type} (t : Table α) (n : Nat) : Option Nat :=
  (List.range n).find? fun i => (Table.find t i).isNone

end Sys2Proof

namespace Sys2Proof.Machine
open Sys2Proof

/-! ### One deck, lane, port -/

def State.deck (s : State) (d : Deck) : DeckUnit := s.decks.get d
def State.modDeck (s : State) (d : Deck) (f : DeckUnit → DeckUnit) : State :=
  { s with decks := s.decks.put d (f (s.decks.get d)) }

def State.lane (s : State) (l : Lane) : LaneUnit := s.lanes.get l
def State.modLane (s : State) (l : Lane) (f : LaneUnit → LaneUnit) : State :=
  { s with lanes := s.lanes.put l (f (s.lanes.get l)) }
def State.modSeq (s : State) (l : Lane) (f : Sequencer → Sequencer) : State :=
  s.modLane l fun u => { u with seqr := f u.seqr }
def State.modBarrier (s : State) (l : Lane) (f : Barrier → Barrier) : State :=
  s.modLane l fun u => { u with barrier := f u.barrier }
def State.modReport (s : State) (l : Lane) (f : LaneReport → LaneReport) : State :=
  s.modLane l fun u => { u with report := f u.report }
def State.modPrinter (s : State) (l : Lane) (f : PrintEngine → PrintEngine) : State :=
  s.modLane l fun u => { u with printer := f u.printer }
def State.modParams (s : State) (l : Lane) (f : LaneParams → LaneParams) : State :=
  s.modLane l fun u => { u with params := f u.params }
def State.modSensors (s : State) (l : Lane) (f : LaneSensors → LaneSensors) : State :=
  s.modLane l fun u => { u with sensors := f u.sensors }

def Ports.get (x : Ports) : PortId → Port
  | .office => x.office
  | .lane l => x.lanes.get l
def Ports.put (x : Ports) (p : PortId) (y : Port) : Ports :=
  match p with
  | .office => { x with office := y }
  | .lane l => { x with lanes := x.lanes.put l y }
def State.port (s : State) (p : PortId) : Port := s.ports.get p
def State.modPort (s : State) (p : PortId) (f : Port → Port) : State :=
  { s with ports := s.ports.put p (f (s.ports.get p)) }

/-- The five ports, the office port first. -/
def allPorts : List PortId := [.office, .lane .i1, .lane .i2, .lane .i3, .lane .i4]

/-- The stored calibration record of a deck, or its working copy while it is CALIBRATING (R6). -/
def recordInUse (s : State) (d : Deck) : CalRecord :=
  if (s.deck d).phase = .calibrating then (s.cal.working.get d).getD (s.cal.stored.get d) else s.cal.stored.get d

/-- A deck carries UNCALIBRATED while its stored record holds every cold default value (R15). -/
def uncalibrated (s : State) (d : Deck) : Bool := s.cal.stored.get d = CalRecord.coldDefault

/-! ### Times -/

/-- The yard clock's present time (00_scope, section 4). -/
def nowStamp (s : State) : Stamp := { day := s.clock.day, second := s.clock.second }

/-- The deadline of a timer started now for `ms` milliseconds (R184). -/
def inMs (s : State) (ms : Nat) : Nat := s.clock.mono * 1000 + ms

/-- The deadline of a timer started now for `sec` seconds. -/
def inSec (s : State) (sec : Nat) : Nat := inMs s (sec * 1000)

/-- How many times a command waits in the queue. -/
def State.waiting (s : State) (c : Instr) : Nat := s.pending.count c

/-- The late expiries of a timer that is stopped or started: where it ran, those that wait belong to the run that ends; where
it did not, they are as they were (log 51). -/
def lateAfter (running : Bool) (waiting late : Nat) : Nat := if running then waiting else late

/-- The timer runs (R184). -/
def Timer.running (t : Timer) : Bool := t.deadline.isSome

/-- The timer stopped, with `waiting` of its expiries in the queue. -/
def Timer.stop (waiting : Nat) (t : Timer) : Timer := { deadline := none, late := lateAfter t.running waiting t.late }

/-- The timer started from the beginning, with `waiting` of its expiries in the queue. -/
def Timer.start (waiting deadline : Nat) (t : Timer) : Timer :=
  { deadline := some deadline, late := lateAfter t.running waiting t.late }

/-- A late expiry has been taken. -/
def Timer.forget (t : Timer) : Timer := { t with late := t.late - 1 }

/-! ### Notices (R171) -/

/-- The bit of a notice kind in a notice set (R179). -/
def Notice.bit : Notice → BitVec 16
  | .capture => 0x0001#16 | .decision => 0x0002#16 | .ticket => 0x0004#16 | .print => 0x0008#16 | .paper => 0x0010#16
  | .lane => 0x0020#16 | .deck => 0x0040#16 | .journal => 0x0080#16 | .visit => 0x0100#16 | .allowance => 0x0200#16
  | .calib => 0x0400#16 | .store => 0x0800#16 | .route => 0x1000#16 | .restart => 0x2000#16

/-- The fourteen kinds; bits 14 and 15 name none (R172, R179). -/
def allNotices : BitVec 16 := 0x3FFF#16

/-- Raise a notice at a port: its kind joins the pending set, at a disabled port like any other (R171). -/
def raiseNotice (n : Notice) (p : PortId) (s : State) : State :=
  s.modPort p fun x => { x with pendingSet := x.pendingSet ||| n.bit }

/-- Raise a notice at a lane's port and at the office port. -/
def raiseLaneOffice (n : Notice) (l : Lane) (s : State) : State :=
  raiseNotice n .office (raiseNotice n (.lane l) s)

/-! ### General outputs (R159, R164) -/

def State.output (s : State) (n : Nat) : Output := Table.getD s.routes.outputs Output.cold n
def State.modOutput (s : State) (n : Nat) (f : Output → Output) : State :=
  { s with routes := { s.routes with outputs := Table.put s.routes.outputs Output.cold n (f (s.output n)) } }

/-- The level of an output with its pulse timer stopped. -/
def outputLevel (on : Bool) (n : Nat) (s : State) : State :=
  s.modOutput n fun o => { o with on := on, pulseTimer := o.pulseTimer.stop (s.waiting (.outputPulseExpiry n)) }

/-- OUTPUT_SET: ON, a running pulse stopped. -/
def outputSet (n : Nat) (s : State) : State := outputLevel true n s
/-- OUTPUT_CLEAR: OFF, a running pulse stopped. -/
def outputClear (n : Nat) (s : State) : State := outputLevel false n s
/-- OUTPUT_PULSE: ON, the pulse timer started from the beginning for the output's pulse length. -/
def outputPulse (n : Nat) (s : State) : State :=
  s.modOutput n fun o =>
    { o with on := true, pulseTimer := o.pulseTimer.start (s.waiting (.outputPulseExpiry n)) (inMs s o.pulseLength) }

/-! ### Visits by number -/

/-- The open visit with a number. -/
def findVisit (s : State) (n : Nat) : Option Visit :=
  (s.visits.records.map Prod.snd).find? fun v => v.number = n

/-- Change the open visit with a number. -/
def modVisit (n : Nat) (f : Visit → Visit) (s : State) : State :=
  { s with visits := { s.visits with
      records := Table.mapVals s.visits.records fun v => if v.number = n then f v else v } }

/-- Remove the visit with a number, freeing its entry (R43). -/
def removeVisit (n : Nat) (s : State) : State :=
  { s with visits := { s.visits with records := s.visits.records.filter fun p => p.2.number ≠ n } }

/-- The open visit with a vehicle identifier; there is at most one (R43). -/
def findVehicle (s : State) (v : Text) : Option Visit :=
  (s.visits.records.map Prod.snd).find? fun x => x.vehicle = v

/-- The queue of a lane, oldest first (R46). -/
def queueOf (s : State) (l : Lane) : List (Slot × Nat) := (s.visits.queues.get l).members

/-- The head visit of a lane's queue (R46). -/
def headVisit (s : State) (l : Lane) : Option Visit :=
  match queueOf s l with
  | [] => none
  | (_, n) :: _ => findVisit s n

/-- The visit is the head of the lane's queue. -/
def isHead (s : State) (l : Lane) (n : Nat) : Bool :=
  match queueOf s l with
  | [] => false
  | (_, m) :: _ => decide (m = n)

/-! ### The journal's entries (R131) -/

/-- The oldest retained sequence (R131). -/
def oldestRetained (j : Journal) : Nat := if j.last ≤ 1024 then 1 else j.last - 1023

/-- The retained entry with a sequence number (R131). -/
def retainedEntry (j : Journal) (seq : Nat) : Option JournalEntry :=
  if oldestRetained j ≤ seq ∧ seq ≤ j.last then
    match Table.find j.ring (seq % 1024) with
    | some e => if e.seq = seq then some e else none
    | none => none
  else none

/-! ### The non-volatile writer (R186) -/

/-- A request reaches the writer: it begins when nothing is in flight and waits otherwise (R186). -/
def nvRequest (r : NvRequest) (s : State) : State :=
  match s.nv.inFlight with
  | none => { s with nv := { s.nv with inFlight := some r } }
  | some _ =>
    match r with
    | .floor _ => { s with nv := { s.nv with waitingFloor := some r } }
    | _ => { s with nv := { s.nv with waitingOffice := some r } }

/-- The arbiter serves the next waiting request, a ticket floor request first (R186). -/
def nvServe (s : State) : State :=
  match s.nv.inFlight with
  | some _ => s
  | none =>
    match s.nv.waitingFloor with
    | some r => { s with nv := { s.nv with inFlight := some r, waitingFloor := none } }
    | none =>
      match s.nv.waitingOffice with
      | some r => { s with nv := { s.nv with inFlight := some r, waitingOffice := none } }
      | none => s

/-- The cells with a write's whole content in them (R186). -/
def Cells.written (c : Cells) : NvRequest → Cells
  | .floor v => { c with floor := some v }
  | .site v => { c with site := some v }
  | .cal d r a => { c with cal := c.cal.put d (some r), audit := some a }

/-- The write in flight ends: on success the cells hold its content and the store fault is cleared, on failure the cells
keep theirs and the store fault is set (R186). -/
def nvEnd (ok : Bool) (s : State) : State :=
  match s.nv.inFlight with
  | none => s
  | some r =>
    if ok then { s with nv := { s.nv with cells := s.nv.cells.written r, inFlight := none, storeFault := false } }
    else { s with nv := { s.nv with inFlight := none, storeFault := true } }

/-! ### The lane order (log 9) -/

/-- The permutation of the four lanes with a number below 24: its first lane, then the orders of the other three. -/
def lanePermutation (k : Fin 24) : List Lane :=
  let pick (xs : List Lane) (i : Nat) : List Lane × List Lane :=
    match xs.drop i with
    | [] => ([], xs)
    | y :: ys => ([y], xs.take i ++ ys)
  let a := pick Idx.all (k.val / 6)
  let b := pick a.2 (k.val % 6 / 2)
  let c := pick b.2 (k.val % 2)
  a.1 ++ b.1 ++ c.1 ++ c.2

/-- The order of lanes for this step, and the state with the free value counted. -/
def takeLaneOrder (s : State) : List Lane × State :=
  (lanePermutation (Config.laneOrder s.freeIx), { s with freeIx := s.freeIx + 1 })

/-- A command of a part that has no power, or is held in reset, is not taken (R185); otherwise it has its effect (log 5). -/
def whenRunning (s : State) (f : State → State) : Host.Outcome State Fault Refusal :=
  .next (if s.power then f s else s)

/-- An expiry of a timer of which `late` expiries of ended runs still wait: while there are any, it is one of those and is
forgotten, and otherwise it is taken as any event of a running part (log 51). -/
def whenDue (late : Nat) (forget act : State → State) (s : State) : Host.Outcome State Fault Refusal :=
  if 0 < late then .next (forget s) else whenRunning s act

end Sys2Proof.Machine
end

