-- ==== Sys2Proof/Machine/Flags.lean ====
section
/-! DEFINITION. Every computed flag and figure: the deck's exact arithmetic and its flags (R8 to R14), the free amount and
overrun mark (R79), the journal's room (R133), the port's status byte and attention output (R169, R171). -/

namespace Sys2Proof.Machine
open Sys2Proof

/-! ### Deck arithmetic (01, section 1.3) -/

/-- `p / q` to the nearest whole number, halves away from zero (00_scope section 4, R9). -/
def roundDiv (p : Int) (q : Nat) : Int :=
  let m : Nat := (2 * p.natAbs + q) / (2 * q)
  if p < 0 then -(m : Int) else (m : Int)

/-- The fine weight w of R9, saturated. -/
def fineWeight (r : CalRecord) (f : Int) : Int :=
  let w := roundDiv ((f - (r.n : Int) * r.zc) * (r.k : Int)) (r.n * 65536)
  if w > 999999999 then 999999999 else if w < -999999999 then -999999999 else w

/-- The gross weight G in kilograms for a g_f (R10): the nearest multiple of e. -/
def grossWeight (r : CalRecord) (gf : Int) : Int := roundDiv gf (10 * r.e) * (r.e : Int)

/-- Keep the last `n` of a list with one more value (R8, R12). -/
def keepLast (n : Nat) (xs : List Int) (x : Int) : List Int :=
  (xs ++ [x]).drop (xs.length + 1 - n)

/-- The sum of the counts a window holds (R8). -/
def sumOf : List Int → Int
  | [] => 0
  | x :: xs => x + sumOf xs

/-- The largest value of a list that begins with `m` (R12). -/
def largest (m : Int) : List Int → Int
  | [] => m
  | x :: xs => largest (if m < x then x else m) xs

/-- The smallest value of a list that begins with `m` (R12). -/
def smallest (m : Int) : List Int → Int
  | [] => m
  | x :: xs => smallest (if x < m then x else m) xs

/-- The history is full and its spread within the motion band (R12). -/
def isStable (r : CalRecord) (h : List Int) : Bool :=
  match h with
  | [] => false
  | x :: xs => decide (h.length = r.w) && decide (largest x xs - smallest x xs ≤ (r.mf : Int))

/-- The deck with its weight made invalid: G = 0, five flags clear, history empty, occupancy kept (R8). -/
def DeckUnit.invalid (d : DeckUnit) : DeckUnit :=
  { d with gross := 0, valid := false, stable := false, overload := false, underload := false, centre := false,
           history := [] }

/-- Stage 1, the filter (R8). -/
def filterStage (r : CalRecord) (c : Int) (d : DeckUnit) : DeckUnit :=
  let window := keepLast r.n d.window c
  let full := decide (window.length = r.n)
  let d := { d with window := window, sum := sumOf window,
                    phase := if full && decide (d.phase = DeckPhase.starting) then .active else d.phase }
  if full && !d.linkLost then { d with valid := true } else d.invalid

/-- Stages 2 to 8 on a deck whose weight is valid (R9 to R14). -/
def weighStages (r : CalRecord) (d : DeckUnit) : DeckUnit :=
  let w := fineWeight r d.sum
  let gf := w - d.zs
  let g := grossWeight r gf
  let h := keepLast r.w d.history gf
  let t : Int := d.threshold
  { d with fine := w, netFine := gf, gross := g,
           overload := decide (g > (r.max : Int) + 9 * (r.e : Int)),
           underload := decide (g < -(20 * (r.e : Int))),
           history := h, stable := isStable r h,
           occupied := if d.occupied then !decide (gf < 5 * t) else decide (gf ≥ 10 * t),
           centre := decide (4 * (gf.natAbs : Int) ≤ 10 * (r.e : Int)) }

/-- The eight stages of one OK sample (R7). -/
def eightStages (r : CalRecord) (c : Int) (d : DeckUnit) : DeckUnit :=
  let d := filterStage r c d
  if d.valid then weighStages r d else d

/-- Zs takes a new value and every value of the history is reduced by the change (R12, section 2.7). -/
def DeckUnit.setZero (d : DeckUnit) (z : Int) : DeckUnit :=
  { d with zs := z, history := d.history.map fun h => h - (z - d.zs) }

/-- 25·|x| ≤ Max_f: within 4 % of the capacity (section 2.7, R39, R40, R42). -/
def withinZeroRange (r : CalRecord) (x : Int) : Bool := decide (25 * x.natAbs ≤ 10 * r.max)

/-- A record is legal (R27). -/
def CalRecord.legal (r : CalRecord) : Bool :=
  decide (r.e = 5 ∨ r.e = 10 ∨ r.e = 20 ∨ r.e = 50 ∨ r.e = 100)
  && decide (r.max % r.e = 0 ∧ 500 ≤ r.max / r.e ∧ r.max / r.e ≤ 10000 ∧ r.max ≤ 150000)
  && decide (r.n = 4 ∨ r.n = 8 ∨ r.n = 16 ∨ r.n = 32)
  && decide (2 ≤ r.w ∧ r.w ≤ 32)
  && decide (1 ≤ r.mf ∧ r.mf ≤ 3 * (10 * r.e))
  && decide (-8388608 ≤ r.zc ∧ r.zc ≤ 8388607)
  && decide (1 ≤ r.k ∧ r.k ≤ 16777215)

/-! ### Rows (R79) -/

/-- The free amount A − D − H (R79). -/
def Amounts.free (a : Amounts) : Int := (a.allow : Int) - a.debited - a.held

/-- The overrun mark recomputed (R79). -/
def Amounts.recompute (a : Amounts) : Amounts := { a with overrun := decide (a.free < 0) }

/-! ### The journal's room (R133) -/

def unarchived (j : Journal) : Nat := j.last - j.mark
def committed (j : Journal) : Nat := unarchived j + j.reservations

/-- Sequence numbers are left (R131). -/
def sequenceLeft (j : Journal) : Bool := decide (j.last < 4294967295)

/-- Room under the ticket limit (R133). -/
def ticketRoom (j : Journal) : Bool := sequenceLeft j && decide (committed j < 1016)

/-- System room (R133). -/
def systemRoom (j : Journal) : Bool :=
  sequenceLeft j && decide (committed j < if j.reservations = 0 then 1024 else 1016)

/-! ### Ports (R169, R171, R179) -/

/-- The value of a result code (R179). -/
def Result.code : Result → BitVec 4
  | .done => 0x0#4 | .held => 0x1#4 | .busy => 0x2#4 | .framing => 0x3#4 | .denied => 0x4#4 | .noSuch => 0x5#4
  | .unmapped => 0x6#4 | .gone => 0x7#4 | .state => 0x8#4 | .range => 0x9#4 | .full => 0xA#4 | .locked => 0xB#4
  | .motion => 0xC#4 | .failed => 0xD#4

/-- The attention output: some kind is both pending and enabled (R171). -/
def Port.attention (x : Port) : Bool := decide (x.pendingSet &&& x.enabledSet ≠ 0#16)

/-- The status byte a port shifts out during the first byte of an exchange (R169, R179). -/
def Port.statusByte (x : Port) : Byte :=
  BitVec.ofBool x.busy ++ BitVec.ofBool (decide (x.pendingSet ≠ 0#16)) ++ BitVec.ofBool x.follow
    ++ BitVec.ofBool x.attention ++ x.lastResult.code

/-- The barrier's drive: upward in RAISING, downward in LOWERING, off otherwise (R114). -/
inductive Drive where
  | off | upward | downward
deriving DecidableEq, Repr

def Barrier.drive (b : Barrier) : Drive :=
  match b.state with
  | .raising => .upward
  | .lowering => .downward
  | .down | .up | .fault => .off

end Sys2Proof.Machine
end

