-- ==== Sys2Proof/Machine/Operands.lean ====
section
/-! DEFINITION. Every operand form: lane and deck bytes, handles and visit references (R47, R48, R173, R178), vehicle
identifiers and text fields (R49, R77, R143, R179), the CAL SET fields (R32), the codes and sizes of tables (R175) and of
commands (R178), and the WRITE RECORD layouts (R175, R176). -/

namespace Sys2Proof.Machine
open Sys2Proof

/-! ### Text -/

/-- A to Z. -/
def isUpper (c : Byte) : Bool := decide (65 ≤ c.toNat ∧ c.toNat ≤ 90)
/-- a to z. -/
def isLower (c : Byte) : Bool := decide (97 ≤ c.toNat ∧ c.toNat ≤ 122)
/-- 0 to 9. -/
def isDigit (c : Byte) : Bool := decide (48 ≤ c.toNat ∧ c.toNat ≤ 57)
/-- The characters of a vehicle identifier (00_scope, section 4). -/
def isVehicleChar (c : Byte) : Bool := isUpper c || isDigit c
/-- The characters of a category's or template's name: A to Z, 0 to 9, space and hyphen (R76, R142). That the bytes of a write
or a payload carry them at R150's codes is the model's choice (log 49). -/
def isNameChar (c : Byte) : Bool := isUpper c || isDigit c || decide (c = 32#8) || decide (c = 45#8)
/-- The characters of a line's literal (R143). Their codes are R150's for the printed bytes, and that the bytes of a write or
a payload carry the same ones is the model's choice (log 49). -/
def isLiteralChar (c : Byte) : Bool :=
  isUpper c || isLower c || isDigit c || [32, 46, 44, 58, 45, 47, 40, 41, 35, 42].contains c.toNat

/-- A field without the 0x00 bytes that fill it (R179 for a vehicle id; log 15 for a name and a literal). -/
def unfill (bs : List Byte) : Text := (bs.reverse.dropWhile fun b => decide (b = 0#8)).reverse

/-- The vehicle identifier of a 10-byte field, `none` when it is malformed (R49, R179). -/
def vehicleOf (bs : List Byte) : Option Text :=
  let v := unfill bs
  if v.length = 0 ∨ 10 < v.length then none
  else if v.all isVehicleChar then some v else none

/-- A name of 0 to 12 legal characters (R77, R144). -/
def legalName (n : Text) : Bool := decide (n.length ≤ 12) && n.all isNameChar

/-! ### Lanes, decks and visits named by a command -/

/-- A lane port permits lane byte 0 or its own number; the office port permits any byte (R173). -/
def laneBytePermitted (p : PortId) (b : Byte) : Bool :=
  match p with
  | .office => true
  | .lane l => decide (b.toNat = 0) || decide (b.toNat = l.num)

/-- The lane a permitted lane byte means: the port's own, or from the office the lane 1 to 4 it names (R48, R173, R178). -/
def laneOf (p : PortId) (b : Byte) : Option Lane :=
  match p with
  | .office => Idx.ofNat? b.toNat
  | .lane l => some l

/-- ZERO DECK is permitted at a lane port for its own deck (R173). -/
def deckBytePermitted (p : PortId) (b : Byte) : Bool :=
  match p with
  | .office => true
  | .lane l => decide (b.toNat = l.num)

/-- The handle a lane port's visit reference carries: slot, then generation (R178). -/
def handleOf (ref : BitVec 16) : Handle := { slot := ref.toNat / 256, generation := ref.toNat % 256 }

/-- A handle translated against a lane (R47): the visit number in the slot, or the refusal. -/
def translateHandle (s : State) (l : Lane) (h : Handle) : Except Result Nat :=
  match Idx.ofNat? h.slot with
  | none => .error .range
  | some slot =>
    if 15 < h.generation then .error .range
    else
      match (queueOf s l).find? fun m => m.1 = slot with
      | none => .error .unmapped
      | some (_, n) =>
        if (s.visits.queues.get l).generations.get slot = h.generation then .ok n else .error .gone

/-- The visit a RELEASE or CAPTURE names: by handle from a lane port, by number from the office, which must name an open
visit that is in the lane's queue (R47, R48). -/
def visitOf (s : State) (p : PortId) (l : Lane) (ref : BitVec 16) : Except Result Nat :=
  match p with
  | .lane _ => translateHandle s l (handleOf ref)
  | .office =>
    match findVisit s ref.toNat with
    | none => .error .noSuch
    | some v => if (queueOf s l).any fun m => m.2 = v.number then .ok v.number else .error .state

/-- A visit's handle when it is at a lane: its slot, and the generation the slot has had since it joined (R47). -/
def visitHandle (s : State) (v : Visit) : Option Handle :=
  v.place.map fun pl => { slot := pl.slot.num, generation := (s.visits.queues.get pl.lane).generations.get pl.slot }

/-- The kind byte of ANNOUNCE (R178). -/
def kindOf (b : Byte) : Option VisitKind :=
  match b.toNat with
  | 1 => some .delivery | 2 => some .collection | _ => none

/-- The record CAL SET carries, `none` when an enumerated byte names no value (R32, R178). -/
def calRecordOf (f : CalFields) : Option CalRecord :=
  match f.tracking.toNat with
  | 0 => some { max := f.max.toNat, e := f.e.toNat, n := f.n.toNat, w := f.w.toNat, mf := f.mf.toNat, tracking := false,
                zc := f.zc.toInt, k := f.k.toNat }
  | 1 => some { max := f.max.toNat, e := f.e.toNat, n := f.n.toNat, w := f.w.toNat, mf := f.mf.toNat, tracking := true,
                zc := f.zc.toInt, k := f.k.toNat }
  | _ => none

/-! ### Tables (R175) -/

/-- The code of a table. -/
def TableId.code : TableId → Nat
  | .categories => 1 | .accounts => 2 | .siteCaps => 3 | .counters => 4 | .tares => 5 | .visits => 6
  | .laneVisit => 7 | .lanes => 8 | .templates => 9 | .lines => 10 | .routes => 11 | .journal => 12

/-- The table with a code. -/
def TableId.ofCode? : Nat → Option TableId
  | 1 => some .categories | 2 => some .accounts | 3 => some .siteCaps | 4 => some .counters | 5 => some .tares
  | 6 => some .visits | 7 => some .laneVisit | 8 => some .lanes | 9 => some .templates | 10 => some .lines
  | 11 => some .routes | 12 => some .journal | _ => none

/-- The last index of a table. -/
def TableId.lastIndex : TableId → Nat
  | .categories => 7 | .accounts => 255 | .siteCaps => 7 | .counters => 7 | .tares => 511 | .visits => 63
  | .laneVisit => 3 | .lanes => 3 | .templates => 3 | .lines => 95 | .routes => 31 | .journal => 4294967295

/-- The read payload of a table, in bytes. -/
def TableId.payload : TableId → Nat
  | .categories => 18 | .accounts => 198 | .siteCaps => 24 | .counters => 18 | .tares => 25 | .visits => 96
  | .laneVisit => 48 | .lanes => 64 | .templates => 15 | .lines => 35 | .routes => 6 | .journal => 73

/-- The write length of a table, in bytes, where it has one. -/
def TableId.writeLength : TableId → Option Nat
  | .categories => some 17 | .accounts => some 46 | .siteCaps => some 5 | .tares => some 16 | .templates => some 15
  | .lines => some 35 | .routes => some 6
  | .counters | .visits | .laneVisit | .lanes | .journal => none

/-- The index after `i`, from the last index to 0 (R175). -/
def TableId.after (t : TableId) (i : Nat) : Nat := if i = t.lastIndex then 0 else i + 1

/-- A port may select and read a table at an index (R173, R175). -/
def tablePermitted (s : State) (p : PortId) (t : TableId) (i : Nat) : Bool :=
  match p with
  | .office => true
  | .lane l =>
    match t with
    | .categories => true
    | .lanes => decide (i + 1 = l.num)
    | .laneVisit => true
    | .counters => (s.port p).granted
    | .accounts | .siteCaps | .tares | .visits | .templates | .lines | .routes | .journal => false

/-! ### Numbers in bytes (R179) -/

/-- The number some bytes spell, most significant first (R179). -/
def beNat (bs : List Byte) : Nat := bs.foldl (fun a b => a * 256 + b.toNat) 0

/-- The next `n` bytes after the first `i`. -/
def field (bs : List Byte) (i n : Nat) : List Byte := (bs.drop i).take n

/-- The rows an ACCOUNTS write carries: 40 bytes are eight rows of a category and an allowance A, in order (R85); which of
them a shorter list gives is open (log 15). -/
def rowsOf (bs : List Byte) : List (Byte × BitVec 32) :=
  ((List.range 8).filter fun i => Config.rowGiven bs i).map fun i =>
    (BitVec.ofNat 8 (beNat (field bs (5 * i) 1)), BitVec.ofNat 32 (beNat (field bs (5 * i + 1) 4)))

/-- The byte that event index ANY is sent as, none of the indices 1 to 8 (R162; log 15). -/
def anyIndexByte : Byte := BitVec.ofNat 8 (9 + Config.anyIndexCode.val)

/-- The event index a byte of a ROUTES write stands for, `none` for ANY: any other byte is the number itself (R157, R162,
R179; log 15). -/
def eventIndexOf (b : Byte) : Option Byte := if b = anyIndexByte then none else some b

/-! ### The WRITE RECORD layouts

Each write begins with its operation byte, and the fields follow in the owner's order (R175); the widths are the ones that
fill each table's write length (DEDUCED, log 15). -/

/-- A write the owner of a table is handed (R176). -/
inductive TableWrite where
  | category (name : Text) (reserve : Nat)
  | categoryRemove
  | account (w : AccountWrite)
  | accountDelete
  | siteCap (cap : Nat)
  | siteCapEmpty
  | tare (vehicle : List Byte) (tare deck : Nat)
  | tareDelete
  | template (name : Text) (head : Nat)
  | templateEmpty
  | line (w : LineWrite)
  | route (w : RouteWrite)
deriving DecidableEq, Repr

/-- The write that the bytes of a WRITE RECORD to a table spell; `none` for an operation byte the table has no request for
(log 14). -/
def tableWriteOf (t : TableId) (bs : List Byte) : Option TableWrite :=
  let op := beNat (field bs 0 1)
  match t with
  | .categories =>
    if op = 0 then some (.category (unfill (field bs 1 12)) (beNat (field bs 13 4)))
    else if op = 1 then some .categoryRemove else none
  | .accounts =>
    if op = 0 then
      some (.account { number := BitVec.ofNat 16 (beNat (field bs 1 2)),
                       status := Config.accountStatusOf (BitVec.ofNat 8 (beNat (field bs 3 1))),
                       keepTares := Config.flagOf (BitVec.ofNat 8 (beNat (field bs 4 1))),
                       storedTareAllowed := Config.flagOf (BitVec.ofNat 8 (beNat (field bs 5 1))),
                       rows := rowsOf (field bs 6 40) })
    else if op = 1 then some .accountDelete else none
  | .siteCaps =>
    if op = 0 then some (.siteCap (beNat (field bs 1 4))) else if op = 1 then some .siteCapEmpty else none
  | .tares =>
    if op = 0 then some (.tare (field bs 1 10) (beNat (field bs 11 4)) (beNat (field bs 15 1)))
    else if op = 1 then some .tareDelete else none
  | .templates =>
    if op = 0 then some (.template (unfill (field bs 1 12)) (beNat (field bs 13 1)))
    else if op = 1 then some .templateEmpty else none
  | .lines =>
    if op = 0 then
      some (.line { next := BitVec.ofNat 8 (beNat (field bs 1 1)), literal := unfill (field bs 2 24),
                    refs := Config.refsOf (field bs 26 9) })
    else none
  | .routes =>
    if op = 0 then
      some (.route { enabled := Config.flagOf (BitVec.ofNat 8 (beNat (field bs 1 1))),
                     event := Config.eventKindOf (BitVec.ofNat 8 (beNat (field bs 2 1))),
                     eventIndex := eventIndexOf (BitVec.ofNat 8 (beNat (field bs 3 1))),
                     task := Config.taskKindOf (BitVec.ofNat 8 (beNat (field bs 4 1))),
                     taskIndex := BitVec.ofNat 8 (beNat (field bs 5 1)) })
    else none
  | .counters | .visits | .laneVisit | .lanes | .journal => none

end Sys2Proof.Machine
end

