-- ==== Sys2Proof/Machine/Barriers.lean ====
section
/-! DEFINITION. The barrier controller's requests (R114) and the deck's side of a capture start (R17, R18): the two things
route tasks and the sequencer both ask for. Neither raises an event. -/

namespace Sys2Proof.Machine
open Sys2Proof

/-- The travel timer started now at a lane, for its travel timeout (R114). -/
def travelStarted (s : State) (l : Lane) (t : Timer) : Timer :=
  t.start (s.waiting (.travelTimeout l)) (inSec s (s.lane l).params.travelTimeout)

/-- The travel timer stopped now at a lane (R116, R117). -/
def travelStopped (s : State) (l : Lane) (t : Timer) : Timer := t.stop (s.waiting (.travelTimeout l))

/-- A raise request (R114). -/
def raiseRequest (l : Lane) (s : State) : State :=
  s.modBarrier l fun b =>
    match b.state with
    | .down | .lowering =>
      { b with state := .raising, pendingLower := false, travelTimer := travelStarted s l b.travelTimer }
    | .raising | .up => { b with pendingLower := false }
    | .fault => b

/-- A lower request (R114): started only with the loop CLEAR, kept pending otherwise. -/
def lowerRequest (l : Lane) (s : State) : State :=
  s.modBarrier l fun b =>
    match b.state with
    | .raising | .up =>
      if (s.lane l).sensors.loopOccupied then { b with pendingLower := true }
      else { b with state := .lowering, pendingLower := false, travelTimer := travelStarted s l b.travelTimer }
    | .down | .lowering | .fault => b

/-- A lower requested when the barrier is not DOWN (R103). A request in DOWN changes nothing (R114). -/
def lowerUnlessDown (l : Lane) (s : State) : State :=
  if (s.lane l).barrier.state = .down then s else lowerRequest l s

/-- The code with which the lane's deck refuses a capture start, `none` where it accepts (R18). -/
def startRefusal (s : State) (l : Lane) : Option Result :=
  let d := s.deck l
  if d.capture.isSome then some .state
  else if d.phase = .fault ∨ d.phase = .calibrating then some .state
  else if uncalibrated s l then some .state
  else if d.overload ∨ d.underload then some .range
  else none

/-- An accepted start: the capture record with its deadline (R17, R20), and CAPTURING in an AUTO lane (R100, R111). -/
def acceptStart (l : Lane) (visit : Nat) (s : State) : State :=
  let s := s.modDeck l fun d => { d with capture := some { visit := visit, deadline := inSec s d.captureTimeout } }
  if (s.lane l).params.mode = .auto then s.modSeq l fun q => { q with state := .capturing } else s

/-- The report a refused automatic or routed start leaves (R101, R161). -/
def reportNotStarted (l : Lane) (code : Result) (s : State) : State :=
  s.modReport l fun r => { r with lastCapture := .notStarted code }

/-! ### The head's class (R99) -/

inductive HeadClass where
  | capturable | cleared | holding | none
deriving DecidableEq, Repr

/-- The class of a visit state (R99). -/
def classOf : VisitState → HeadClass
  | .announced | .attached => .capturable
  | .firstWeighed | .ticketed | .ticketedOnSite => .cleared
  | .awaitingTicket | .refused | .disputed => .holding

/-- The class of the head the lane's sequencer keeps (R99). -/
def headClass (s : State) (l : Lane) : HeadClass :=
  match (s.lane l).seqr.head with
  | none => .none
  | some (_, st) => classOf st

/-- The number of the head the lane's sequencer keeps (R99). -/
def headNumber (s : State) (l : Lane) : Option Nat := (s.lane l).seqr.head.map Prod.fst

/-- The head of a lane's queue as the visit table hands it: its number and state (R46). -/
def presentHead (s : State) (l : Lane) : Option (Nat × VisitState) := (headVisit s l).map fun v => (v.number, v.state)

end Sys2Proof.Machine
end

