-- ==== Sys2Proof/Machine/Routes.lean ====
section
/-! DEFINITION. The route unit: tasks and whether they are taken (R159 to R161), and what an event fires (R156 to R158). A
taken task raises no event (R158), so firing is one pass over the table. -/

namespace Sys2Proof.Machine
open Sys2Proof

/-- A light task: taken in MANUAL and CLOSED; in MANUAL it cancels a MANUAL RAISE's wait for UP (R160). -/
def lightTask (light : Light) (l : Lane) (s : State) : Bool × State :=
  match (s.lane l).params.mode with
  | .auto => (false, s)
  | .manual => (true, s.modSeq l fun q => { q with light := light, raiseWait := false })
  | .closed => (true, s.modSeq l fun q => { q with light := light })

/-- A barrier task is taken in MANUAL with the barrier not in FAULT (R160). -/
def barrierTask (request : Lane → State → State) (l : Lane) (s : State) : Bool × State :=
  if (s.lane l).params.mode = .manual ∧ (s.lane l).barrier.state ≠ .fault then (true, request l s) else (false, s)

/-- A capture start made for the head the sequencer keeps, by auto-capture or a task: taken when the deck accepts it, and
otherwise reported with the deck's code (R101, R161). -/
def startForHead (l : Lane) (n : Nat) (s : State) : Bool × State :=
  match startRefusal s l with
  | none => (true, acceptStart l n s)
  | some code => (false, reportNotStarted l code s)

/-- A START_CAPTURE task (R111, R161). The head the sequencer keeps must still be the head of the queue, for a capture is made
for no other visit (R17): the model's choice where a VOID's own append fires the task between the departure and the hand-over
of the new head (R62; log 39). -/
def startCaptureTask (l : Lane) (s : State) : Bool × State :=
  if (s.lane l).params.mode = .auto ∧ (s.lane l).seqr.state = .occupied ∧ headClass s l = .capturable then
    match headNumber s l with
    | none => (false, s)
    | some n => if isHead s l n then startForHead l n s else (false, s)
  else (false, s)

/-- The port a NOTICE task names: 0 the office port, 1 to 4 the lane ports (R161). -/
def taskPort : Nat → Option PortId
  | 0 => some .office
  | n + 1 => (Idx.ofNat? (n + 1)).map PortId.lane

/-- A task on a lane; R162 admits only lanes 1 to 4. -/
def onTaskLane (i : Nat) (s : State) (f : Lane → State → Bool × State) : Bool × State :=
  match Idx.ofNat? i with
  | none => (false, s)
  | some l => f l s

/-- Hand a task to the block that owns what it acts on: whether it is taken, and its effect (R158 to R161). -/
def takeTask (t : TaskKind) (i : Nat) (s : State) : Bool × State :=
  match t with
  | .outputSet => (true, outputSet i s)
  | .outputClear => (true, outputClear i s)
  | .outputPulse => (true, outputPulse i s)
  | .lightRed => onTaskLane i s (lightTask .red)
  | .lightGreen => onTaskLane i s (lightTask .green)
  | .barrierRaise => onTaskLane i s (barrierTask raiseRequest)
  | .barrierLower => onTaskLane i s (barrierTask lowerRequest)
  | .startCapture => onTaskLane i s startCaptureTask
  | .notice =>
    match taskPort i with
    | none => (false, s)
    | some p => (true, raiseNotice .route p s)

/-- A route matches an event (R157). -/
def Route.fires (r : Route) (k : EventKind) (idx : Option Nat) : Bool :=
  r.enabled && decide (r.event = k) &&
    (match r.eventIndex with
     | none => true
     | some n => decide (idx = some n))

/-- Record a route's outcome (R158). -/
def setOutcome (i : Nat) (taken : Bool) (s : State) : State :=
  { s with routes := { s.routes with
      routes := s.routes.routes.map fun p =>
        if p.1 = i then (p.1, { p.2 with outcome := if taken then .taken else .refused }) else p } }

/-- Fire one record for an event, if it matches (R158). -/
def fireRoute (k : EventKind) (idx : Option Nat) (s : State) (p : Nat × Route) : State :=
  if p.2.fires k idx then
    let (taken, s') := takeTask p.2.task p.2.taskIndex s
    setOutcome p.1 taken s'
  else s

/-- Raise an event: every route that matches it fires, in rising order of record index (R158). -/
def raiseEvent (k : EventKind) (idx : Option Nat) (s : State) : State :=
  s.routes.routes.foldl (fireRoute k idx) s

/-- Raise an event whose index is a deck or lane. -/
def raiseAt (k : EventKind) (l : Lane) (s : State) : State := raiseEvent k (some l.num) s

/-- A route whose task is START_CAPTURE at a lane. -/
def Route.startsCapture (r : Route) (l : Lane) : Bool :=
  decide (r.task = TaskKind.startCapture) && decide (r.taskIndex = l.num)

/-- Fire one record while the head of lane `l` is leaving its queue: a START_CAPTURE there is refused (log 28). -/
def fireRouteLeaving (l : Lane) (k : EventKind) (idx : Option Nat) (s : State) (p : Nat × Route) : State :=
  if p.2.fires k idx && p.2.startsCapture l then setOutcome p.1 false s else fireRoute k idx s p

/-- Raise an event of lane `l` while its head is leaving the queue: no capture starts there, for a head cannot leave with a
capture in flight (R52, log 28). -/
def raiseLeaving (k : EventKind) (l : Lane) (s : State) : State :=
  s.routes.routes.foldl (fireRouteLeaving l k (some l.num)) s

end Sys2Proof.Machine
end

