-- ==== Sys2Proof/Machine/Sequencers.lean ====
section
/-! DEFINITION. The lane sequencer (R99 to R113): entering its states, settling (R103), what it does with a new head or a
new head state, and its two timers' conditions (R109, R110). The hand-over of a passed vehicle to the visit table stands
in Passages.lean. -/

namespace Sys2Proof.Machine
open Sys2Proof

/-- The unannounced occupancy timer as its two conditions now stand, the deck occupied and the queue empty: started when
both come to hold and stopped when either ends. An expired one is stopped, and can start again, only once both have ended
since, together or one after the other (R110, log 17). -/
def UnannouncedTimer.sync (t : UnannouncedTimer) (occupied empty : Bool) (deadline : Nat) : UnannouncedTimer :=
  match t with
  | .stopped => if occupied && empty then .running deadline else .stopped
  | .running d => if occupied && empty then .running d else .stopped
  | .spent deckEnded queueEnded =>
    let deckEnded := deckEnded || !occupied
    let queueEnded := queueEnded || !empty
    if deckEnded && queueEnded then .stopped else .spent deckEnded queueEnded

/-- The timer runs. -/
def UnannouncedTimer.runs : UnannouncedTimer → Bool
  | .running _ => true
  | .stopped | .spent _ _ => false

/-- The lane's timer in its next condition; a run that ends leaves its waiting expiries late (log 51). -/
def setUnannounced (l : Lane) (f : Sequencer → UnannouncedTimer) (s : State) : State :=
  s.modSeq l fun q =>
    { q with unannounced := f q,
             unannouncedLate := lateAfter (q.unannounced.runs && !(f q).runs)
               (s.waiting (.unannouncedOccupancyTimeout l)) q.unannouncedLate }

/-- The lane's timer follows its two conditions (R110). -/
def syncUnannounced (l : Lane) (s : State) : State :=
  let deadline := inSec s (s.lane l).params.unannouncedTimeout
  setUnannounced l (fun q => q.unannounced.sync q.occupied (queueOf s l).isEmpty deadline) s

/-- The pass timer started now at a lane, for its pass timeout (R109). -/
def passStarted (s : State) (l : Lane) (t : Timer) : Timer :=
  t.start (s.waiting (.passTimeout l)) (inSec s (s.lane l).params.passTimeout)

/-- The pass timer stopped now at a lane (R109). -/
def passStopped (s : State) (l : Lane) (t : Timer) : Timer := t.stop (s.waiting (.passTimeout l))

/-- OPEN: the light green, the pass timer started; with the loop already OCCUPIED, at once PASSING with the passage armed
(R105). -/
def enterOpen (l : Lane) (s : State) : State :=
  if (s.lane l).sensors.loopOccupied then
    s.modSeq l fun q =>
      { q with state := .passing, light := .green, passTimer := passStopped s l q.passTimer, passageArmed := true }
  else
    s.modSeq l fun q =>
      { q with state := .opened, light := .green, passTimer := passStarted s l q.passTimer }

/-- RELEASING: the released visit is the head, the light red, a raise requested; with the barrier already UP, at once OPEN
(R105). -/
def enterReleasing (l : Lane) (s : State) : State :=
  let s := s.modSeq l fun q =>
    { q with state := .releasing, light := .red, released := headNumber s l }
  let s := raiseRequest l s
  if (s.lane l).barrier.state = .up then enterOpen l s else s

/-- HELD from a holding head: the light red, a lower requested unless DOWN, no released visit (R103). -/
def enterHeld (l : Lane) (s : State) : State :=
  lowerUnlessDown l
    (s.modSeq l fun q =>
      { q with state := .held, light := .red, released := none, passTimer := passStopped s l q.passTimer })

/-- An auto-capture start for the head (R101). -/
def autoStart (l : Lane) (s : State) : State :=
  match headNumber s l with
  | none => s
  | some n => (startForHead l n s).2

/-- Act by the class of the head in OCCUPIED; `auto` says that the moment is one at which auto-capture is tried (R100). -/
def actInOccupied (l : Lane) (auto : Bool) (s : State) : State :=
  match headClass s l with
  | .capturable => if auto && (s.lane l).params.autoCapture then autoStart l s else s
  | .cleared => enterReleasing l s
  | .holding => enterHeld l s
  | .none => s

/-- OCCUPIED, as an entry (R100). -/
def enterOccupied (l : Lane) (s : State) : State :=
  actInOccupied l true (s.modSeq l fun q => { q with state := .occupied, light := .red })

/-- IDLE (R100). -/
def enterIdle (l : Lane) (s : State) : State :=
  s.modSeq l fun q => { q with state := .idle, light := .red }

/-- What follows DOWN in CLOSING: OCCUPIED as an entry when the deck is occupied, else IDLE (R108). -/
def closingDone (l : Lane) (s : State) : State :=
  if (s.lane l).seqr.occupied then enterOccupied l s else enterIdle l s

/-- CLOSING: the light red, a lower requested, no released visit; with the barrier already DOWN it goes on at once (R108). -/
def enterClosing (l : Lane) (s : State) : State :=
  let s := lowerRequest l
    (s.modSeq l fun q =>
      { q with state := .closing, light := .red, released := none, passTimer := passStopped s l q.passTimer })
  if (s.lane l).barrier.state = .down then closingDone l s else s

/-- HELD because the barrier is in FAULT, the released visit kept; a vehicle already under the arm arms the passage (R103,
R104, log 18). -/
def enterFaultHeld (l : Lane) (s : State) : State :=
  s.modSeq l fun q =>
    { q with state := .held, light := .red, passTimer := passStopped s l q.passTimer,
             passageArmed := q.passageArmed || (q.released.isSome && (s.lane l).sensors.loopOccupied) }

/-- Settling (R103). On leaving the FAULT the passage watched there is disarmed (log 19). -/
def settle (l : Lane) (s : State) : State :=
  if (s.lane l).barrier.state = .fault then
    s.modSeq l fun q => { q with state := .held, light := .red }
  else
    let s := s.modSeq l fun q => { q with passageArmed := false }
    match headClass s l with
    | .holding => enterHeld l s
    | .cleared =>
      if (s.lane l).seqr.occupied then enterReleasing l s
      else if (s.lane l).barrier.state = .down then
        enterIdle l (s.modSeq l fun q => { q with released := none })
      else enterClosing l s
    | .capturable | .none =>
      if (s.lane l).barrier.state ≠ .down then enterClosing l s
      else if (s.lane l).seqr.occupied then
        enterOccupied l (s.modSeq l fun q => { q with released := none })
      else enterIdle l (s.modSeq l fun q => { q with released := none })

/-- The hand-over of a head to an AUTO sequencer: `fresh` for a new head, else a new state of the head (R100, R102, R103,
R107). A head that becomes holding takes IDLE and CLOSING to HELD too (R103, log 20). -/
def handHeadAuto (l : Lane) (fresh : Bool) (s : State) : State :=
  match (s.lane l).seqr.state with
  | .occupied => actInOccupied l fresh s
  | .capturing =>
    match headClass s l with
    | .cleared => enterReleasing l s
    | .holding => enterHeld l s
    | .capturable | .none => s
  | .held => settle l s
  | .releasing | .opened =>
    if headNumber s l ≠ (s.lane l).seqr.released then enterClosing l s
    else if headClass s l = .holding then enterHeld l s
    else s
  | .idle | .closing => if headClass s l = .holding then enterHeld l s else s
  | .passing | .manual | .closed => s

/-- The sequencer keeps the head it is handed (R99). -/
def keepHead (l : Lane) (s : State) : State := s.modSeq l fun q => { q with head := presentHead s l }

/-- The visit table hands a lane its head (R46). In MANUAL and CLOSED no state moves (R112, R113). -/
def handHead (l : Lane) (fresh : Bool) (s : State) : State :=
  let s := keepHead l s
  if (s.lane l).params.mode = .auto then handHeadAuto l fresh s else s

/-- CLOSED: the light red and a lower requested (R112). -/
def enterClosed (l : Lane) (s : State) : State :=
  lowerRequest l (s.modSeq l fun q => { q with state := .closed, light := .red })

/-- MANUAL by a mode write or a start: the light red, the barrier as it stands (R113). -/
def enterManual (l : Lane) (s : State) : State :=
  s.modSeq l fun q => { q with state := .manual, light := .red }

/-- The timers stopped, the passage disarmed and the released visit cleared (R96, R120). An unannounced timer that has expired
is stopped too, and so starts again from the restart if its conditions hold: the model's choice between two sentences of R110
(log 47). -/
def stopLane (l : Lane) (s : State) : State :=
  setUnannounced l (fun _ => .stopped)
    (s.modSeq l fun q =>
      { q with passTimer := passStopped s l q.passTimer, passageArmed := false, released := none })

/-- A MANUAL RAISE's wait for UP is cancelled (R113). -/
def cancelRaiseWait (l : Lane) (s : State) : State := s.modSeq l fun q => { q with raiseWait := false }

/-- The sequencer takes the end of a FAILED capture: CAPTURING goes to OCCUPIED, which is no entry for auto-capture, or to
IDLE (R100, R102). -/
def captureFailed (l : Lane) (s : State) : State :=
  if (s.lane l).params.mode = .auto ∧ (s.lane l).seqr.state = .capturing then
    if (s.lane l).seqr.occupied then
      actInOccupied l false (s.modSeq l fun q => { q with state := .occupied, light := .red })
    else enterIdle l s
  else s

/-- The barrier controller reports UP (R105, R113). -/
def reportUp (l : Lane) (s : State) : State :=
  match (s.lane l).params.mode with
  | .auto => if (s.lane l).seqr.state = .releasing then enterOpen l s else s
  | .manual =>
    if (s.lane l).seqr.raiseWait then s.modSeq l fun q => { q with light := .green, raiseWait := false } else s
  | .closed => s

/-- The barrier controller reports DOWN (R108). -/
def reportDown (l : Lane) (s : State) : State :=
  if (s.lane l).params.mode = .auto ∧ (s.lane l).seqr.state = .closing then closingDone l s else s

/-- The barrier controller enters FAULT: drive and timer stopped, pending lower cleared, event and notices, and the report
to the sequencer, which enters HELD in AUTO (R117, R103). -/
def enterFault (l : Lane) (s : State) : State :=
  let s := s.modBarrier l fun b => 
    { b with state := .fault, pendingLower := false, travelTimer := travelStopped s l b.travelTimer }
  let s := raiseAt .barrierFault l s
  let s := raiseLaneOffice .lane l s
  if (s.lane l).params.mode = .auto then enterFaultHeld l s else s

end Sys2Proof.Machine
end

