-- ==== Sys2Proof/Machine/Queues.lean ====
section
/-! DEFINITION. Lane queues (R46): joining, leaving, and the hand-over of a new head. -/

namespace Sys2Proof.Machine
open Sys2Proof

/-- Change a lane's queue. -/
def State.modQueue (s : State) (l : Lane) (f : LaneQueue → LaneQueue) : State :=
  { s with visits := { s.visits with queues := s.visits.queues.put l (f (s.visits.queues.get l)) } }

/-- The lowest-numbered free slot of a queue (R46). -/
def freeSlot (q : List (Slot × Nat)) : Option Slot := Idx.all.find? fun i => !(q.any fun m => m.1 = i)

/-- A visit joins a lane's queue at the tail, in the lowest free slot, and a visit that joins an empty queue is handed to
the sequencer as its new head (R46). A queue with no free slot is left as it is; ANNOUNCE and ATTACH have tested for room. -/
def joinQueue (l : Lane) (n : Nat) (pass : PassKind) (s : State) : State :=
  match freeSlot (queueOf s l) with
  | none => s
  | some slot =>
    let wasEmpty := (queueOf s l).isEmpty
    let s := s.modQueue l fun q => { q with members := q.members ++ [(slot, n)] }
    let s := modVisit n (fun v => { v with place := some { lane := l, slot := slot, pass := pass } }) s
    let s := if wasEmpty then handHead l true s else s
    syncUnannounced l s

/-- A visit leaves its place: the others keep slots and order, the slot is freed and its generation advances (R46). -/
def freePlace (pl : LanePlace) (n : Nat) (s : State) : State :=
  let s := s.modQueue pl.lane fun q =>
    { members := q.members.filter fun m => m.2 ≠ n,
      generations := q.generations.put pl.slot ((q.generations.get pl.slot + 1) % 16) }
  modVisit n (fun v => { v with place := none }) s

/-- A visit leaves the queue it is in, `finish` then does what its departure asks for, and when it was the head the lane is
handed its new head, or told that the queue is empty (R46). A visit on site has no place and only `finish` is done. -/
def depart (n : Nat) (finish : State → State) (s : State) : State :=
  match findVisit s n with
  | none => s
  | some v =>
    match v.place with
    | none => finish s
    | some pl =>
      let wasHead := isHead s pl.lane n
      let s := finish (freePlace pl n s)
      let s := if wasHead then handHead pl.lane true s else s
      syncUnannounced pl.lane s

end Sys2Proof.Machine
end

