-- ==== Sys2Proof/Machine/Allowances.lean ====
section
/-! DEFINITION. The allowance unit: rows, entry checks and holds (R56, R81), settlement (R82, R83), release (R84), the
site counters (R90), and the effects of a rollover append (R92). -/

namespace Sys2Proof.Machine
open Sys2Proof

/-- The account with a number; no two records hold the same number (R78). -/
def findAccount (s : State) (n : Nat) : Option Account :=
  (s.allow.accounts.map Prod.snd).find? fun a => a.number = n

/-- The account's one row for a category (R78). -/
def Account.row (a : Account) (c : Nat) : Option AllowanceRow := a.rows.find? fun r => r.category = c

/-- Change the amounts of an account's row for a category, where both exist. -/
def modRow (n c : Nat) (f : Amounts → Amounts) (s : State) : State :=
  { s with allow := { s.allow with accounts := Table.mapVals s.allow.accounts fun a =>
      if a.number = n then
        { a with rows := a.rows.map fun r => if r.category = c then { r with amounts := f r.amounts } else r }
      else a } }

/-- Change a category's site cap row, where it is configured. -/
def modCap (c : Nat) (f : Amounts → Amounts) (s : State) : State :=
  { s with allow := { s.allow with caps := s.allow.caps.map fun p => if p.1 = c then (p.1, f p.2) else p } }

/-- Change both rows of a delivery. -/
def modBothRows (n c : Nat) (f : Amounts → Amounts) (s : State) : State := modCap c f (modRow n c f s)

/-- The entry checks in their order; `none` is a pass (R56, R80, R81). -/
def entryChecks (s : State) (n c reserve : Nat) : Option Reason :=
  match findAccount s n with
  | none => some .accountSuspended
  | some a =>
    if a.status ≠ .active then some .accountSuspended
    else
      match a.row c with
      | none => some .categoryNotPermitted
      | some r =>
        if r.amounts.free < (reserve : Int) then some .allowance
        else
          match Table.find s.allow.caps c with
          | none => some .siteCap
          | some cap => if cap.free < (reserve : Int) then some .siteCap else none

/-- A hold adds the reserve to H (R81). -/
def Amounts.hold (reserve : Nat) (a : Amounts) : Amounts := { a with held := a.held + reserve }

/-- A release takes the reserve off H and leaves D and the mark (R84). -/
def Amounts.release (reserve : Nat) (a : Amounts) : Amounts := { a with held := a.held - reserve }

/-- A settlement takes the reserve off H, adds the net to D and sets the mark when the free amount falls below zero (R82). -/
def Amounts.settle (reserve net : Nat) (a : Amounts) : Amounts :=
  let b : Amounts := { a with held := a.held - reserve, debited := a.debited + net }
  { b with overrun := a.overrun || decide (b.free < 0) }

/-- The row of an account for a category, if present. -/
def accountRow (s : State) (n c : Nat) : Option Amounts :=
  (findAccount s n).bind fun a => (a.row c).map (·.amounts)

/-- The answer of a settlement: some row's free amount is below zero, and some row's mark is new (R83). -/
structure SettleAnswer where
  overrun : Bool
  newMark : Bool
deriving DecidableEq, Repr

/-- What a settlement does to one row's answer. -/
def settleAnswer (reserve net : Nat) (row : Option Amounts) : SettleAnswer :=
  match row with
  | none => { overrun := false, newMark := false }
  | some a =>
    let b := a.settle reserve net
    { overrun := decide (b.free < 0), newMark := !a.overrun && b.overrun }

/-- The settlement's answer over both rows (R83). -/
def settlementAnswer (s : State) (n c reserve net : Nat) : SettleAnswer :=
  let x := settleAnswer reserve net (accountRow s n c)
  let y := settleAnswer reserve net (Table.find s.allow.caps c)
  { overrun := x.overrun || y.overrun, newMark := x.newMark || y.newMark }

/-- Event OVERRUN and notice ALLOWANCE, once for a settlement that sets a mark (R83). -/
def overrunOutcome (a : SettleAnswer) (s : State) : State :=
  if a.newMark then raiseNotice .allowance .office (raiseEvent .overrun none s) else s

/-- A category's site counters. -/
def countersOf (s : State) (c : Nat) : SiteCounters :=
  Table.getD s.allow.counters { delivered := 0, collected := 0, tickets := 0 } c

/-- The counters at a ticket issue (R90). -/
def countTicket (kind : VisitKind) (c net : Nat) (s : State) : State :=
  let x := countersOf s c
  let y : SiteCounters :=
    match kind with
    | .delivery => { x with delivered := x.delivered + net, tickets := x.tickets + 1 }
    | .collection => { x with collected := x.collected + net, tickets := x.tickets + 1 }
  { s with allow := { s.allow with
      counters := Table.put s.allow.counters { delivered := 0, collected := 0, tickets := 0 } c y } }

/-- D becomes 0 and the mark is recomputed from A and H (R92). -/
def Amounts.newDay (a : Amounts) : Amounts := ({ a with debited := 0 } : Amounts).recompute

/-- What an appended ROLLOVER record does, but for its event (R92). -/
def beginYardDay (day : Nat) (s : State) : State :=
  { s with allow := { s.allow with
      yardDay := day
      accounts := Table.mapVals s.allow.accounts fun a =>
        { a with rows := a.rows.map fun r => { r with amounts := r.amounts.newDay } }
      caps := Table.mapVals s.allow.caps Amounts.newDay
      counters := [] } }

end Sys2Proof.Machine
end

