-- ==== Sys2Proof/Machine/Tares.lean ====
section
/-! DEFINITION. The tare store: validity (R68), the information query and the lookup (R69), what a ticket keeps (R70) and
where it is placed (R71). -/

namespace Sys2Proof.Machine
open Sys2Proof

/-- The age of an entry in days, counted modulo 65 536 (R68). -/
def tareAge (s : State) (t : TareEntry) : Nat := (s.clock.day + 65536 - t.taken.day) % 65536

/-- A tare entry is valid (R68). -/
def tareValid (s : State) (t : TareEntry) : Bool :=
  decide (0 < s.tares.validity) && decide (tareAge s t < s.tares.validity)

/-- A vehicle's entry, with its number. -/
def tareEntryOf (s : State) (v : Text) : Option (Nat × TareEntry) :=
  s.tares.entries.find? fun p => p.2.vehicle = v

/-- The information query (R69). -/
def tareKnown (s : State) (v : Text) : Bool :=
  match tareEntryOf s v with
  | none => false
  | some (_, t) => tareValid s t

/-- The lookup: the tare and manual mark of a valid entry, counting the use (R67, R69). -/
def tareLookup (v : Text) (s : State) : Option (Nat × Bool) × State :=
  match tareEntryOf s v with
  | none => (none, s)
  | some (i, t) =>
    if tareValid s t then
      (some (t.tare, t.manual),
       { s with tares := { s.tares with
          entries := Table.insert s.tares.entries i { t with uses := if t.uses < 65535 then t.uses + 1 else 65535 } } })
    else (none, s)

/-- One time is older than another: the day number first, then the second (R71). -/
def Stamp.before (a b : Stamp) : Bool := decide (a.day < b.day ∨ (a.day = b.day ∧ a.second < b.second))

/-- The non-manual entry with the oldest taken time, the lowest number among equals (R71, case 4). -/
def oldestWeighed (t : Table TareEntry) : Option Nat :=
  let step (best : Option (Nat × TareEntry)) (p : Nat × TareEntry) : Option (Nat × TareEntry) :=
    if p.2.manual then best
    else
      match best with
      | none => some p
      | some b => if p.2.taken.before b.2.taken then some p else best
  (t.foldl step none).map Prod.fst

/-- Store a tare in an entry. -/
def setTare (i : Nat) (t : TareEntry) (s : State) : State :=
  { s with tares := { s.tares with entries := Table.insert s.tares.entries i t } }

/-- Place a weighed tare by the first case that applies (R71). -/
def placeTare (v : Text) (w : CapturedWeight) (s : State) : State :=
  let entry : TareEntry :=
    { vehicle := v, tare := w.weight.toNat, deck := w.deck.num, taken := w.time, manual := false, uses := 0 }
  match tareEntryOf s v with
  | some (i, t) => if t.manual then s else setTare i entry s
  | none =>
    match Table.lowestFree s.tares.entries 512 with
    | some i => setTare i entry s
    | none =>
      match oldestWeighed s.tares.entries with
      | some i => setTare i entry s
      | none => raiseNotice .visit .office s

/-- The captured weight a ticket of this visit keeps as a tare, when it makes a request (R70). -/
def keptTare (s : State) (v : Visit) : Option CapturedWeight :=
  let wanted := v.tareSource = .weighed ∧ v.negativeNet = false ∧
    ((findAccount s v.account).map (·.keepTares)) = some true
  if wanted then
    match v.kind with
    | .delivery => v.second
    | .collection => v.first
  else none

/-- The tare request of a ticket issue (R70, R71). -/
def keepTare (v : Visit) (s : State) : State :=
  match keptTare s v with
  | none => s
  | some w => placeTare v.vehicle w s

end Sys2Proof.Machine
end

