-- ==== Sys2Proof/Machine/Journals.lean ====
section
/-! DEFINITION. The journal's appends and their events (R131, R134), rollover (R91, R92), the ticket unit's try of its
head (R123, R126), ticket requests (R125), pending system records and the drain (R135, R137), and a port's journal read
(R138, R139). -/

namespace Sys2Proof.Machine
open Sys2Proof

/-- The events of an append that has brought the unarchived count to `n` (R134). -/
def countEvents (n : Nat) (s : State) : State :=
  if n = 768 then raiseNotice .journal .office (raiseEvent .journalNearFull none s)
  else if n = 1016 then raiseNotice .journal .office (raiseEvent .journalFull none s)
  else s

/-- Put an entry into the ring with the next sequence number (R131). -/
def Journal.push (j : Journal) (b : JournalBody) : Journal :=
  { j with ring := Table.insert j.ring ((j.last + 1) % 1024) { seq := j.last + 1, body := b }, last := j.last + 1 }

/-- Append an entry (R131, R134). -/
def appendEntry (b : JournalBody) (s : State) : State :=
  let s := { s with journal := s.journal.push b }
  countEvents (unarchived s.journal) s

/-- Append a CALIBRATION record into its reservation, which the append uses up (R133). -/
def appendReserved (b : JournalBody) (s : State) : State :=
  appendEntry b { s with journal := { s.journal with reservations := s.journal.reservations - 1 } }

/-- Append a ROLLOVER record, with its effects as one step (R92). -/
def appendRollover (day : Nat) (s : State) : State :=
  raiseEvent .rollover none (beginYardDay day (appendEntry (.rollover day (nowStamp s)) s))

/-- The yard day after `d` (R91). -/
def nextYardDay (d : Nat) : Nat := if d = 65535 then 0 else d + 1

/-- The issue wait from the point at which a system record becomes pending: SYSTEM_RECORD while requests wait (R126, and the
end of 12_worked_visits section 12.4). -/
def TicketUnit.waitForRecord (t : TicketUnit) : IssueWait := if t.queue.isEmpty then t.wait else .systemRecord

/-- A rollover event (R91). -/
def rolloverEvent (s : State) : State :=
  match s.tickets.pendingRollover with
  | some d => { s with tickets := { s.tickets with pendingRollover := some (nextYardDay d) } }
  | none =>
    if systemRoom s.journal then appendRollover (nextYardDay s.allow.yardDay) s
    else
      raiseNotice .allowance .office
        { s with tickets := { s.tickets with
            pendingRollover := some (nextYardDay s.allow.yardDay), wait := s.tickets.waitForRecord } }

/-! ### Trying the head of the pending issue queue -/

/-- The first condition of R126 that fails, in the table's order; `none` when all hold. -/
def issueObstacle (s : State) : IssueWait :=
  if s.tickets.pendingRestart.isSome ∨ s.tickets.pendingRollover.isSome then .systemRecord
  else if !ticketRoom s.journal then .journal
  else if s.cal.site = none then .siteNumber
  else if s.nv.storeFault then .storeFault
  else if s.tickets.floorWrite.isSome then .floorWrite
  else if 4294967295 ≤ s.tickets.next then .numberingEnded
  else if s.tickets.floor ≤ s.tickets.next then .floorWrite
  else .none

/-- The floor a floor write asks for (R123). -/
def newFloor (t : TicketUnit) : Nat := min 4294967295 (max (t.floor + 256) (t.next + 256))

/-- Request a floor write; it is the ticket unit's until it ends (R123, R124, R186). -/
def requestFloorWrite (retry : Bool) (s : State) : State :=
  let v := newFloor s.tickets
  nvRequest (.floor v) { s with tickets := { s.tickets with floorWrite := some { value := v, retry := retry } } }

def setWait (w : IssueWait) (s : State) : State := { s with tickets := { s.tickets with wait := w } }

/-- Try the head: the issue wait takes the first condition that fails, and a floor write is requested where that is what
fails (R123, R126). A head that passes is issued by the next TICKET_ISSUE (log 6). -/
def tryHead (s : State) : State :=
  match s.tickets.queue with
  | [] => setWait .none s
  | _ :: _ =>
    let w := issueObstacle s
    let s := setWait w s
    if w = .floorWrite ∧ s.tickets.floorWrite = none then requestFloorWrite false s else s

/-- A ticket request joins the tail of the pending issue queue; one that joins an empty queue has its head tried (R125, R126). -/
def requestTicket (n : Nat) (s : State) : State :=
  let wasEmpty := s.tickets.queue.isEmpty
  let s := { s with tickets := { s.tickets with queue := s.tickets.queue ++ [n] } }
  if wasEmpty then tryHead s else s

/-! ### The drain (R137) -/

/-- Stage 1: a pending RESTART record (R135, R137). -/
def drainRestart (s : State) : State :=
  match s.tickets.pendingRestart with
  | none => s
  | some r =>
    if systemRoom s.journal then
      appendEntry (.restart r (nowStamp s)) { s with tickets := { s.tickets with pendingRestart := none } }
    else s

/-- Stage 2: a pending ROLLOVER record, with the effects of R92 (R137). -/
def drainRollover (s : State) : State :=
  match s.tickets.pendingRollover with
  | none => s
  | some d =>
    if systemRoom s.journal then
      appendRollover d { s with tickets := { s.tickets with pendingRollover := none } }
    else s

/-- The drain: each stage runs when the one before has left nothing pending; stage 3 tries the head (R137). -/
def drain (s : State) : State :=
  let s := drainRestart s
  if s.tickets.pendingRestart.isSome then s
  else
    let s := drainRollover s
    if s.tickets.pendingRollover.isSome then s else tryHead s

/-! ### Reading (R138, R139) -/

/-- A port sees an entry (R139). -/
def portSees (p : PortId) (b : JournalBody) : Bool :=
  match p with
  | .office => true
  | .lane l =>
    match b with
    | .ticket t => decide (t.lane = l)
    | .void _ _ lane => decide (lane = some l)
    | .calibration _ _ | .rollover _ _ | .restart _ _ => true

/-- From a sequence number, the first retained entry the port sees, and the cursor after it (R138, steps 2 to 4). -/
def readFrom (j : Journal) (p : PortId) : Nat → Nat → Option JournalEntry × Nat
  | 0, seq => (none, seq)
  | fuel + 1, seq =>
    match retainedEntry j seq with
    | none => (none, seq)
    | some e => if portSees p e.body then (some e, seq + 1) else readFrom j p fuel (seq + 1)

/-- What READ JOURNAL gives a port: the lost count, the entry, and the cursor it would move to (R138). -/
def journalRead (s : State) (p : PortId) : Nat × Option JournalEntry × Nat :=
  let cursor := (s.port p).journalCursor
  let oldest := oldestRetained s.journal
  let start := if cursor < oldest then oldest else cursor
  let (e, next) := readFrom s.journal p 1025 start
  (start - cursor, e, next)

end Sys2Proof.Machine
end

