-- ==== Sys2Proof/Machine/Captures.lean ====
section
/-! DEFINITION. How a capture ends (R21 to R23) and the visit table's decisions when one completes (R53 to R58). -/

namespace Sys2Proof.Machine
open Sys2Proof

/-- The capture record removed: the run of its timeout ends (R23, log 51). -/
def dropCapture (d : Deck) (s : State) : State :=
  s.modDeck d fun u =>
    { u with capture := none, captureLate := lateAfter u.capture.isSome (s.waiting (.captureTimeout d)) u.captureLate }

/-- A capture in flight on a deck ends FAILED, its event raised by `raise`: its record is removed and the ending is handed to
the sequencer, the lane report, the route unit and the ports; the visit stays as it was (R23). Without a capture there is no
effect (R22). -/
def endCaptureBy (raise : EventKind → Lane → State → State) (l : Lane) (r : CaptureReason) (s : State) : State :=
  match (s.deck l).capture with
  | none => s
  | some _ =>
    let s := dropCapture l s
    let s := captureFailed l s
    let s := s.modReport l fun x => { x with lastCapture := .failed r }
    let s := raise .captureFailed l s
    raiseLaneOffice .capture l s

/-- A capture in flight ends FAILED, its visit staying the head (R20, R21, R25). -/
def endCapture (l : Lane) (r : CaptureReason) (s : State) : State := endCaptureBy raiseAt l r s

/-- A capture in flight ends FAILED because its visit is about to leave the queue (R22); none starts again at the lane before
it has left (R52, log 28). -/
def endCaptureLeaving (l : Lane) (r : CaptureReason) (s : State) : State := endCaptureBy raiseLeaving l r s

/-! ### Decisions -/

/-- The hand-out of a decision by the visit's new state (R58): the lane sequencer, the event, the lane report, the notice. -/
def handOut (l : Lane) (n : Nat) (s : State) : State :=
  match findVisit s n with
  | none => s
  | some v =>
    let told : Decision := if v.state = .firstWeighed then .pass else .hold
    let s := s.modReport l fun r => { r with lastDecision := told }
    let s := handHead l false s
    let s :=
      match v.state with
      | .refused =>
        (raiseAt .visitRefused l s).modReport l fun r => { r with lastReason := v.reason }
      | .disputed =>
        (raiseAt .visitDisputed l s).modReport l fun r => { r with lastReason := some .negativeNet }
      | _ => s
    raiseLaneOffice .decision l s

/-- A refused visit (R53 to R55). -/
def refuse (n : Nat) (r : Reason) (s : State) : State :=
  modVisit n (fun v => { v with state := .refused, reason := some r }) s

/-- A disputed visit (R53, R57). -/
def dispute (n : Nat) (s : State) : State :=
  modVisit n (fun v => { v with state := .disputed, reason := some .negativeNet }) s

/-- A ticket requested for a visit, which becomes AWAITING_TICKET (R59). -/
def awaitTicket (n : Nat) (s : State) : State :=
  requestTicket n (modVisit n (fun v => { v with state := .awaitingTicket }) s)

/-- The entry checks of a delivery with the hold they place, then `pass` (R56, R81). -/
def checkAndHold (v : Visit) (reserve : Nat) (pass : State → State) (s : State) : State :=
  match entryChecks s v.account v.category reserve with
  | some r => refuse v.number r s
  | none =>
    pass (modVisit v.number (fun v => { v with reserve := reserve })
      (modBothRows v.account v.category (Amounts.hold reserve) s))

/-- The reserve a two-pass delivery is tested with: the declared payload or the category's default, at most the Max of the
first weight's deck (R54). The weighing is done with the stored record (R19). -/
def twoPassReserve (s : State) (v : Visit) (d : Deck) : Nat :=
  let wanted :=
    if 0 < v.payload then v.payload
    else match Table.find s.allow.categories v.category with
      | none => 0
      | some c => c.reserve
  min wanted (s.cal.stored.get d).max

/-- The two-pass path (R54). -/
def twoPass (v : Visit) (d : Deck) (s : State) : State :=
  checkAndHold v (twoPassReserve s v d)
    (modVisit v.number fun v => { v with state := .firstWeighed }) s

/-- A stored tare is used (R53). -/
def useStoredTare (v : Visit) (w : CapturedWeight) (tare : Nat) (manual : Bool) (s : State) : State :=
  let net : Int := w.weight - tare
  let s := modVisit v.number (fun v =>
    { v with tareSource := .stored, storedTare := some tare, manualTare := manual, net := some net }) s
  if net < 0 then dispute v.number s
  else checkAndHold v net.toNat (awaitTicket v.number) s

/-- The first capture of an ANNOUNCED DELIVERY (R53, R54, R69). -/
def firstDelivery (v : Visit) (w : CapturedWeight) (s : State) : State :=
  if ((findAccount s v.account).map (·.storedTareAllowed)) = some true then
    match tareLookup v.vehicle s with
    | (some (tare, manual), s') => useStoredTare v w tare manual s'
    | (none, s') => twoPass v w.deck s'
  else twoPass v w.deck s

/-- The first capture of an ANNOUNCED COLLECTION (R55). -/
def firstCollection (v : Visit) (s : State) : State :=
  if ((findAccount s v.account).map (·.status)) = some .active then
    modVisit v.number (fun v => { v with state := .firstWeighed }) s
  else refuse v.number .accountSuspended s

/-- The first capture of an ANNOUNCED visit (R53 to R55). -/
def firstCapture (v : Visit) (w : CapturedWeight) (s : State) : State :=
  let s := modVisit v.number (fun v => { v with first := some w }) s
  match v.kind with
  | .delivery => firstDelivery v w s
  | .collection => firstCollection v s

/-- The net of two weights (R57). -/
def netOf (k : VisitKind) (first second : Int) : Int :=
  match k with
  | .delivery => first - second
  | .collection => second - first

/-- The second capture of an ATTACHED visit (R57). -/
def secondCapture (v : Visit) (w : CapturedWeight) (s : State) : State :=
  match v.first with
  | none => s
  | some f =>
    let net := netOf v.kind f.weight w.weight
    let changed := v.calChanged || decide (s.cal.audit ≠ f.audit)
    let s := modVisit v.number (fun v =>
      { v with second := some w, tareSource := .weighed, net := some net, calChanged := changed }) s
    if net < 0 then dispute v.number s else awaitTicket v.number s

/-- The visit table's decision for the visit a completed capture names, and its hand-out (R53 to R58). -/
def decideVisit (l : Lane) (n : Nat) (w : CapturedWeight) (s : State) : State :=
  match findVisit s n with
  | none => s
  | some v =>
    match v.state with
    | .announced => handOut l n (firstCapture v w s)
    | .attached => handOut l n (secondCapture v w s)
    | _ => s

/-- The captured weight record the deck forms (R19). -/
def capturedWeight (s : State) (d : Deck) : CapturedWeight :=
  { weight := (s.deck d).gross, deck := d, time := nowStamp s, audit := s.cal.audit }

/-- The conditions of completion (R19). -/
def completes (s : State) (d : Deck) : Bool :=
  let u := s.deck d
  let e : Int := (s.cal.stored.get d).e
  decide (u.phase = DeckPhase.active) && u.stable && !u.overload && !u.underload && decide (u.gross ≥ 20 * e) && u.occupied
    && !(s.lane d).sensors.beam1Broken && !(s.lane d).sensors.beam2Broken

/-- A capture in flight completes (R19, R23): the visit table decides and hands its decision out, the sequencer goes on as the
decision says, then the lane report, the event and the notices. That the decision's own event and notice DECISION come before
CAPTURE_DONE and notice CAPTURE is the model's choice, since R23 gives its recipients no order (log 8). -/
def completeCapture (d : Deck) (s : State) : State :=
  match (s.deck d).capture with
  | none => s
  | some c =>
    let w := capturedWeight s d
    let s := dropCapture d s
    let s := decideVisit d c.visit w s
    let s := s.modReport d fun x => { x with lastCapture := .done }
    let s := raiseAt .captureDone d s
    raiseLaneOffice .capture d s

end Sys2Proof.Machine
end

