-- ==== Sys2Proof/Machine/Passages.lean ====
section
/-! DEFINITION. A vehicle leaving: "vehicle passed" (R60), the passage (R106, R113), and what the lane does with a change
of the deck's occupancy (R98, R100, R102) and of the safety loop (R97, R105, R115). -/

namespace Sys2Proof.Machine
open Sys2Proof

/-- What "vehicle passed" does with a head by its state and pass kind: nothing, stay open on site, be removed, or become
FIRST_WEIGHED (R60). -/
inductive PassAction where
  | stays | onSite | removed | backOnSite
deriving DecidableEq, Repr

def passAction (st : VisitState) (pass : PassKind) : PassAction :=
  match st, pass with
  | .ticketed, _ => .removed
  | .ticketedOnSite, .exit => .removed
  | .ticketedOnSite, .entry => .onSite
  | .firstWeighed, _ => .onSite
  | .attached, _ => .backOnSite
  | .announced, _ => .removed
  | .refused, _ => .removed
  | .awaitingTicket, _ => .stays
  | .disputed, _ => .stays

/-- The visit table takes "vehicle passed" for a lane (R60). -/
def vehiclePassed (l : Lane) (s : State) : State :=
  match headVisit s l with
  | none => s
  | some v =>
    match v.place with
    | none => s
    | some pl =>
      match passAction v.state pl.pass with
      | .stays => s
      | .onSite => depart v.number id (endCaptureLeaving l .abandoned s)
      | .removed => depart v.number (removeVisit v.number) (endCaptureLeaving l .abandoned s)
      | .backOnSite =>
        depart v.number (modVisit v.number fun v => { v with state := .firstWeighed }) (endCaptureLeaving l .abandoned s)

/-- The head is still the released visit (R106). -/
def headIsReleased (s : State) (l : Lane) : Bool :=
  (s.lane l).seqr.released.isSome && decide (headNumber s l = (s.lane l).seqr.released)

/-- Steps 2 and 3 of a completed passage (R106). -/
def handReleased (l : Lane) (s : State) : State :=
  let s := if headIsReleased s l then vehiclePassed l s else s
  s.modSeq l fun q => { q with released := none, passageArmed := false }

/-- A passage completes when it is armed and the loop and the deck are clear (R106, R113). -/
def checkPassage (l : Lane) (s : State) : State :=
  let u := s.lane l
  if u.seqr.passageArmed && !u.sensors.loopOccupied && !u.seqr.occupied then
    match u.params.mode, u.seqr.state with
    | .auto, .passing =>
      enterClosing l (handReleased l (s.modSeq l fun q => { q with light := .red }))
    | .auto, .held => handReleased l s
    | .manual, _ => (vehiclePassed l s).modSeq l fun q => { q with passageArmed := false }
    | _, _ => s
  else s

/-- The sequencer takes DECK_OCCUPIED (R98, R100). -/
def laneOccupied (l : Lane) (s : State) : State :=
  let s := s.modSeq l fun q => { q with occupied := true }
  let s :=
    if (s.lane l).params.mode = .auto ∧ (s.lane l).seqr.state = .idle then enterOccupied l s else s
  syncUnannounced l s

/-- The sequencer takes DECK_CLEAR (R98, R100, R102, R106). -/
def laneClear (l : Lane) (s : State) : State :=
  let s := s.modSeq l fun q => { q with occupied := false }
  let s :=
    if (s.lane l).params.mode = .auto ∧ (s.lane l).seqr.state = .occupied then enterIdle l s else checkPassage l s
  syncUnannounced l s

/-- The barrier controller takes a change of the loop: a lowering arm reverses, a pending lower starts (R115). -/
def barrierLoop (l : Lane) (occupied : Bool) (s : State) : State :=
  s.modBarrier l fun b =>
    if occupied then
      match b.state with
      | .lowering => { b with state := .raising, pendingLower := true, travelTimer := travelStarted s l b.travelTimer }
      | .down | .raising | .up | .fault => b
    else
      match b.state with
      | .raising | .up =>
        if b.pendingLower then
          { b with state := .lowering, pendingLower := false, travelTimer := travelStarted s l b.travelTimer }
        else b
      | .down | .lowering | .fault => b

/-- The sequencer takes the loop OCCUPIED (R104, R105, R113). -/
def laneLoopOccupied (l : Lane) (s : State) : State :=
  let u := s.lane l
  match u.params.mode, u.seqr.state with
  | .auto, .opened =>
    s.modSeq l fun q => { q with state := .passing, passTimer := passStopped s l q.passTimer, passageArmed := true }
  | .auto, .held =>
    if u.barrier.state = .fault ∧ u.seqr.released.isSome then s.modSeq l fun q => { q with passageArmed := true } else s
  | .manual, _ =>
    if u.barrier.state ≠ .down then s.modSeq l fun q => { q with passageArmed := true } else s
  | _, _ => s

/-- A change of the loop's filtered state (R97): the barrier controller at once, so that no request finds an arm lowering
with the loop OCCUPIED (R114), then the event, then the sequencer (log 8). -/
def loopChange (l : Lane) (occupied : Bool) (s : State) : State :=
  let s := barrierLoop l occupied (s.modSensors l fun x => { x with loopOccupied := occupied })
  let s := raiseAt (if occupied then .safetyOccupied else .safetyClear) l s
  if occupied then laneLoopOccupied l s else checkPassage l s

end Sys2Proof.Machine
end

