-- ==== Sys2Proof/Machine/Printing.lean ====
section
/-! DEFINITION. The print engine: rendering (R147, R148), starting and ending jobs (R146, R149, R152), queueing (R145) and
the aborts of RESTART LANES (R155). -/

namespace Sys2Proof.Machine
open Sys2Proof

/-! ### Text (R148, R150) -/

/-- The decimal digits of a number, most significant first, with no leading zeros. -/
def decimalAux : Nat → Nat → Text → Text
  | 0, _, acc => acc
  | fuel + 1, n, acc =>
    let acc := BitVec.ofNat 8 (48 + n % 10) :: acc
    if n < 10 then acc else decimalAux fuel (n / 10) acc

/-- A number in decimal (R148). -/
def decimal (n : Nat) : Text := decimalAux 40 n []

/-- A signed number in decimal, a leading minus sign where negative (R148). -/
def decimalInt (i : Int) : Text := if i < 0 then 45#8 :: decimal i.natAbs else decimal i.natAbs

/-- Two decimal digits. -/
def twoDigits (n : Nat) : Text := [BitVec.ofNat 8 (48 + n / 10 % 10), BitVec.ofNat 8 (48 + n % 10)]

/-- A time of day as hh:mm:ss (R148). -/
def timeOfDay (sec : Nat) : Text :=
  twoDigits (sec / 3600) ++ [58#8] ++ twoDigits (sec / 60 % 60) ++ [58#8] ++ twoDigits (sec % 60)

/-- A day number, a space and a time of day (R148). -/
def dayAndTime (t : Stamp) : Text := decimal t.day ++ [32#8] ++ timeOfDay t.second

/-- A weight, a space, and kg (R148). -/
def kilograms (w : Int) : Text := decimalInt w ++ [32#8, 107#8, 103#8]

/-- A hexadecimal digit, capitals A to F (R148). -/
def hexDigit (n : Nat) : Byte := if n < 10 then BitVec.ofNat 8 (48 + n) else BitVec.ofNat 8 (55 + n)

/-- The check word as 8 hexadecimal characters, most significant first (R148). -/
def checkText (c : BitVec 32) : Text :=
  [28, 24, 20, 16, 12, 8, 4, 0].map fun k => hexDigit (c.toNat / 2 ^ k % 16)

def textDelivery : Text := [68, 69, 76, 73, 86, 69, 82, 89]
def textCollection : Text := [67, 79, 76, 76, 69, 67, 84, 73, 79, 78]
def textWeighed : Text := [87, 69, 73, 71, 72, 69, 68]
def textStored : Text := [83, 84, 79, 82, 69, 68]
def textManual : Text := [77, 65, 78, 85, 65, 76]
def textCopy : Text := [67, 79, 80, 89]

/-- A field's rendering; `none` for a required field that is absent, which is CATEGORY with its record empty (R148). -/
def renderField (s : State) (j : PrintJob) (k : FieldKind) : Option Text :=
  let t := j.ticket
  match k with
  | .ticketNo => some (decimal t.number)
  | .date => some (decimal t.issued.day)
  | .time => some (timeOfDay t.issued.second)
  | .site => some (decimal t.site)
  | .vehicle => some t.vehicle
  | .account => some (decimal t.account)
  | .category => (Table.find s.allow.categories t.category).map (·.name)
  | .kind => some (match t.kind with | .delivery => textDelivery | .collection => textCollection)
  | .firstWeight => some (kilograms t.first.weight)
  | .firstTime => some (dayAndTime t.first.time)
  | .secondWeight => some (match t.second with | some w => kilograms w.weight | none => [])
  | .secondTime => some (match t.second with | some w => dayAndTime w.time | none => [])
  | .tare => some (kilograms t.tare)
  | .tareSource => some (if t.manualTare then textManual
      else match t.tareSource with | .stored => textStored | .weighed | .none => textWeighed)
  | .net => some (kilograms t.net)
  | .audit => some (decimal t.audit)
  | .check => some (checkText t.check)
  | .lane => some (decimal t.lane.num)
  | .copyMark => some (if j.copy then textCopy else [])

/-- Write text over a line from a column, dropping what falls beyond column 39 (R147). -/
def overwrite (line : Text) (col : Nat) (txt : Text) : Text :=
  (line.take col ++ txt ++ line.drop (col + txt.length)).take 40

/-- The 40 characters of a line with its references' renderings written in order; `none` when a required one is absent
(R147, R149). -/
def renderRefs (s : State) (j : PrintJob) : List FieldRef → Text → Option Text
  | [], line => some line
  | r :: rs, line =>
    match renderField s j r.kind with
    | none => none
    | some txt => renderRefs s j rs (overwrite line r.column txt)

/-- A rendered line: 40 characters and the end-of-line byte 10 (R147, R150). -/
def renderLine (s : State) (j : PrintJob) (r : LineRecord) : Option (List Byte) :=
  (renderRefs s j r.refs (overwrite (List.replicate 40 32#8) 0 r.literal)).map fun x => x ++ [10#8]

/-! ### Jobs -/

def inUseOf (s : State) (t : Nat) : Nat := Table.getD s.templates.inUse 0 t

/-- Change a template's in-use count (R142). -/
def modInUse (t : Nat) (f : Nat → Nat) (s : State) : State :=
  { s with templates := { s.templates with inUse := Table.put s.templates.inUse 0 t (f (inUseOf s t)) } }

/-- The pause timer stopped now at a lane (R151, R152). -/
def pauseStopped (s : State) (l : Lane) (t : Timer) : Timer := t.stop (s.waiting (.pauseTimeout l))

/-- Step 1 of the end of a job: its template's in-use count reduced, where the job's start had counted it (R142, R152). -/
def uncountJob (j : PrintJob) (s : State) : State :=
  match j.walk with
  | none => s
  | some w => modInUse w.template (fun n => n - 1) s

/-- Steps 1 to 4 of the end of the current job, and its departure from the queue (R152). The FIFO is empty after it, a
byte in progress is of no further concern (log 26). -/
def closeJob (l : Lane) (r : PrintResult) (s : State) : State :=
  match (s.lane l).printer.jobs with
  | [] => s
  | j :: rest =>
    let s := uncountJob j s
    let s := s.modPrinter l fun e =>
      { e with fifo := [], byteInProgress := false, pauseTimer := pauseStopped s l e.pauseTimer, lastResult := r }
    let s :=
      match r with
      | .failed _ => raiseLaneOffice .print l (raiseAt .printFailed l s)
      | .done | .none => raiseAt .printDone l s
    s.modPrinter l fun e => { e with jobs := rest, state := .idle }

/-- The template a lane's parameters choose for a ticket (R146). -/
def templateFor (e : PrintEngine) (t : TicketRecord) : Nat :=
  match t.kind with
  | .delivery => e.deliveryTemplate
  | .collection => e.collectionTemplate

/-- PAUSED: notice PAPER and the pause timer (R151). -/
def enterPaused (l : Lane) (s : State) : State :=
  raiseLaneOffice .paper l
    (s.modPrinter l fun e =>
      { e with state := .paused,
               pauseTimer := e.pauseTimer.start (s.waiting (.pauseTimeout l)) (inSec s e.pauseTimeout) })

/-- Put a walk on the current job. -/
def setWalk (l : Lane) (w : JobWalk) (s : State) : State :=
  s.modPrinter l fun e =>
    { e with jobs := match e.jobs with | [] => [] | j :: rest => { j with walk := some w } :: rest }

/-- The current job starts (R146): its template chosen and counted in use, the walk at the head, PRINTING or PAUSED. An
empty template ends it at once (R149). -/
def startJob (l : Lane) (s : State) : State :=
  let e := (s.lane l).printer
  match e.jobs with
  | [] => s
  | j :: _ =>
    let t := templateFor e j.ticket
    match Table.find s.templates.templates t with
    | none => closeJob l (.failed .templateError) s
    | some tpl =>
      let s := modInUse t (· + 1) s
      let s := setWalk l { template := t, position := tpl.head, rendered := 0, finished := false } s
      let s := s.modPrinter l fun e => { e with state := .printing }
      if e.paperOut then enterPaused l s else s

/-- One move of the engine that needs no byte to be sent: start the current job, end it when its walk is finished and the
FIFO empty, or render its next line when there is room for 41 bytes (R146, R147, R149, R150, R152). `none` when there is
nothing to do. -/
def engineMove (l : Lane) (s : State) : Option State :=
  let e := (s.lane l).printer
  match e.jobs with
  | [] => none
  | j :: _ =>
    match j.walk with
    | none => some (startJob l s)
    | some w =>
      if e.state ≠ .printing then none
      else if w.finished then
        if e.fifo.isEmpty then some (closeJob l .done s) else none
      else if e.fifo.length + 41 ≤ 512 then
        if 95 < w.position ∨ 24 ≤ w.rendered then some (closeJob l (.failed .templateError) s)
        else
          let r := Table.getD s.templates.lines LineRecord.cold w.position
          match renderLine s j r with
          | none => some (closeJob l (.failed .templateError) s)
          | some bytes =>
            let w' : JobWalk :=
              match r.next with
              | none => { w with rendered := w.rendered + 1, finished := true }
              | some n => { w with rendered := w.rendered + 1, position := n }
            some (setWalk l w' (s.modPrinter l fun e => { e with fifo := e.fifo ++ bytes }))
      else none

/-- The engine moves until it has nothing to do. Two jobs of at most 12 lines each fill the FIFO, so 32 moves are enough. -/
def runEngine (l : Lane) : Nat → State → State
  | 0, s => s
  | fuel + 1, s =>
    match engineMove l s with
    | none => s
    | some s' => runEngine l fuel s'

def pumpEngine (l : Lane) (s : State) : State := runEngine l 32 s

/-- The current job ends, and the waiting job, if any, starts and renders (R152, R146). -/
def endJob (l : Lane) (r : PrintResult) (s : State) : State := pumpEngine l (closeJob l r s)

/-- A job joins a lane's print queue, `false` when it holds two (R145). -/
def queueJob (l : Lane) (t : TicketRecord) (copy : Bool) (s : State) : Bool × State :=
  let e := (s.lane l).printer
  if 2 ≤ e.jobs.length then (false, s)
  else
    (true, pumpEngine l (s.modPrinter l fun e =>
      { e with jobs := e.jobs ++ [{ ticket := t, copy := copy, walk := none }] }))

/-- The ORIGINAL job of a ticket issue: a full queue is reported as a failed print (R145). -/
def queueOriginal (l : Lane) (t : TicketRecord) (s : State) : State :=
  match queueJob l t false s with
  | (true, s') => s'
  | (false, s') =>
    (raiseLaneOffice .print l (raiseAt .printFailed l s')).modPrinter l fun e =>
      { e with lastResult := .failed .queueFull }

/-- The retained TICKET record with a number (R154). -/
def retainedTicket (j : Journal) (n : Nat) : Option TicketRecord :=
  j.ring.findSome? fun p =>
    match p.2.body with
    | .ticket t => if t.number = n then some t else none
    | _ => none

/-- A reprint: a COPY job at a lane (R154). -/
def reprint (l : Lane) (n : Nat) (s : State) : Result × State :=
  match retainedTicket s.journal n with
  | none => (.noSuch, s)
  | some t =>
    match queueJob l t true s with
    | (true, s') => (.done, s')
    | (false, s') => (.full, s')

/-- RESTART LANES aborts a lane's jobs: the current one by R152 without a successor, then the waiting one, which reduces
no count (R155). -/
def abortJobs (l : Lane) (s : State) : State :=
  closeJob l (.failed .aborted) (closeJob l (.failed .aborted) s)

end Sys2Proof.Machine
end

