-- ==== Sys2Proof/Machine/Tickets.lean ====
section
/-! DEFINITION. The ticket issue: the check word (R130), the TICKET record (R128), the issue as one whole step (R127), and
the command TICKET_ISSUE, which is that step (log 6). -/

namespace Sys2Proof.Machine
open Sys2Proof

/-! ### The check word (R130) -/

/-- A weight as the upper and the lower 16 bits of its 32-bit two's complement (R130). -/
def twoWords (w : Int) : List Nat :=
  let n := (BitVec.ofInt 32 w).toNat
  [n / 65536, n % 65536]

/-- The 14 words of the canonical sequence (R130). -/
def checkWords (t : TicketRecord) : List Nat :=
  [t.number / 65536 % 65536, t.number % 65536, t.visit]
    ++ twoWords t.first.weight
    ++ (match t.second with | some w => twoWords w.weight | none => [0, 0])
    ++ twoWords t.net
    ++ [t.account,
        t.category * 256 + (match t.kind with | .delivery => 1 | .collection => 2)
          + 16 * (match t.tareSource with | .stored => 2 | .weighed | .none => 1),
        t.issued.day, t.issued.second / 60, t.audit]

/-- One step on Q, which is c above C: rotate the 33 bits left by 5, then exclusive-or the word into the low 16 (R130). -/
def checkStep (q : BitVec 33) (word : Nat) : BitVec 33 :=
  q.rotateLeft 5 ^^^ (BitVec.ofNat 16 word).setWidth 33

/-- The check word from the site number and the words (R130). -/
def checkWord (site : Nat) (words : List Nat) : BitVec 32 :=
  (words.foldl checkStep (BitVec.ofNat 33 site)).setWidth 32

/-! ### The record (R128) -/

/-- The tare value (R128). -/
def tareValue (v : Visit) (first : CapturedWeight) : Int :=
  match v.tareSource, v.kind with
  | .stored, _ => (v.storedTare.getD 0 : Nat)
  | _, .delivery => (v.second.getD first).weight
  | _, .collection => first.weight

/-- The TICKET record, with its check word (R128, R130); `site` is the site number it starts from. -/
def ticketRecord (s : State) (v : Visit) (lane : Lane) (first : CapturedWeight) (site : Nat) (overrun : Bool) :
    TicketRecord :=
  let t : TicketRecord :=
    { number := s.tickets.next, visit := v.number, issued := nowStamp s, lane := lane, vehicle := v.vehicle,
      account := v.account, category := v.category, kind := v.kind, first := first, second := v.second,
      tareSource := v.tareSource, tare := tareValue v first, net := v.net.getD 0, negativeNet := v.negativeNet,
      overrun := overrun, calChanged := v.calChanged, manualTare := v.manualTare,
      audit := (v.second.getD first).audit, check := 0#32, site := site }
  { t with check := checkWord site (checkWords t) }

/-! ### The issue (R127) -/

/-- The state of a visit whose ticket is issued (R59). -/
def ticketedState (t : TicketRecord) : VisitState :=
  if t.second.isSome then .ticketed else .ticketedOnSite

/-- The settlement of a DELIVERY's ticket (R82, R83) and the return of its reserve to 0 (R59). -/
def settleTicket (v : Visit) (net : Nat) (s : State) : State :=
  match v.kind with
  | .collection => s
  | .delivery =>
    let answer := settlementAnswer s v.account v.category v.reserve net
    let s := modBothRows v.account v.category (Amounts.settle v.reserve net) s
    overrunOutcome answer (modVisit v.number (fun v => { v with reserve := 0 }) s)

/-- Step 7: the visit takes the ticket number and moves, and the lane is told pass and the new head state (R59). -/
def ticketVisit (v : Visit) (t : TicketRecord) (s : State) : State :=
  let s := modVisit v.number (fun v => { v with ticket := some t.number, state := ticketedState t }) s
  let s := s.modReport t.lane fun r => { r with lastDecision := .pass }
  handHead t.lane false s

/-- Step 9: the lane report, the event and the notices (R127). -/
def announceTicket (t : TicketRecord) (s : State) : State :=
  let s := s.modReport t.lane fun r => { r with lastTicket := some t.number }
  raiseLaneOffice .ticket t.lane (raiseAt .ticketIssued t.lane s)

/-- The OVERRUN flag of a ticket: the settlement's answer, worked out before the record is appended so that the record can
be read whole at once (R127 step 4, R83). -/
def ticketOverrun (s : State) (v : Visit) : Bool :=
  match v.kind with
  | .collection => false
  | .delivery => (settlementAnswer s v.account v.category v.reserve (v.net.getD 0).toNat).overrun

/-- Steps 4 to 9 for a record formed at step 3 (R127). -/
def issueRecord (v : Visit) (t : TicketRecord) (s : State) : State :=
  let s := appendEntry (.ticket t) s
  let s := settleTicket v t.net.toNat s
  let s := keepTare v s
  let s := countTicket t.kind t.category t.net.toNat s
  let s := ticketVisit v t s
  let s := queueOriginal t.lane t s
  announceTicket t s

/-- Step 10: the next ticket number increases by 1 and the request leaves the queue (R127). -/
def finishIssue (s : State) : State :=
  { s with tickets := { s.tickets with next := s.tickets.next + 1, queue := s.tickets.queue.drop 1 } }

/-- The issue of the visit at the head of the queue, with its lane, first weight and site number found (R127). A request
always names a visit at a lane with a first weight (R125, R128) and the site number is set (R126); a state in which one of
them is absent is never reached and is left alone (log 30). -/
def issueHead (n : Nat) (s : State) : State :=
  match findVisit s n, s.cal.site with
  | some v, some site =>
    match v.place, v.first with
    | some pl, some first =>
      tryHead (finishIssue (issueRecord v (ticketRecord s v pl.lane first site (ticketOverrun s v)) s))
    | _, _ => s
  | _, _ => s

/-- TICKET_ISSUE: the head is tried, and issued when no condition of R126 fails. -/
def issueStep (s : State) : State :=
  match s.tickets.queue with
  | [] => s
  | n :: _ => if issueObstacle s = .none then issueHead n s else tryHead s

/-- TICKET_ISSUE (R127). -/
def execTicketIssue (s : State) : Host.Outcome State Fault Refusal := whenRunning s issueStep

/-! ### The ends of non-volatile writes (R37, R41, R123, R124, R186) -/

/-- The office port stops being busy with a write's outcome (R168, R170). -/
def officeWriteEnd (code : Byte) (ok : Bool) (s : State) : State :=
  s.modPort .office fun x =>
    { x with busy := false, lastCommand := code, lastResult := if ok then .done else .failed, reasonStore := !ok,
             data := ReplyData.zero }

/-- RETRY STORE's part of a floor write's end: its port stops being busy (R124). -/
def retryEnd (f : FloorWrite) (ok : Bool) (s : State) : State := if f.retry then officeWriteEnd 0x7D#8 ok s else s

/-- The ticket unit takes the end of its floor write (R123, R124). A failure of RETRY STORE's write leaves the result and
reason STORE; notice STORE belongs to the failure of R123's own write. That failure sets the wait to STORE_FAULT as R123 says,
also where R126's table has an earlier condition fail: the model's choice (log 48). -/
def floorOutcome (f : FloorWrite) (ok : Bool) (s : State) : State :=
  let s := { s with tickets := { s.tickets with floorWrite := none } }
  if ok then
    tryHead (retryEnd f ok { s with tickets := { s.tickets with floor := f.value } })
  else if f.retry then retryEnd f ok s
  else setWait .storeFault (raiseNotice .store .office s)

/-- FLOOR_WRITE_END, when the write in flight is the ticket unit's (R123, R124, R186). -/
def floorWriteEnd (ok : Bool) (s : State) : State :=
  match s.nv.inFlight, s.tickets.floorWrite with
  | some (.floor _), some f => nvServe (floorOutcome f ok (nvEnd ok s))
  | _, _ => s

def execFloorWriteEnd (ok : Bool) (s : State) : Host.Outcome State Fault Refusal := whenRunning s (floorWriteEnd ok)

/-- The calibration unit takes a site number write's end (R41); the site number becoming set tries the head, and so does a
store fault cleared (R126). -/
def siteOutcome (value : Nat) (ok : Bool) (s : State) : State :=
  if ok then tryHead (officeWriteEnd 0x7C#8 ok { s with cal := { s.cal with site := some value } })
  else officeWriteEnd 0x7C#8 ok s

/-- SITE_NUMBER_WRITE_END, when the write in flight is a site number write (R41, R186). -/
def siteWriteEnd (ok : Bool) (s : State) : State :=
  match s.nv.inFlight with
  | some (.site v) => nvServe (siteOutcome v ok (nvEnd ok s))
  | _ => s

def execSiteNumberWriteEnd (ok : Bool) (s : State) : Host.Outcome State Fault Refusal := whenRunning s (siteWriteEnd ok)

end Sys2Proof.Machine
end

