-- ==== Sys2Proof/Machine/Decks.lean ====
section
/-! DEFINITION. The deck measurement unit as it takes its events: a sample (R1, R4, R7), the link fault (R3), the capture
timeout (R20), zero tracking (R40) and zero-setting (R39), and leaving CALIBRATING (R5). -/

namespace Sys2Proof.Machine
open Sys2Proof

/-! ### Zero tracking (R40) -/

/-- The record the tracking rules use: the stored one (R40). -/
def trackRecord (s : State) (d : Deck) : CalRecord := s.cal.stored.get d

/-- The test and move at a count of 50 (R40). -/
def DeckUnit.track (r : CalRecord) (u : DeckUnit) : DeckUnit :=
  let z := u.zs + u.netFine
  { (if withinZeroRange r z then u.setZero z else u) with trackCount := 0 }

/-- The tracking step, when the count has reached 50 (R40, log 7). -/
def trackStep (d : Deck) (s : State) : State :=
  if (s.deck d).trackCount = 50 then s.modDeck d (DeckUnit.track (trackRecord s d)) else s

/-- The conditions under which the count is advanced (R40). -/
def trackCounts (r : CalRecord) (u : DeckUnit) : Bool :=
  decide (u.phase = DeckPhase.active) && u.stable && !u.occupied
    && decide (2 * (u.netFine.natAbs : Int) ≤ 10 * (r.e : Int)) && u.capture.isNone

/-- The count as a processed sample leaves the deck (R40). -/
def trackAdvance (d : Deck) (s : State) : State :=
  let r := trackRecord s d
  s.modDeck d fun u =>
    { u with trackCount := if r.tracking && trackCounts r u then u.trackCount + 1 else 0 }

/-! ### A sample (R1, R7) -/

/-- An OK sample restarts the link silence timer and ends the lost-link condition (R2, R4). -/
def linkRecover (d : Deck) (s : State) : State :=
  s.modDeck d fun u =>
    { u with linkLost := false, linkTimer := u.linkTimer.start (s.waiting (.linkSilenceTimeout d)) (inMs s 100),
             phase := if u.linkLost && decide (u.phase = DeckPhase.fault) then .starting else u.phase }

/-- The events of the stages, from the deck as it stood before them: overload, a change of occupancy with its hand-over to
the lane, stability (R11 to R13, R98, log 8). -/
def stageEvents (d : Deck) (before : DeckUnit) (s : State) : State :=
  let after := s.deck d
  let s := if after.overload && !before.overload then raiseAt .deckOverload d s else s
  let s :=
    if after.occupied && !before.occupied then laneOccupied d (raiseAt .deckOccupied d s)
    else if before.occupied && !after.occupied then laneClear d (raiseAt .deckClear d s)
    else s
  if after.stable && !before.stable && after.occupied then raiseAt .deckStable d s else s

/-- The tests of a capture that was in flight when the sample came: its ending on DECK_CLEAR, then its completion (R7, R18,
R19, R21). A capture that a route of this sample's own events has started is tested from the next sample on: R7 and R21 do not
say so, and it is the model's choice (log 46). -/
def captureTests (d : Deck) (before after : DeckUnit) (s : State) : State :=
  if before.capture.isSome then
    if before.occupied && !after.occupied then endCapture d .abandoned s
    else if completes s d then completeCapture d s
    else s
  else s

/-- One OK sample (R1, R4, R7). -/
def sampleStep (d : Deck) (count : BitVec 24) (s : State) : State :=
  let s := linkRecover d (trackStep d s)
  let before := s.deck d
  let s := s.modDeck d (eightStages (recordInUse s d) count.toInt)
  let after := s.deck d
  trackAdvance d (captureTests d before after (stageEvents d before s))

/-- SAMPLE_OK (R1). -/
def execSampleOk (d : Deck) (count : BitVec 24) (s : State) : Host.Outcome State Fault Refusal :=
  whenRunning s (sampleStep d count)

/-! ### The link fault (R3) -/

/-- What the fault does to the deck itself, with `waiting` expiries of the link silence timer in the queue (R2, R3). -/
def DeckUnit.linkFault (waiting : Nat) (u : DeckUnit) : DeckUnit :=
  { u.invalid with
      linkLost := true, linkTimer := u.linkTimer.stop waiting, window := [], sum := 0, trackCount := 0,
      phase := match u.phase with
        | .starting | .active | .fault => .fault
        | .calibrating => .calibrating }

/-- The link fault (R3). -/
def linkFault (d : Deck) (s : State) : State :=
  let s := (trackStep d s).modDeck d (DeckUnit.linkFault (s.waiting (.linkSilenceTimeout d)))
  let s := endCapture d .deckFault s
  raiseLaneOffice .deck d (raiseAt .deckFault d s)

/-- SAMPLE_CELL_ERROR: the count is discarded (R1, R3). -/
def execSampleCellError (d : Deck) (_count : BitVec 24) (s : State) : Host.Outcome State Fault Refusal :=
  whenRunning s fun s => if (s.deck d).linkLost then s else linkFault d s

/-- LINK_SILENCE_TIMEOUT of a running timer, unless a sample taken first has restarted it (R2, R3). -/
def execLinkSilenceTimeout (d : Deck) (s : State) : Host.Outcome State Fault Refusal :=
  whenDue (s.deck d).linkTimer.late (fun s => s.modDeck d fun u => { u with linkTimer := u.linkTimer.forget })
    (fun s => if (s.deck d).linkTimer.running && !(s.deck d).linkLost then linkFault d s else s) s

/-- CAPTURE_TIMEOUT of a capture in flight, unless the capture it was of has ended first (R20, R22, R23). -/
def execCaptureTimeout (d : Deck) (s : State) : Host.Outcome State Fault Refusal :=
  whenDue (s.deck d).captureLate (fun s => s.modDeck d fun u => { u with captureLate := u.captureLate - 1 })
    (endCapture d .timeout) s

/-- ZERO_TRACKING_STEP, when it is due (R40, log 7). -/
def execZeroTrackingStep (d : Deck) (s : State) : Host.Outcome State Fault Refusal := whenRunning s (trackStep d)

/-! ### Zero-setting (R39) -/

/-- ZERO DECK's own tests, `none` where it is accepted (R39). -/
def zeroRefusal (s : State) (d : Deck) : Option Result :=
  let u := s.deck d
  if u.phase = .calibrating then some .state
  else if u.capture.isSome then some .state
  else if u.phase ≠ .active ∨ !u.stable then some .motion
  else if !withinZeroRange (s.cal.stored.get d) u.fine then some .range
  else none

/-- ZERO DECK at its deck (R39); an overdue tracking step comes first (log 7). -/
def zeroDeck (d : Deck) (s : State) : Result × State :=
  let s := trackStep d s
  match zeroRefusal s d with
  | some r => (r, s)
  | none => (.done, s.modDeck d fun u => { u.setZero u.fine with trackCount := 0 })

/-! ### Leaving CALIBRATING (R5) -/

/-- The deck leaves CALIBRATING (R5). -/
def DeckUnit.leaveCalibrating (u : DeckUnit) : DeckUnit :=
  { u.invalid with window := [], sum := 0, trackCount := 0,
                   phase := if u.linkLost then .fault else .starting }

end Sys2Proof.Machine
end

