-- ==== Sys2Proof/Machine/Ports.lean ====
section
/-! DEFINITION. The master port: exchanges and framing (R166, R167), the order of tests and the last result (R168), busy
(R170), follow mode (R177), cursor moves (R167), and the port's own commands READ STATUS, CLEAR NOTICES, SET NOTICE ENABLE,
FOLLOW JOURNAL, LEAVE FOLLOW, READ JOURNAL. -/

namespace Sys2Proof.Machine
open Sys2Proof

/-! ### Command codes (R178) -/

/-- A command code of the summary is write-type or read-type, or in no table (R167, R178). -/
inductive CommandForm where
  /-- write-type, with its argument count -/
  | write (args : Nat)
  /-- WRITE RECORD, whose count is the selected table's write length -/
  | writeRecord
  /-- read-type, with its argument count and its reply length -/
  | read (args reply : Nat)
  /-- READ RECORD, whose reply length is the selected table's -/
  | readRecord
  | unknown
deriving DecidableEq, Repr

/-- The command summary, by code (R178). -/
def commandSummary : List (Nat × CommandForm) :=
  [(0x01, .read 0 23), (0x02, .write 2), (0x03, .write 2), (0x10, .read 2 5), (0x11, .write 6),
   (0x18, .write 5), (0x19, .readRecord), (0x1A, .writeRecord), (0x20, .read 1 10), (0x28, .write 0),
   (0x29, .write 0), (0x2A, .read 0 78), (0x30, .write 19), (0x31, .write 11), (0x32, .write 3),
   (0x33, .write 3), (0x34, .write 1), (0x35, .write 1), (0x36, .write 1), (0x37, .write 1), (0x38, .write 1),
   (0x40, .write 2), (0x41, .write 3), (0x48, .write 4), (0x49, .write 5), (0x50, .write 5), (0x51, .write 0),
   (0x58, .write 2), (0x60, .write 0), (0x61, .write 1), (0x70, .write 1), (0x71, .write 19), (0x72, .write 1),
   (0x73, .write 5), (0x74, .write 1), (0x75, .write 1), (0x78, .write 0), (0x7C, .write 2), (0x7D, .write 0)]

/-- The form of a command code (R178). -/
def formOf (code : Byte) : CommandForm := (Table.find commandSummary code.toNat).getD .unknown

/-- The length of a READ RECORD reply at a port: the result byte alone with no table selected. R175 says so of the STATE it
answers then; that a disabled lane port's DENIED has the same length is the model's choice (log 45). -/
def recordReplyLength (x : Port) : Nat :=
  match x.cursor with
  | none => 1
  | some (t, _) => 1 + t.payload

/-- A WRITE RECORD's count passes the framing test (R167). -/
def writeRecordFramed (x : Port) (args : Nat) : Bool :=
  match x.cursor with
  | none => true
  | some (t, _) =>
    match t.writeLength with
    | none => true
    | some n => decide (args = n)

/-- An exchange with these counts fails framing: the argument bytes clocked after the code, and the reply bytes clocked
after the last of them (R167). In follow mode every byte after the first is a reply byte (R177). -/
def framingWrong (x : Port) (code : Byte) (argBytes replyBytes : Nat) : Bool :=
  if x.follow then decide (code ≠ 0x29#8) && decide (argBytes + replyBytes < 78)
  else
    match formOf code with
    | .write n => decide (argBytes ≠ n)
    | .writeRecord => !writeRecordFramed x argBytes
    | .read n r => decide (argBytes < n) || decide (replyBytes < r)
    | .readRecord => decide (replyBytes < recordReplyLength x)
    | .unknown => false

/-! ### Exchanges -/

/-- An exchange begins: what an earlier one had formed and not committed is gone (R167, log 13). -/
def beginExchange (p : PortId) (s : State) : State := s.modPort p fun x => { x with reply := none, move := none }

/-- The reply READ JOURNAL forms, with the move it would make (R138, R167). -/
def formJournalReply (p : PortId) (s : State) : State :=
  let r := journalRead s p
  s.modPort p fun x => { x with reply := some (.journal .done r.1 r.2.1), move := some (.journal r.2.2) }

/-- An exchange at a port: a follow exchange when the port is in follow mode, else the command it carries (R177, log 12). -/
def exchange (p : PortId) (f : State → State) (s : State) : State :=
  let s := beginExchange p s
  if (s.port p).follow then formJournalReply p s else f s

/-- An exchange that failed framing (R167, R168, log 10). -/
def framingResult (p : PortId) (s : State) : State :=
  s.modPort p fun x => { x with lastResult := .framing, reasonStore := false, reply := none, move := none }

/-! ### Taking a command (R168) -/

/-- The port's own refusal: a disabled lane port, a command the port may not issue, a busy port (R168). -/
def portRefusal (s : State) (p : PortId) (permitted served : Bool) : Option Result :=
  if !(s.port p).enabled then some .denied
  else if !permitted then some .denied
  else if (s.port p).busy && !served then some .busy
  else none

/-- A write-type command's result (R168). -/
def setResult (p : PortId) (code : Byte) (r : Result) (data : ReplyData) (s : State) : State :=
  s.modPort p fun x => { x with lastCommand := code, lastResult := r, reasonStore := false, data := data }

/-- A write-type command that has passed framing, with the reply data of its body (R168). -/
def takeWithData (p : PortId) (code : Byte) (permitted served : Bool) (body : State → (Result × ReplyData) × State)
    (s : State) : State :=
  match portRefusal s p permitted served with
  | some r => setResult p code r ReplyData.zero s
  | none =>
    let x := body s
    setResult p code x.1.1 x.1.2 x.2

/-- A write-type command that has passed framing and gives no reply data (R168). -/
def take (p : PortId) (code : Byte) (permitted served : Bool) (body : State → Result × State) (s : State) : State :=
  takeWithData p code permitted served (fun s => let x := body s; ((x.1, ReplyData.zero), x.2)) s

/-- An office command (R173). -/
def isOffice : PortId → Bool
  | .office => true
  | .lane _ => false

/-- The exchange of a write-type command not served while the port is busy. -/
def command (p : PortId) (code : Byte) (permitted : Bool) (body : State → Result × State)
    (s : State) : Host.Outcome State Fault Refusal :=
  whenRunning s (exchange p (take p code permitted false body))

/-- The exchange of a write-type command served while the port is busy (R170). -/
def servedCommand (p : PortId) (code : Byte) (permitted : Bool) (body : State → Result × State)
    (s : State) : Host.Outcome State Fault Refusal :=
  whenRunning s (exchange p (take p code permitted true body))

/-- A read-type command: its reply is formed; it changes no last result (R168). `refused` is the reply a disabled port or a
missing privilege gives; all read-type commands are served while the port is busy (R170). -/
def readReply (p : PortId) (refused : Reply) (form : State → Reply × Option CursorMove) (s : State) : State :=
  if (s.port p).enabled then
    let r := form s
    s.modPort p fun x => { x with reply := some r.1, move := r.2 }
  else s.modPort p fun x => { x with reply := some refused }

/-! ### READ STATUS and notices (R169, R172) -/

/-- The READ STATUS reply (R169). With no table selected the cursor has no index, and 0 is shown: the model's choice (log 44). -/
def statusOf (x : Port) : StatusReply :=
  { lastCommand := x.lastCommand, lastResult := x.lastResult, reasonStore := x.reasonStore, data := x.data,
    pendingSet := x.pendingSet, enabledSet := x.enabledSet, busy := x.busy, follow := x.follow, enabled := x.enabled,
    granted := x.granted, table := x.cursor.map Prod.fst, index := (x.cursor.map Prod.snd).getD 0,
    journalCursor := x.journalCursor }

/-- READ STATUS, served in every condition (R169). -/
def execReadStatus (p : PortId) (s : State) : Host.Outcome State Fault Refusal :=
  whenRunning s (exchange p fun s => s.modPort p fun x => { x with reply := some (.status (statusOf x)) })

/-- A set names only the fourteen kinds (R172). -/
def legalSet (n : BitVec 16) : Bool := decide (n &&& ~~~allNotices = 0#16)

/-- CLEAR NOTICES (R172). -/
def execClearNotices (p : PortId) (set : BitVec 16) (s : State) : Host.Outcome State Fault Refusal :=
  command p 0x02#8 true (fun s =>
    if legalSet set then (.done, s.modPort p fun x => { x with pendingSet := x.pendingSet &&& ~~~set })
    else (.range, s)) s

/-- SET NOTICE ENABLE (R172). -/
def execSetNoticeEnable (p : PortId) (set : BitVec 16) (s : State) : Host.Outcome State Fault Refusal :=
  command p 0x03#8 true (fun s =>
    if legalSet set then (.done, s.modPort p fun x => { x with enabledSet := set }) else (.range, s)) s

/-! ### The journal and follow mode (R138, R177) -/

/-- READ JOURNAL (R138). -/
def execReadJournal (p : PortId) (s : State) : Host.Outcome State Fault Refusal :=
  whenRunning s (exchange p (readReply p (.journal .denied 0 none) fun s =>
    let r := journalRead s p
    (.journal .done r.1 r.2.1, some (.journal r.2.2))))

/-- FOLLOW JOURNAL (R177). -/
def execFollowJournal (p : PortId) (s : State) : Host.Outcome State Fault Refusal :=
  servedCommand p 0x28#8 true (fun s => (.done, s.modPort p fun x => { x with follow := true })) s

/-- LEAVE FOLLOW: ends follow mode at its byte; STATE outside it (R177). -/
def execLeaveFollow (p : PortId) (s : State) : Host.Outcome State Fault Refusal :=
  whenRunning s fun s =>
    let s := beginExchange p s
    if (s.port p).follow then
      setResult p 0x29#8 .done ReplyData.zero (s.modPort p fun x => { x with follow := false })
    else take p 0x29#8 true true (fun s => (.state, s)) s

/-- FOLLOW_EXCHANGE, an exchange in follow mode (R177). -/
def execFollowExchange (p : PortId) (s : State) : Host.Outcome State Fault Refusal :=
  whenRunning s fun s => if (s.port p).follow then formJournalReply p (beginExchange p s) else s

/-- A cursor takes the move a read has formed (R167). -/
def Port.commit (x : Port) : Port :=
  match x.move with
  | none => x
  | some (.table i) => { x with cursor := x.cursor.map fun c => (c.1, i), move := none }
  | some (.journal n) => { x with journalCursor := n, move := none }

/-- READ_CURSOR_MOVE: select is released after the whole reply (R167). -/
def execReadCursorMove (p : PortId) (s : State) : Host.Outcome State Fault Refusal :=
  whenRunning s fun s => s.modPort p Port.commit

/-- FRAMING_DISCARD, where the counts do fail framing (R167). -/
def execFramingDiscard (p : PortId) (code : Byte) (argBytes replyBytes : Nat) (s : State) :
    Host.Outcome State Fault Refusal :=
  whenRunning s fun s => if framingWrong (s.port p) code argBytes replyBytes then framingResult p s else s

/-- UNKNOWN_COMMAND: a code outside the summary is answered NO_SUCH (R167, log 11). -/
def execUnknownCommand (p : PortId) (code : Byte) (s : State) : Host.Outcome State Fault Refusal :=
  whenRunning s fun s =>
    if formOf code = .unknown then exchange p (setResult p code .noSuch ReplyData.zero) s else s

end Sys2Proof.Machine
end

