-- ==== Sys2Proof/Decode.lean ====
section
/-! DEFINITION. Which commands the bytes of an exchange carry (R166, R167, R177, R178, R179). The rows of the opcode table
give no bits, so no table word spells a command. -/

namespace Sys2Proof
open Machine

/-- The command a table word spells: none, since every row's list of fields is empty. -/
def decodeTableWord (_nbits _w : Nat) : Option Instr := none

/-- Byte `i` of the arguments. -/
def argByte (args : List Byte) (i : Nat) : Byte := args.getD i 0#8

/-- The `k` bytes at `i` as a number (R179). -/
def argNat (args : List Byte) (i k : Nat) : Nat := beNat (field args i k)

/-- The CAL SET fields (R178). -/
def calFieldsOf (a : List Byte) : CalFields :=
  { max := BitVec.ofNat 32 (argNat a 1 4), e := argByte a 5, n := argByte a 6, w := argByte a 7,
    mf := BitVec.ofNat 16 (argNat a 8 2), tracking := argByte a 10, zc := BitVec.ofNat 32 (argNat a 11 4),
    k := BitVec.ofNat 32 (argNat a 15 4) }

/-- A WRITE PARAMETER: codes 24 and 34 are rows of their own (R174). -/
def writeParameterOf (p : PortId) (code inst : Byte) (value : BitVec 32) : Instr :=
  if code = 24#8 then .writeLaneMode p inst value
  else if code = 34#8 then .writeLanePortEnable p inst value
  else .writeParameter p code inst value

/-- The commands of the summary by code, each from its argument bytes (R178). -/
def commandTable (p : PortId) (a : List Byte) : List (Nat × Instr) :=
  [(0x01, .readStatus p), (0x02, .clearNotices p (BitVec.ofNat 16 (argNat a 0 2))),
   (0x03, .setNoticeEnable p (BitVec.ofNat 16 (argNat a 0 2))),
   (0x10, .readParameter p (argByte a 0) (argByte a 1)),
   (0x11, writeParameterOf p (argByte a 0) (argByte a 1) (BitVec.ofNat 32 (argNat a 2 4))),
   (0x18, .selectTable p (argByte a 0) (BitVec.ofNat 32 (argNat a 1 4))), (0x19, .readRecord p),
   (0x1A, .writeRecord p a), (0x20, .readWeight p (argByte a 0)),
   (0x28, .followJournal p), (0x29, .leaveFollow p), (0x2A, .readJournal p),
   (0x30, .announce p (argByte a 0) (field a 1 10) (BitVec.ofNat 16 (argNat a 11 2)) (argByte a 13) (argByte a 14)
            (BitVec.ofNat 32 (argNat a 15 4))),
   (0x31, .attach p (argByte a 0) (field a 1 10)),
   (0x32, .release p (argByte a 0) (BitVec.ofNat 16 (argNat a 1 2))),
   (0x33, .capture p (argByte a 0) (BitVec.ofNat 16 (argNat a 1 2))),
   (0x34, .manualRaise p (argByte a 0)), (0x35, .manualLower p (argByte a 0)), (0x36, .reprintLast p (argByte a 0)),
   (0x37, .abortPrint p (argByte a 0)), (0x38, .zeroDeck p (argByte a 0)),
   (0x40, .voidVisit p (BitVec.ofNat 16 (argNat a 0 2))),
   (0x41, .resolve p (BitVec.ofNat 16 (argNat a 0 2)) (argByte a 2)),
   (0x48, .archiveUpTo p (BitVec.ofNat 32 (argNat a 0 4))),
   (0x49, .reprintTicket p (BitVec.ofNat 32 (argNat a 0 4)) (argByte a 4)),
   (0x50, .setClock p (BitVec.ofNat 16 (argNat a 0 2)) (BitVec.ofNat 24 (argNat a 2 3))), (0x51, .forceRollover p),
   (0x58, .setOutput p (argByte a 0) (argByte a 1)), (0x60, .restartLanes p), (0x61, .clearLaneFault p (argByte a 0)),
   (0x70, .calBegin p (argByte a 0)), (0x71, .calSet p (argByte a 0) (calFieldsOf a)), (0x72, .calZero p (argByte a 0)),
   (0x73, .calSpan p (argByte a 0) (BitVec.ofNat 32 (argNat a 1 4))), (0x74, .calEnd p (argByte a 0)),
   (0x75, .calAbandon p (argByte a 0)), (0x78, .lockCalibration p),
   (0x7C, .writeSiteNumber p (BitVec.ofNat 16 (argNat a 0 2))), (0x7D, .retryStore p)]

/-- The command a code and its argument bytes spell; a code outside the summary is UNKNOWN_COMMAND (R167, R178). -/
def commandOf (p : PortId) (code : Byte) (args : List Byte) : Instr :=
  (Table.find (commandTable p args) code.toNat).getD (.unknownCommand p code)

/-- A read-type command with `reply` reply bytes of which `clocked` are clocked, and how its exchange ends: the move of its
cursor, or the framing failure (R167). -/
def readExchange (p : PortId) (code : Byte) (args reply clocked : Nat) (i : Instr) : List Instr :=
  [i] ++ (if clocked < reply then [.framingDiscard p code args clocked]
          else if code = 0x19#8 ∨ code = 0x2A#8 then [.readCursorMove p] else [])

/-- The commands an exchange of these whole bytes carries at a port in state `x`, the first byte being the command code
(R166, R167, R177). An exchange of no whole byte carries none. -/
def decodeExchange (x : Port) (p : PortId) (bytes : List Byte) : List Instr :=
  match bytes with
  | [] => []
  | code :: rest =>
    if x.follow then
      if code = 0x29#8 then [.leaveFollow p]
      else .followExchange p ::
        (if rest.length < 78 then [.framingDiscard p code 0 rest.length] else [.readCursorMove p])
    else
      match formOf code with
      | .unknown => [.unknownCommand p code]
      | .write _ | .writeRecord =>
        if framingWrong x code rest.length 0 then [.framingDiscard p code rest.length 0] else [commandOf p code rest]
      | .read n r =>
        if rest.length < n then [.framingDiscard p code rest.length 0]
        else readExchange p code n r (rest.length - n) (commandOf p code (rest.take n))
      | .readRecord => readExchange p code 0 (recordReplyLength x) rest.length (.readRecord p)

end Sys2Proof
end

