-- ==== Sys2Proof/Machine/Parameters.lean ====
section
/-! DEFINITION. The parameter space (R174): the codes, each parameter's value and access, and what an accepted write does,
lane mode (R96), lane port enable (R173, R177) and overstay limit (R64) among them. -/

namespace Sys2Proof.Machine
open Sys2Proof

/-- The parameters of R174. -/
inductive Param where
  | threshold (d : Deck) | captureTimeout (d : Deck)
  | lockMode | switch | siteNumber
  | overstayLimit | tareValidity
  | laneMode (l : Lane) | direction (l : Lane) | autoCapture (l : Lane) | passTimeout (l : Lane)
  | unannouncedTimeout (l : Lane) | travelTimeout (l : Lane) | sensors (l : Lane)
  | deliveryTemplate (l : Lane) | collectionTemplate (l : Lane) | pauseTimeout (l : Lane)
  | portEnable (l : Lane) | countersGrant (l : Lane)
  | yardDay | pendingRollover
  | nextTicket | ticketFloor | queueLength | issueWait | systemRecords
  | lastSequence | archiveMark | unarchivedCount | reservations | oldestSequence
  | outputLevel (n : Nat) | pulseRunning (n : Nat) | pulseLength (n : Nat) | inputLevel (n : Nat)
  | clockDay | clockSecond | clockSet | monoSeconds | rolloverTime | storeFault
deriving DecidableEq, Repr

/-- A parameter with instance 0 alone. -/
def yardWide (p : Param) (inst : Nat) : Option Param := if inst = 0 then some p else none

/-- A parameter with one instance for each deck or lane. -/
def perLane (f : Idx → Param) (inst : Nat) : Option Param := (Idx.ofNat? inst).map f

/-- A parameter with one instance for each output or input. -/
def perEight (f : Nat → Param) (inst : Nat) : Option Param := if 1 ≤ inst ∧ inst ≤ 8 then some (f inst) else none

/-- The codes, each with its instances (R174). -/
def paramTable : List (Nat × (Nat → Option Param)) :=
  [(1, perLane .threshold), (2, perLane .captureTimeout),
   (8, yardWide .lockMode), (9, yardWide .switch), (10, yardWide .siteNumber),
   (16, yardWide .overstayLimit), (17, yardWide .tareValidity),
   (24, perLane .laneMode), (25, perLane .direction), (26, perLane .autoCapture), (27, perLane .passTimeout),
   (28, perLane .unannouncedTimeout), (29, perLane .travelTimeout), (30, perLane .sensors),
   (31, perLane .deliveryTemplate), (32, perLane .collectionTemplate), (33, perLane .pauseTimeout),
   (34, perLane .portEnable), (35, perLane .countersGrant),
   (40, yardWide .yardDay), (41, yardWide .pendingRollover),
   (48, yardWide .nextTicket), (49, yardWide .ticketFloor), (50, yardWide .queueLength), (51, yardWide .issueWait),
   (52, yardWide .systemRecords),
   (56, yardWide .lastSequence), (57, yardWide .archiveMark), (58, yardWide .unarchivedCount),
   (59, yardWide .reservations), (60, yardWide .oldestSequence),
   (64, perEight .outputLevel), (65, perEight .pulseRunning), (66, perEight .pulseLength), (67, perEight .inputLevel),
   (72, yardWide .clockDay), (73, yardWide .clockSecond), (74, yardWide .clockSet), (75, yardWide .monoSeconds),
   (76, yardWide .rolloverTime), (77, yardWide .storeFault)]

/-- The parameter a code and an instance name (R174). -/
def paramOf (code inst : Byte) : Option Param :=
  match Table.find paramTable code.toNat with
  | none => none
  | some f => f inst.toNat

/-- Who may change a parameter, and the values it takes (R174). -/
inductive Access where
  | readOnly
  | numeric (lo hi : Nat)
  /-- enumerated values 0 to `hi` -/
  | enumerated (hi : Nat)
deriving DecidableEq, Repr

def Param.access : Param → Access
  | .threshold _ => .numeric 100 5000
  | .captureTimeout _ => .numeric 2 60
  | .overstayLimit => .numeric 10 1440
  | .tareValidity => .numeric 0 365
  | .laneMode _ | .direction _ => .enumerated 2
  | .autoCapture _ | .portEnable _ | .countersGrant _ => .enumerated 1
  | .passTimeout _ => .numeric 10 300
  | .unannouncedTimeout _ => .numeric 30 600
  | .travelTimeout _ => .numeric 2 20
  | .deliveryTemplate _ | .collectionTemplate _ => .numeric 0 3
  | .pauseTimeout _ => .numeric 10 600
  | .pulseLength _ => .numeric 100 10000
  | .rolloverTime => .numeric 0 86399
  | .lockMode | .switch | .siteNumber | .sensors _ | .yardDay | .pendingRollover | .nextTicket | .ticketFloor
  | .queueLength | .issueWait | .systemRecords | .lastSequence | .archiveMark | .unarchivedCount | .reservations
  | .oldestSequence | .outputLevel _ | .pulseRunning _ | .inputLevel _ | .clockDay | .clockSecond | .clockSet
  | .monoSeconds | .storeFault => .readOnly

/-- A flag as a parameter value. -/
def flagValue (b : Bool) : Nat := if b then 1 else 0

/-- The numbers of the lane modes (R174, code 24). -/
def LaneMode.number : LaneMode → Nat
  | .closed => 0 | .auto => 1 | .manual => 2
def LaneMode.ofNumber : Nat → LaneMode
  | 1 => .auto | 2 => .manual | _ => .closed

/-- The numbers of the directions (R174, code 25). -/
def Direction.number : Direction → Nat
  | .inbound => 0 | .outbound => 1 | .both => 2
def Direction.ofNumber : Nat → Direction
  | 0 => .inbound | 1 => .outbound | _ => .both

/-- The numbers of the issue waits (R174, code 51). -/
def IssueWait.number : IssueWait → Nat
  | .none => 0 | .systemRecord => 1 | .journal => 2 | .siteNumber => 3 | .storeFault => 5 | .floorWrite => 6
  | .numberingEnded => 7

/-- A general input's filtered level, HIGH when true (R163). -/
def State.input (s : State) (n : Nat) : Bool := Table.getD s.routes.inputs false n

/-- A parameter's present value (R174). -/
def Param.value (s : State) : Param → Nat
  | .threshold d => (s.deck d).threshold
  | .captureTimeout d => (s.deck d).captureTimeout
  | .lockMode => match s.cal.lock with | .switch => 0 | .lockedUntilPower => 1
  | .switch => flagValue s.cal.switchClosed
  | .siteNumber => s.cal.site.getD 0
  | .overstayLimit => s.visits.overstayLimit
  | .tareValidity => s.tares.validity
  | .laneMode l => (s.lane l).params.mode.number
  | .direction l => (s.lane l).params.direction.number
  | .autoCapture l => flagValue (s.lane l).params.autoCapture
  | .passTimeout l => (s.lane l).params.passTimeout
  | .unannouncedTimeout l => (s.lane l).params.unannouncedTimeout
  | .travelTimeout l => (s.lane l).params.travelTimeout
  | .sensors l =>
    let x := (s.lane l).sensors
    flagValue x.loopOccupied + 2 * flagValue x.beam1Broken + 4 * flagValue x.beam2Broken
  | .deliveryTemplate l => (s.lane l).printer.deliveryTemplate
  | .collectionTemplate l => (s.lane l).printer.collectionTemplate
  | .pauseTimeout l => (s.lane l).printer.pauseTimeout
  | .portEnable l => flagValue (s.port (.lane l)).enabled
  | .countersGrant l => flagValue (s.port (.lane l)).granted
  | .yardDay => s.allow.yardDay
  | .pendingRollover => s.tickets.pendingRollover.getD 65536
  | .nextTicket => s.tickets.next
  | .ticketFloor => s.tickets.floor
  | .queueLength => s.tickets.queue.length
  | .issueWait => s.tickets.wait.number
  | .systemRecords => flagValue s.tickets.pendingRestart.isSome + 2 * flagValue s.tickets.pendingRollover.isSome
  | .lastSequence => s.journal.last
  | .archiveMark => s.journal.mark
  | .unarchivedCount => unarchived s.journal
  | .reservations => s.journal.reservations
  | .oldestSequence => oldestRetained s.journal
  | .outputLevel n => flagValue (s.output n).on
  | .pulseRunning n => flagValue (s.output n).pulseTimer.running
  | .pulseLength n => (s.output n).pulseLength
  | .inputLevel n => flagValue (s.input n)
  | .clockDay => s.clock.day
  | .clockSecond => s.clock.second
  | .clockSet => flagValue s.clock.isSet
  | .monoSeconds => s.clock.mono
  | .rolloverTime => s.clock.rolloverTime
  | .storeFault => flagValue s.nv.storeFault

/-! ### Lane mode (R96), overstay (R64), port enable (R173) -/

/-- The sequencer restarts in its mode after a mode change (R96, R103, R112, R113). -/
def restartInMode (l : Lane) (m : LaneMode) (s : State) : State :=
  match m with
  | .closed => enterClosed l s
  | .manual => enterManual l s
  | .auto => settle l s

/-- An accepted write of the lane mode (R96). -/
def setLaneMode (l : Lane) (m : LaneMode) (s : State) : State :=
  if (s.lane l).params.mode = m then s
  else
    let s := cancelRaiseWait l (stopLane l (endCapture l .abandoned s))
    let s := restartInMode l m (s.modParams l fun x => { x with mode := m })
    syncUnannounced l s

/-- A visit overstays (R64). -/
def overstayVisit (n : Nat) (s : State) : State :=
  raiseNotice .visit .office (raiseEvent .overstay none (modVisit n (fun v => { v with overstayNoticed := true }) s))

/-- A visit overstays now: its flag is clear and the monotonic yard seconds have reached its announce second plus 60 times
the limit (R64). -/
def overstayDue (s : State) (v : Visit) : Bool :=
  !v.overstayNoticed && decide (v.announceSecond + 60 * s.visits.overstayLimit ≤ s.clock.mono)

/-- The open visits that overstay at once under the present limit (R64). -/
def dueOverstays (s : State) : List Nat :=
  ((s.visits.records.map Prod.snd).filter (overstayDue s)).map (·.number)

/-- An accepted write of the overstay limit (R64). -/
def setOverstayLimit (n : Nat) (s : State) : State :=
  let s := { s with visits := { s.visits with overstayLimit := n } }
  (dueOverstays s).foldl (fun s v => overstayVisit v s) s

/-- An accepted write of the lane port enable; a disabled port leaves follow mode at once (R173, R177). -/
def setPortEnable (l : Lane) (on : Bool) (s : State) : State :=
  s.modPort (.lane l) fun x => { x with enabled := on, follow := x.follow && on }

/-- What an accepted write does (R174); a read-only parameter is never written. -/
def Param.write (v : Nat) (s : State) : Param → State
  | .threshold d => s.modDeck d fun u => { u with threshold := v }
  | .captureTimeout d => s.modDeck d fun u => { u with captureTimeout := v }
  | .overstayLimit => setOverstayLimit v s
  | .tareValidity => { s with tares := { s.tares with validity := v } }
  | .laneMode l => setLaneMode l (LaneMode.ofNumber v) s
  | .direction l => s.modParams l fun x => { x with direction := Direction.ofNumber v }
  | .autoCapture l => s.modParams l fun x => { x with autoCapture := decide (v = 1) }
  | .passTimeout l => s.modParams l fun x => { x with passTimeout := v }
  | .unannouncedTimeout l => s.modParams l fun x => { x with unannouncedTimeout := v }
  | .travelTimeout l => s.modParams l fun x => { x with travelTimeout := v }
  | .deliveryTemplate l => s.modPrinter l fun e => { e with deliveryTemplate := v }
  | .collectionTemplate l => s.modPrinter l fun e => { e with collectionTemplate := v }
  | .pauseTimeout l => s.modPrinter l fun e => { e with pauseTimeout := v }
  | .portEnable l => setPortEnable l (decide (v = 1)) s
  | .countersGrant l => s.modPort (.lane l) fun x => { x with granted := decide (v = 1) }
  | .pulseLength n => s.modOutput n fun o => { o with pulseLength := v }
  | .rolloverTime => { s with clock := { s.clock with rolloverTime := v } }
  | .lockMode | .switch | .siteNumber | .sensors _ | .yardDay | .pendingRollover | .nextTicket | .ticketFloor
  | .queueLength | .issueWait | .systemRecords | .lastSequence | .archiveMark | .unarchivedCount | .reservations
  | .oldestSequence | .outputLevel _ | .pulseRunning _ | .inputLevel _ | .clockDay | .clockSecond | .clockSet
  | .monoSeconds | .storeFault => s

/-- The tests of a WRITE PARAMETER, `none` where it is accepted (R174). -/
def Param.refusal (p : Param) (v : Nat) : Option Result :=
  match p.access with
  | .readOnly => some .denied
  | .numeric lo hi => if lo ≤ v ∧ v ≤ hi then none else some .range
  | .enumerated hi => if v ≤ hi then none else some .held

/-- WRITE PARAMETER at its owner (R174). -/
def writeParam (code inst : Byte) (v : Nat) (s : State) : Result × State :=
  match paramOf code inst with
  | none => (.noSuch, s)
  | some p =>
    match p.refusal v with
    | some r => (r, s)
    | none => (.done, p.write v s)

/-- READ PARAMETER (R174). -/
def execReadParameter (p : PortId) (code inst : Byte) (s : State) : Host.Outcome State Fault Refusal :=
  whenRunning s (exchange p (readReply p (.parameter .denied 0) fun s =>
    match paramOf code inst with
    | none => (.parameter .noSuch 0, none)
    | some q => (.parameter .done (q.value s), none)))

/-- WRITE PARAMETER (R174). -/
def execWriteParameter (p : PortId) (code inst : Byte) (value : BitVec 32) (s : State) :
    Host.Outcome State Fault Refusal :=
  command p 0x11#8 (isOffice p) (writeParam code inst value.toNat) s

/-- WRITE PARAMETER of code 24, the lane mode (R96). -/
def execWriteLaneMode (p : PortId) (inst : Byte) (value : BitVec 32) (s : State) : Host.Outcome State Fault Refusal :=
  command p 0x11#8 (isOffice p) (writeParam 24#8 inst value.toNat) s

/-- WRITE PARAMETER of code 34, the lane port enable (R173). -/
def execWriteLanePortEnable (p : PortId) (inst : Byte) (value : BitVec 32) (s : State) :
    Host.Outcome State Fault Refusal :=
  command p 0x11#8 (isOffice p) (writeParam 34#8 inst value.toNat) s

/-- OVERSTAY of an open visit that overstays now (R64); another is not an event of the part (log 5). -/
def execOverstay (visit : BitVec 16) (s : State) : Host.Outcome State Fault Refusal :=
  whenRunning s fun s =>
    match findVisit s visit.toNat with
    | none => s
    | some v => if overstayDue s v then overstayVisit v.number s else s

end Sys2Proof.Machine
end

