-- ==== Sys2Proof/Machine/Records.lean ====
section
/-! DEFINITION. The tables: selecting and reading them (R65, R73, R93, R119, R140, R162, R175), the owners' writes (R72, R77,
R85 to R88, R144, R162), and the WRITE RECORD exchange that reaches them (R167, R176). -/

namespace Sys2Proof.Machine
open Sys2Proof

/-! ### What a record reads as -/

/-- A row's amounts with its free amount (R93). -/
def Amounts.view (a : Amounts) : AmountsView := { amounts := a, free := a.free }

/-- The print engine's part of the lane report (R145). -/
def PrintEngine.report (e : PrintEngine) : PrintReport :=
  let show1 (j : PrintJob) : Nat × Bool := (j.ticket.number, j.copy)
  { state := e.state, current := e.jobs.head?.map show1, waiting := (e.jobs.drop 1).head?.map show1,
    fifo := e.fifo.length, lastResult := e.lastResult }

/-- A lane's report (R119). -/
def laneView (s : State) (l : Lane) : LaneView :=
  let u := s.lane l
  { mode := u.params.mode, direction := u.params.direction, state := u.seqr.state, barrier := u.barrier.state,
    pendingLower := u.barrier.pendingLower, light := u.seqr.light, sensors := u.sensors,
    queue := (queueOf s l).map fun m =>
      (m.2, { slot := m.1.num, generation := (s.visits.queues.get l).generations.get m.1 }),
    released := u.seqr.released, capture := (s.deck l).capture.map (·.visit), report := u.report,
    printer := u.printer.report }

/-- A LANE_VISIT record's visit (R65). -/
def laneVisitView (v : Visit) (h : Handle) : LaneVisitView :=
  { handle := h, visit := v.number, vehicle := v.vehicle, category := v.category, kind := v.kind, state := v.state,
    first := v.first, second := v.second, tareSource := v.tareSource, net := v.net, reason := v.reason,
    ticket := v.ticket }

/-- A LANE_VISIT record: a slot's generation, and the visit in it (R65). -/
def laneVisitRecord (s : State) (l : Lane) (slot : Slot) : RecordView :=
  let g := (s.visits.queues.get l).generations.get slot
  match (queueOf s l).find? fun m => m.1 = slot with
  | none => .laneVisit g none
  | some (_, n) => .laneVisit g ((findVisit s n).map fun v => laneVisitView v { slot := slot.num, generation := g })

/-- The lane whose slots a port's LANE_VISIT shows: its own, and lane 1 at the office port (R65, R175). -/
def laneVisitLane : PortId → Lane
  | .office => .i1
  | .lane l => l

/-- The record of a table at an index, as a port reads it now. -/
def recordView (s : State) (p : PortId) (t : TableId) (i : Nat) : RecordView :=
  match t with
  | .categories => .category (i + 1) (Table.find s.allow.categories (i + 1))
  | .accounts =>
    .account ((Table.find s.allow.accounts i).map fun a => (a, a.rows.map fun r => r.amounts.view))
  | .siteCaps => .siteCap ((Table.find s.allow.caps (i + 1)).map Amounts.view)
  | .counters => .counters (countersOf s (i + 1)) s.allow.yardDay
  | .tares => .tare ((Table.find s.tares.entries i).map fun t => (t, tareValid s t))
  | .visits => .visit ((Table.find s.visits.records i).map fun v => (v, visitHandle s v))
  | .laneVisit =>
    match Idx.ofNat? (i + 1) with
    | none => .laneVisit 0 none
    | some slot => laneVisitRecord s (laneVisitLane p) slot
  | .lanes => .lane (laneView s ((Idx.ofNat? (i + 1)).getD .i1))
  | .templates => .template (Table.find s.templates.templates i) (inUseOf s i)
  | .lines => .line (Table.getD s.templates.lines LineRecord.cold i)
  | .routes => .route (Table.getD s.routes.routes Route.cold i)
  | .journal => .journal (retainedEntry s.journal i)

/-- SELECT TABLE's own tests and effect (R175). -/
def selectTable (p : PortId) (table index : Nat) (s : State) : Result × State :=
  match TableId.ofCode? table with
  | none => (.noSuch, s)
  | some t =>
    if !tablePermitted s p t index then (.denied, s)
    else if t.lastIndex < index then (.range, s)
    else (.done, s.modPort p fun x => { x with cursor := some (t, index) })

/-- SELECT TABLE (R175). -/
def execSelectTable (p : PortId) (table : Byte) (index : BitVec 32) (s : State) : Host.Outcome State Fault Refusal :=
  servedCommand p 0x18#8 true (selectTable p table.toNat index.toNat) s

/-- The cursor after a read: a lane port's LANES stays at the port's own index (R175). -/
def readMove (p : PortId) (t : TableId) (i : Nat) : Option CursorMove :=
  match p, t with
  | .lane _, .lanes => none
  | _, _ => some (.table (t.after i))

/-- READ RECORD's reply and move (R175). -/
def readRecord (p : PortId) (s : State) : Reply × Option CursorMove :=
  match (s.port p).cursor with
  | none => (.record .state none none, none)
  | some (t, i) =>
    if tablePermitted s p t i then (.record .done (some t) (some (recordView s p t i)), readMove p t i)
    else (.record .denied (some t) none, none)

/-- READ RECORD (R175). -/
def execReadRecord (p : PortId) (s : State) : Host.Outcome State Fault Refusal :=
  whenRunning s (exchange p fun s =>
    readReply p (.record .denied ((s.port p).cursor.map Prod.fst) none) (readRecord p) s)

/-! ### CATEGORIES (R77) -/

/-- Some open visit meets a condition. -/
def anyVisit (s : State) (f : Visit → Bool) : Bool := s.visits.records.any fun p => f p.2

/-- A category to store (R77). -/
def storeCategory (i : Nat) (name : Text) (reserve : Nat) (s : State) : Result × State :=
  if !legalName name || decide (150000 < reserve) then (.range, s)
  else (.done, { s with allow := { s.allow with
      categories := Table.insert s.allow.categories (i + 1) { name := name, reserve := reserve } } })

/-- A category to remove (R77). -/
def removeCategory (i : Nat) (s : State) : Result × State :=
  let c := i + 1
  if s.allow.accounts.any fun p => p.2.rows.any fun r => r.category = c then (.state, s)
  else if anyVisit s fun v => v.category = c then (.state, s)
  else if (Table.find s.allow.caps c).isSome then (.state, s)
  else (.done, { s with allow := { s.allow with categories := Table.erase s.allow.categories c } })

/-! ### ACCOUNTS (R85 to R87) -/

/-- No two rows name the same category. -/
def distinctCategories : List (Byte × BitVec 32) → Bool
  | [] => true
  | (c, _) :: t => !(t.any fun r => r.1 = c) && distinctCategories t

/-- The first test of an account write (R85). -/
def accountLegal (w : AccountWrite) : Bool :=
  decide (w.number.toNat ≠ 0) && w.status.isSome && decide (w.rows.length ≤ 8) && distinctCategories w.rows
    && w.rows.all fun r => decide (1 ≤ r.1.toNat ∧ r.1.toNat ≤ 8) && decide (r.2.toNat ≤ 4000000000)

/-- A delivery that has been weighed in: it holds against its row or will be settled to it (R85, R88). -/
def weighedIn (v : Visit) : Bool :=
  decide (v.kind = VisitKind.delivery) && decide (v.state ≠ VisitState.announced) && decide (v.state ≠ VisitState.refused)

/-- A row of an account that a write may not drop (R85). -/
def rowKept (s : State) (a : Account) (r : AllowanceRow) : Bool :=
  decide (0 < r.amounts.held) ||
    anyVisit s fun v => decide (v.account = a.number) && decide (v.category = r.category) && weighedIn v

/-- An account write is refused STATE (R85). -/
def accountWriteBlocked (i : Nat) (w : AccountWrite) (s : State) : Bool :=
  let n := w.number.toNat
  let elsewhere := s.allow.accounts.any fun p => decide (p.1 ≠ i) && decide (p.2.number = n)
  match Table.find s.allow.accounts i with
  | none => elsewhere
  | some a =>
    elsewhere
      || (decide (a.number ≠ n) && anyVisit s fun v => v.account = a.number)
      || (decide (a.number = n) &&
            a.rows.any fun r => !(w.rows.any fun x => decide (x.1.toNat = r.category)) && rowKept s a r)

/-- The rows of an accepted account write, D and H kept by category and the marks recomputed (R86, R79). -/
def newRows (old : List AllowanceRow) (w : List (Byte × BitVec 32)) : List AllowanceRow :=
  w.map fun x =>
    let base : Amounts :=
      match old.find? fun r => r.category = x.1.toNat with
      | none => { allow := x.2.toNat, debited := 0, held := 0, overrun := false }
      | some r => { r.amounts with allow := x.2.toNat }
    { category := x.1.toNat, amounts := base.recompute }

/-- Some row's mark is set where it was clear (R86). -/
def newMarks (old new : List AllowanceRow) : Bool :=
  new.any fun r =>
    r.amounts.overrun &&
      match old.find? fun o => o.category = r.category with
      | none => true
      | some o => !o.amounts.overrun

/-- The rows an account write finds under the same account number (R86). -/
def rowsBefore (s : State) (i n : Nat) : List AllowanceRow :=
  match Table.find s.allow.accounts i with
  | none => []
  | some a => if a.number = n then a.rows else []

/-- An account to store (R85, R86). -/
def storeAccount (i : Nat) (w : AccountWrite) (s : State) : Result × State :=
  match w.status with
  | none => (.range, s)
  | some status =>
    if !accountLegal w then (.range, s)
    else if w.rows.any fun r => (Table.find s.allow.categories r.1.toNat).isNone then (.noSuch, s)
    else if accountWriteBlocked i w s then (.state, s)
    else
      let old := rowsBefore s i w.number.toNat
      let rows := newRows old w.rows
      let a : Account :=
        { number := w.number.toNat, status := status, keepTares := w.keepTares,
          storedTareAllowed := w.storedTareAllowed, rows := rows }
      let s := { s with allow := { s.allow with accounts := Table.insert s.allow.accounts i a } }
      (.done, if newMarks old rows then raiseEvent .overrun none s else s)

/-- A delete in ACCOUNTS (R87). -/
def deleteAccount (i : Nat) (s : State) : Result × State :=
  match Table.find s.allow.accounts i with
  | none => (.done, s)
  | some a =>
    if anyVisit s fun v => v.account = a.number then (.state, s)
    else (.done, { s with allow := { s.allow with accounts := Table.erase s.allow.accounts i } })

/-! ### SITE_CAPS (R88) -/

/-- A cap to store (R88). -/
def storeCap (i cap : Nat) (s : State) : Result × State :=
  let c := i + 1
  if 4000000000 < cap then (.range, s)
  else if (Table.find s.allow.categories c).isNone then (.noSuch, s)
  else
    let old := (Table.find s.allow.caps c).getD { allow := 0, debited := 0, held := 0, overrun := false }
    let row := ({ old with allow := cap } : Amounts).recompute
    let s := { s with allow := { s.allow with caps := Table.insert s.allow.caps c row } }
    (.done, if row.overrun && !old.overrun then raiseEvent .overrun none s else s)

/-- A row to empty (R88). -/
def emptyCap (i : Nat) (s : State) : Result × State :=
  let c := i + 1
  let held : Nat := ((Table.find s.allow.caps c).map (·.held)).getD 0
  if decide (0 < held) || anyVisit s (fun v => decide (v.category = c) && weighedIn v) then (.state, s)
  else (.done, { s with allow := { s.allow with caps := Table.erase s.allow.caps c } })

/-! ### TARES (R72) -/

/-- A tare to store (R72). -/
def storeTare (i : Nat) (vehicle : List Byte) (tare deck : Nat) (s : State) : Result × State :=
  match vehicleOf vehicle with
  | none => (.range, s)
  | some v =>
    if tare < 1 ∨ 150000 < tare ∨ 4 < deck then (.range, s)
    else if !s.clock.isSet then (.state, s)
    else if s.tares.entries.any fun p => decide (p.1 ≠ i) && decide (p.2.vehicle = v) then (.state, s)
    else (.done, setTare i { vehicle := v, tare := tare, deck := deck, taken := nowStamp s, manual := true, uses := 0 } s)

/-- A delete in TARES (R72). -/
def deleteTare (i : Nat) (s : State) : Result × State :=
  (.done, { s with tares := { s.tares with entries := Table.erase s.tares.entries i } })

/-! ### TEMPLATES and LINES (R144) -/

/-- The lines reachable from a line index (R143). -/
def reachable (s : State) : Nat → List Nat → Nat → List Nat
  | 0, found, _ => found
  | fuel + 1, found, i =>
    if 95 < i ∨ found.contains i then found
    else
      match (Table.getD s.templates.lines LineRecord.cold i).next with
      | none => found ++ [i]
      | some n => reachable s fuel (found ++ [i]) n

/-- The lines reachable from a template record (R143). -/
def reachableFrom (s : State) (t : Nat) : List Nat :=
  match Table.find s.templates.templates t with
  | none => []
  | some tpl => reachable s 96 [] tpl.head

/-- A line is reachable from a template in use (R144). -/
def lineInUse (s : State) (i : Nat) : Bool :=
  [0, 1, 2, 3].any fun t => decide (0 < inUseOf s t) && (reachableFrom s t).contains i

/-- A template to store (R144). -/
def storeTemplate (i : Nat) (name : Text) (head : Nat) (s : State) : Result × State :=
  if !legalName name || decide (254 < head) then (.range, s)
  else if 0 < inUseOf s i then (.busy, s)
  else (.done, { s with templates := { s.templates with
      templates := Table.insert s.templates.templates i { name := name, head := head } } })

/-- A template record to empty (R144). -/
def emptyTemplate (i : Nat) (s : State) : Result × State :=
  if 0 < inUseOf s i then (.busy, s)
  else (.done, { s with templates := { s.templates with templates := Table.erase s.templates.templates i } })

/-- A reference to store; `none` when its kind is outside R148's list or its column above 39 (R144). -/
def legalRef (r : Option FieldKind × Byte) : Option FieldRef :=
  match r.1 with
  | none => none
  | some k => if r.2.toNat ≤ 39 then some { kind := k, column := r.2.toNat } else none

/-- The line record a write carries, `none` when it is outside its limits (R143, R144). -/
def lineOf (w : LineWrite) : Option LineRecord :=
  if 24 < w.literal.length ∨ !w.literal.all isLiteralChar ∨ 4 < w.refs.length then none
  else
    (w.refs.mapM legalRef).map fun refs =>
      { next := if w.next.toNat = 255 then none else some w.next.toNat, literal := w.literal, refs := refs }

/-- A line to store (R144). -/
def storeLine (i : Nat) (w : LineWrite) (s : State) : Result × State :=
  match lineOf w with
  | none => (.range, s)
  | some r =>
    if lineInUse s i then (.busy, s)
    else (.done, { s with templates := { s.templates with lines := Table.put s.templates.lines LineRecord.cold i r } })

/-! ### ROUTES (R162) -/

/-- The last index of an event kind with an index, `none` for a kind without one (R156). -/
def eventIndices : EventKind → Option Nat
  | .deckOccupied | .deckClear | .deckStable | .deckFault | .deckOverload | .safetyOccupied | .safetyClear | .barrierUp
  | .barrierDown | .barrierFault | .captureDone | .captureFailed | .visitRefused | .visitDisputed | .ticketIssued
  | .printDone | .printFailed | .paperOut | .laneStalled => some 4
  | .inputRise | .inputFall => some 8
  | .journalNearFull | .journalFull | .overstay | .overrun | .rollover | .minute => none

/-- An event index fits its kind (R157, R162). -/
def legalEventIndex (k : EventKind) (i : Option Byte) : Bool :=
  match i with
  | none => true
  | some n =>
    match eventIndices k with
    | none => false
    | some top => decide (1 ≤ n.toNat ∧ n.toNat ≤ top)

/-- A task index fits its kind (R162). -/
def legalTaskIndex (t : TaskKind) (i : Nat) : Bool :=
  match t with
  | .outputSet | .outputClear | .outputPulse => decide (1 ≤ i ∧ i ≤ 8)
  | .lightRed | .lightGreen | .barrierRaise | .barrierLower | .startCapture => decide (1 ≤ i ∧ i ≤ 4)
  | .notice => decide (i ≤ 4)

/-- A route to store; its last outcome becomes NONE (R162). -/
def storeRoute (i : Nat) (w : RouteWrite) (s : State) : Result × State :=
  match w.event, w.task with
  | some e, some t =>
    if !legalEventIndex e w.eventIndex then (.range, s)
    else if !legalTaskIndex t w.taskIndex.toNat then (.range, s)
    else
      (.done, { s with routes := { s.routes with
          routes := Table.put s.routes.routes Route.cold i
            { enabled := w.enabled, event := e, eventIndex := w.eventIndex.map (·.toNat), task := t,
              taskIndex := w.taskIndex.toNat, outcome := .none } } })
  | _, _ => (.range, s)

/-! ### The WRITE RECORD exchange (R176) -/

/-- A write handed to the owner of its table at an index (R176). -/
def ownerWrite (i : Nat) (w : TableWrite) (s : State) : Result × State :=
  match w with
  | .category name reserve => storeCategory i name reserve s
  | .categoryRemove => removeCategory i s
  | .account w => storeAccount i w s
  | .accountDelete => deleteAccount i s
  | .siteCap cap => storeCap i cap s
  | .siteCapEmpty => emptyCap i s
  | .tare v t d => storeTare i v t d s
  | .tareDelete => deleteTare i s
  | .template name head => storeTemplate i name head s
  | .templateEmpty => emptyTemplate i s
  | .line w => storeLine i w s
  | .route w => storeRoute i w s

/-- WRITE RECORD's own part: STATE without a table, DENIED without a write length, else the owner's answer and the cursor
advanced (R176). An operation byte the table has no request for is the owner's RANGE (log 14). -/
def writeAtCursor (p : PortId) (w : TableId → Option TableWrite) (s : State) : Result × State :=
  match (s.port p).cursor with
  | none => (.state, s)
  | some (t, i) =>
    if t.writeLength.isNone then (.denied, s)
    else
      let r :=
        match w t with
        | none => (Result.range, s)
        | some x => ownerWrite i x s
      (r.1, r.2.modPort p fun x => { x with cursor := some (t, t.after i) })

/-- A WRITE RECORD exchange; `framed` is the framing test of its argument count at the port's cursor (R167). -/
def writeRecordExchange (p : PortId) (framed : Port → Bool) (w : TableId → Option TableWrite) (s : State) :
    Host.Outcome State Fault Refusal :=
  whenRunning s (exchange p fun s =>
    if framed (s.port p) then take p 0x1A#8 (isOffice p) false (writeAtCursor p w) s else framingResult p s)

/-- WRITE RECORD as its argument bytes (R176). -/
def execWriteRecord (p : PortId) (args : List Byte) (s : State) : Host.Outcome State Fault Refusal :=
  writeRecordExchange p (fun x => writeRecordFramed x args.length) (fun t => tableWriteOf t args) s

/-- A WRITE RECORD to one table with its fields spelled out; it fails framing where another writable table is selected,
whose write length is a different one (R175, log 14). -/
def writeTable (p : PortId) (t : TableId) (w : TableWrite) (s : State) : Host.Outcome State Fault Refusal :=
  writeRecordExchange p (fun x => writeRecordFramed x (t.writeLength.getD 0))
    (fun u => if u = t then some w else none) s

/-- WRITE RECORD of a category (R77). -/
def execWriteCategory (p : PortId) (name : Text) (reserve : BitVec 32) (s : State) : Host.Outcome State Fault Refusal :=
  writeTable p .categories (.category name reserve.toNat) s

/-- WRITE RECORD that removes a category (R77). -/
def execRemoveCategory (p : PortId) (s : State) : Host.Outcome State Fault Refusal :=
  writeTable p .categories .categoryRemove s

/-- WRITE RECORD of an account (R85). -/
def execWriteAccount (p : PortId) (w : AccountWrite) (s : State) : Host.Outcome State Fault Refusal :=
  writeTable p .accounts (.account w) s

/-- WRITE RECORD that deletes an account (R87). -/
def execDeleteAccount (p : PortId) (s : State) : Host.Outcome State Fault Refusal :=
  writeTable p .accounts .accountDelete s

/-- WRITE RECORD of a site cap (R88). -/
def execWriteSiteCap (p : PortId) (cap : BitVec 32) (s : State) : Host.Outcome State Fault Refusal :=
  writeTable p .siteCaps (.siteCap cap.toNat) s

/-- WRITE RECORD that empties a site cap row (R88). -/
def execEmptySiteCap (p : PortId) (s : State) : Host.Outcome State Fault Refusal :=
  writeTable p .siteCaps .siteCapEmpty s

/-- WRITE RECORD of a tare (R72). -/
def execWriteTare (p : PortId) (vehicle : List Byte) (tare : BitVec 32) (deck : Byte) (s : State) :
    Host.Outcome State Fault Refusal :=
  writeTable p .tares (.tare vehicle tare.toNat deck.toNat) s

/-- WRITE RECORD that deletes a tare (R72). -/
def execDeleteTare (p : PortId) (s : State) : Host.Outcome State Fault Refusal :=
  writeTable p .tares .tareDelete s

/-- WRITE RECORD of a template (R144). -/
def execWriteTemplate (p : PortId) (name : Text) (head : Byte) (s : State) : Host.Outcome State Fault Refusal :=
  writeTable p .templates (.template name head.toNat) s

/-- WRITE RECORD that empties a template record (R144). -/
def execEmptyTemplate (p : PortId) (s : State) : Host.Outcome State Fault Refusal :=
  writeTable p .templates .templateEmpty s

/-- WRITE RECORD of a line (R144). -/
def execWriteLine (p : PortId) (w : LineWrite) (s : State) : Host.Outcome State Fault Refusal :=
  writeTable p .lines (.line w) s

/-- WRITE RECORD of a route (R162). -/
def execWriteRoute (p : PortId) (w : RouteWrite) (s : State) : Host.Outcome State Fault Refusal :=
  writeTable p .routes (.route w) s

end Sys2Proof.Machine
end

