-- ==== Sys2Proof/Machine/LaneCommands.lean ====
section
/-! DEFINITION. The lane commands ANNOUNCE, ATTACH, RELEASE, CAPTURE (R48 to R52), MANUAL RAISE and MANUAL LOWER (R113),
REPRINT LAST and ABORT PRINT (R153, R154), ZERO DECK (R39), and READ WEIGHT (R16). -/

namespace Sys2Proof.Machine
open Sys2Proof

/-- A lane command: permitted for lane byte 0 or its own number at a lane port, NO_SUCH for a lane outside 1 to 4 from the
office (R48, R173). -/
def laneCommand (p : PortId) (code lane : Byte) (body : Lane → State → Result × State) (s : State) :
    Host.Outcome State Fault Refusal :=
  command p code (laneBytePermitted p lane) (fun s =>
    match laneOf p lane with
    | none => (.noSuch, s)
    | some l => body l s) s

/-! ### ANNOUNCE (R49) -/

/-- The number after a visit number (R44). -/
def nextNumber (n : Nat) : Nat := if n = 65535 then 1 else n + 1

/-- The first number at or after `n` that no open visit carries (R44). -/
def freeNumber (s : State) : Nat → Nat → Nat
  | 0, n => n
  | fuel + 1, n => if (findVisit s n).isSome then freeNumber s fuel (nextNumber n) else n

/-- The number the next visit takes; at most 64 are in use, so 64 steps find a free one (R44). -/
def takenNumber (s : State) : Nat := freeNumber s 64 s.visits.next

/-- What ANNOUNCE carries, checked (R49). -/
structure Announcement where
  vehicle : Text
  account : Nat
  category : Nat
  kind : VisitKind
  payload : Nat
deriving DecidableEq, Repr

/-- The first test of ANNOUNCE (R49). -/
def announcementOf (vehicle : List Byte) (account : BitVec 16) (category kind : Byte) (payload : BitVec 32) :
    Option Announcement :=
  match vehicleOf vehicle, kindOf kind with
  | some v, some k =>
    if account.toNat = 0 ∨ category.toNat < 1 ∨ 8 < category.toNat ∨ 150000 < payload.toNat then none
    else some { vehicle := v, account := account.toNat, category := category.toNat, kind := k,
                payload := payload.toNat }
  | _, _ => none

/-- The tests of ANNOUNCE after the first, `none` where it is accepted (R49). -/
def announceRefusal (s : State) (l : Lane) (a : Announcement) : Option Result :=
  let u := (s.lane l).params
  if u.mode = .closed ∨ u.direction = .outbound ∨ !s.clock.isSet ∨ (findVehicle s a.vehicle).isSome then some .state
  else if (findAccount s a.account).isNone ∨ (Table.find s.allow.categories a.category).isNone then some .noSuch
  else if (Table.lowestFree s.visits.records 64).isNone ∨ 4 ≤ (queueOf s l).length then some .full
  else none

/-- The record a new visit starts with (R43, R49). -/
def newVisit (s : State) (l : Lane) (a : Announcement) : Visit :=
  { number := takenNumber s, vehicle := a.vehicle, account := a.account, category := a.category, kind := a.kind,
    payload := a.payload, announceLane := l, announceTime := nowStamp s, announceSecond := s.clock.mono, first := none,
    second := none, tareSource := .none, storedTare := none, manualTare := false, net := none, reserve := 0,
    state := .announced, place := none, ticket := none, reason := none, overstayNoticed := false, calChanged := false,
    negativeNet := false }

/-- The reply data of a visit at its lane (R168). -/
def replyFor (s : State) (n : Nat) (tare : Bool) : ReplyData :=
  match (findVisit s n).bind (visitHandle s) with
  | none => { handle := ReplyData.zero.handle, visit := n, validTare := tare }
  | some h => { handle := h, visit := n, validTare := tare }

/-- An accepted ANNOUNCE (R44, R46, R49). -/
def announceVisit (l : Lane) (a : Announcement) (s : State) : (Result × ReplyData) × State :=
  let v := newVisit s l a
  let tare := tareKnown s a.vehicle
  let entry := (Table.lowestFree s.visits.records 64).getD 0
  let s := { s with visits := { s.visits with
      records := Table.insert s.visits.records entry v, next := nextNumber v.number } }
  let s := joinQueue l v.number .entry s
  ((.done, replyFor s v.number tare), s)

/-- ANNOUNCE at a lane (R49). -/
def announceBody (l : Lane) (a : Option Announcement) (s : State) : (Result × ReplyData) × State :=
  match a with
  | none => ((.range, ReplyData.zero), s)
  | some a =>
    match announceRefusal s l a with
    | some r => ((r, ReplyData.zero), s)
    | none => announceVisit l a s

/-- ANNOUNCE (R49). From the office a lane byte outside 1 to 4 is answered NO_SUCH before the first test of R49, which is
RANGE: R48, R49 and R178 give no order between the two, and this one is the model's choice (log 41). -/
def execAnnounce (p : PortId) (lane : Byte) (vehicle : List Byte) (account : BitVec 16) (category kind : Byte)
    (payload : BitVec 32) (s : State) : Host.Outcome State Fault Refusal :=
  whenRunning s (exchange p (takeWithData p 0x30#8 (laneBytePermitted p lane) false fun s =>
    match laneOf p lane with
    | none => ((.noSuch, ReplyData.zero), s)
    | some l => announceBody l (announcementOf vehicle account category kind payload) s))

/-! ### ATTACH (R50) -/

/-- The tests of ATTACH after the identifier's form: the refusal, or the visit (R50). -/
def attachable (s : State) (l : Lane) (vehicle : Text) : Except Result Visit :=
  let u := (s.lane l).params
  if u.mode = .closed ∨ u.direction = .inbound then .error .state
  else
    match findVehicle s vehicle with
    | none => .error .noSuch
    | some v =>
      if (v.state ≠ .firstWeighed ∧ v.state ≠ .ticketedOnSite) ∨ v.place.isSome then .error .state
      else if 4 ≤ (queueOf s l).length then .error .full
      else .ok v

/-- An accepted ATTACH (R46, R50). -/
def attachVisit (l : Lane) (v : Visit) (s : State) : (Result × ReplyData) × State :=
  let s :=
    if v.state = .firstWeighed then modVisit v.number (fun v => { v with state := .attached }) s else s
  let s := joinQueue l v.number .exit s
  ((.done, replyFor s v.number false), s)

/-- ATTACH at a lane (R50). -/
def attachBody (l : Lane) (vehicle : Option Text) (s : State) : (Result × ReplyData) × State :=
  match vehicle with
  | none => ((.range, ReplyData.zero), s)
  | some vehicle =>
    match attachable s l vehicle with
    | .error r => ((r, ReplyData.zero), s)
    | .ok v => attachVisit l v s

/-- ATTACH (R50). From the office a lane byte outside 1 to 4 is answered NO_SUCH before the vehicle id is tested, as in
ANNOUNCE: the model's choice (log 41). -/
def execAttach (p : PortId) (lane : Byte) (vehicle : List Byte) (s : State) : Host.Outcome State Fault Refusal :=
  whenRunning s (exchange p (takeWithData p 0x31#8 (laneBytePermitted p lane) false fun s =>
    match laneOf p lane with
    | none => ((.noSuch, ReplyData.zero), s)
    | some l => attachBody l (vehicleOf vehicle) s))

/-! ### RELEASE (R51) -/

/-- What RELEASE does with a visit by its state (R51). -/
inductive ReleaseAction where
  | removed | backOnSite | onSite | refused
deriving DecidableEq, Repr

def releaseAction : VisitState → ReleaseAction
  | .announced | .refused => .removed
  | .attached => .backOnSite
  | .firstWeighed | .ticketedOnSite => .onSite
  | .awaitingTicket | .disputed | .ticketed => .refused

/-- RELEASE of a visit in a lane's queue (R51). -/
def releaseVisit (l : Lane) (n : Nat) (s : State) : Result × State :=
  let s := if isHead s l n then endCaptureLeaving l .abandoned s else s
  match findVisit s n with
  | none => (.noSuch, s)
  | some v =>
    match releaseAction v.state with
    | .removed => (.done, depart n (removeVisit n) s)
    | .backOnSite => (.done, depart n (modVisit n fun v => { v with state := .firstWeighed }) s)
    | .onSite => (.done, depart n id s)
    | .refused => (.state, s)

/-- RELEASE (R48, R51). -/
def execRelease (p : PortId) (lane : Byte) (ref : BitVec 16) (s : State) : Host.Outcome State Fault Refusal :=
  laneCommand p 0x32#8 lane (fun l s =>
    match visitOf s p l ref with
    | .error r => (r, s)
    | .ok n => releaseVisit l n s) s

/-! ### CAPTURE (R52) -/

/-- The sequencer permits a start from CAPTURE (R111). -/
def capturePermitted (s : State) (l : Lane) : Bool :=
  match (s.lane l).params.mode with
  | .auto => decide ((s.lane l).seqr.state = SeqState.occupied)
  | .manual => true
  | .closed => false

/-- The visit is in a state in which its next weight is taken (R52). -/
def capturable (s : State) (n : Nat) : Bool :=
  match findVisit s n with
  | none => false
  | some v => decide (v.state = .announced ∨ v.state = .attached)

/-- CAPTURE of a visit in a lane's queue (R52). -/
def captureVisit (l : Lane) (n : Nat) (s : State) : Result × State :=
  if !isHead s l n then (.state, s)
  else if !capturable s n then (.state, s)
  else if !capturePermitted s l then (.state, s)
  else
    match startRefusal s l with
    | some r => (r, s)
    | none => (.done, acceptStart l n s)

/-- CAPTURE (R48, R52). -/
def execCapture (p : PortId) (lane : Byte) (ref : BitVec 16) (s : State) : Host.Outcome State Fault Refusal :=
  laneCommand p 0x33#8 lane (fun l s =>
    match visitOf s p l ref with
    | .error r => (r, s)
    | .ok n => captureVisit l n s) s

/-! ### MANUAL RAISE and MANUAL LOWER (R113) -/

/-- MANUAL RAISE at a lane (R113). -/
def manualRaise (l : Lane) (s : State) : Result × State :=
  if (s.lane l).params.mode ≠ .manual then (.state, s)
  else if (s.lane l).barrier.state = .fault then (.state, s)
  else
    let up := decide ((s.lane l).barrier.state = BarrierState.up)
    let s := raiseRequest l s
    (.done, s.modSeq l fun q => if up then { q with light := .green, raiseWait := false } else { q with raiseWait := true })

/-- MANUAL RAISE (R113). -/
def execManualRaise (p : PortId) (lane : Byte) (s : State) : Host.Outcome State Fault Refusal :=
  laneCommand p 0x34#8 lane manualRaise s

/-- MANUAL LOWER at a lane (R113). -/
def manualLower (l : Lane) (s : State) : Result × State :=
  if (s.lane l).params.mode ≠ .manual then (.state, s)
  else
    let s := s.modSeq l fun q => { q with light := .red, raiseWait := false }
    if (s.lane l).barrier.state = .fault then (.state, s) else (.done, lowerRequest l s)

/-- MANUAL LOWER (R113). -/
def execManualLower (p : PortId) (lane : Byte) (s : State) : Host.Outcome State Fault Refusal :=
  laneCommand p 0x35#8 lane manualLower s

/-! ### Printing (R153, R154) -/

/-- REPRINT LAST at a lane (R154). -/
def reprintLast (l : Lane) (s : State) : Result × State :=
  match (s.lane l).report.lastTicket with
  | none => (.noSuch, s)
  | some n => reprint l n s

/-- REPRINT LAST (R154). -/
def execReprintLast (p : PortId) (lane : Byte) (s : State) : Host.Outcome State Fault Refusal :=
  laneCommand p 0x36#8 lane reprintLast s

/-- ABORT PRINT at a lane (R153). -/
def abortPrint (l : Lane) (s : State) : Result × State :=
  if (s.lane l).printer.jobs.isEmpty then (.state, s) else (.done, endJob l (.failed .aborted) s)

/-- ABORT PRINT (R153). -/
def execAbortPrint (p : PortId) (lane : Byte) (s : State) : Host.Outcome State Fault Refusal :=
  laneCommand p 0x37#8 lane abortPrint s

/-- REPRINT TICKET, an office command (R154). -/
def execReprintTicket (p : PortId) (ticket : BitVec 32) (lane : Byte) (s : State) : Host.Outcome State Fault Refusal :=
  command p 0x49#8 (isOffice p) (fun s =>
    match Idx.ofNat? lane.toNat with
    | none => (.noSuch, s)
    | some l => reprint l ticket.toNat s) s

/-! ### ZERO DECK and READ WEIGHT (R39, R16) -/

/-- ZERO DECK (R39). -/
def execZeroDeck (p : PortId) (deck : Byte) (s : State) : Host.Outcome State Fault Refusal :=
  command p 0x38#8 (deckBytePermitted p deck) (fun s =>
    match Idx.ofNat? deck.toNat with
    | none => (.noSuch, s)
    | some d => zeroDeck d s) s

/-- The live weight record of a deck (R16). -/
def liveWeight (s : State) (d : Deck) : LiveWeight :=
  let u := s.deck d
  { deck := d.num, phase := u.phase, gross := u.gross, valid := u.valid, stable := u.stable, occupied := u.occupied,
    overload := u.overload, underload := u.underload, centre := u.centre,
    calibrating := decide (u.phase = DeckPhase.calibrating), uncalibrated := uncalibrated s d, audit := s.cal.audit }

/-- READ WEIGHT (R16). -/
def execReadWeight (p : PortId) (deck : Byte) (s : State) : Host.Outcome State Fault Refusal :=
  whenRunning s (exchange p (readReply p (.weight .denied none) fun s =>
    match Idx.ofNat? deck.toNat with
    | none => (.weight .noSuch none, none)
    | some d => (.weight .done (some (liveWeight s d)), none)))

end Sys2Proof.Machine
end

