-- ==== Sys2Proof/Machine/OfficeCommands.lean ====
section
/-! DEFINITION. The office commands on visits, the journal, the clock, the outputs and the lanes: VOID VISIT and RESOLVE
(R61, R62), ARCHIVE UP TO (R136), SET CLOCK (R183), FORCE ROLLOVER (R91), SET OUTPUT (R164), RESTART LANES (R120) and CLEAR
LANE FAULT (R118). -/

namespace Sys2Proof.Machine
open Sys2Proof

/-! ### VOID VISIT and RESOLVE (R61, R62) -/

/-- The tests of VOID VISIT, the visit where it is accepted (R62). -/
def voidable (s : State) (n : Nat) : Except Result Visit :=
  match findVisit s n with
  | none => .error .noSuch
  | some v =>
    if v.state = .awaitingTicket ∨ v.state = .ticketed ∨ v.state = .ticketedOnSite then .error .state
    else if !ticketRoom s.journal then .error .full
    else .ok v

/-- Step 1: a head's capture in flight ends GONE (R62). -/
def voidCapture (v : Visit) (s : State) : State :=
  match v.place with
  | none => s
  | some pl => if isHead s pl.lane v.number then endCaptureLeaving pl.lane .gone s else s

/-- Step 2: the hold is released on both rows (R62, R84). -/
def voidHold (v : Visit) (s : State) : State :=
  if 0 < v.reserve then
    modVisit v.number (fun v => { v with reserve := 0 })
      (modBothRows v.account v.category (Amounts.release v.reserve) s)
  else s

/-- Steps 4 to 6: the VOID record, the removal and the notices (R62). -/
def voidRecord (v : Visit) (s : State) : State :=
  let lane := v.place.map (·.lane)
  let s := appendEntry (.void v.number (nowStamp s) lane) s
  let s := raiseNotice .visit .office (removeVisit v.number s)
  match lane with
  | none => s
  | some l => raiseNotice .visit (.lane l) s

/-- VOID VISIT (R62). -/
def voidVisit (n : Nat) (s : State) : Result × State :=
  match voidable s n with
  | .error r => (r, s)
  | .ok v => (.done, depart n (voidRecord v) (voidHold v (voidCapture v s)))

/-- VOID VISIT, an office command (R62). -/
def execVoidVisit (p : PortId) (visit : BitVec 16) (s : State) : Host.Outcome State Fault Refusal :=
  command p 0x40#8 (isOffice p) (voidVisit visit.toNat) s

/-- RESOLVE with ACCEPT_ZERO of a DISPUTED visit (R61). -/
def acceptZero (v : Visit) (s : State) : State :=
  let s := awaitTicket v.number (modVisit v.number (fun v => { v with net := some 0, negativeNet := true }) s)
  match v.place with
  | none => s
  | some pl => handOut pl.lane v.number s

/-- The choices of RESOLVE (R61, R178). -/
inductive Choice where
  | void | acceptZero
deriving DecidableEq, Repr

def choiceOf (b : Byte) : Option Choice :=
  match b.toNat with
  | 1 => some .void | 2 => some .acceptZero | _ => none

/-- RESOLVE (R61). -/
def resolveVisit (n : Nat) (choice : Option Choice) (s : State) : Result × State :=
  match choice with
  | none => (.range, s)
  | some c =>
    match findVisit s n with
    | none => (.noSuch, s)
    | some v =>
      if v.state ≠ .disputed then (.state, s)
      else
        match c with
        | .void => voidVisit n s
        | .acceptZero => (.done, acceptZero v s)

/-- RESOLVE, an office command (R61). -/
def execResolve (p : PortId) (visit : BitVec 16) (choice : Byte) (s : State) : Host.Outcome State Fault Refusal :=
  command p 0x41#8 (isOffice p) (resolveVisit visit.toNat (choiceOf choice)) s

/-! ### The journal, the clock, the outputs -/

/-- ARCHIVE UP TO (R136). -/
def archiveUpTo (seq : Nat) (s : State) : Result × State :=
  if seq < s.journal.mark ∨ s.journal.last < seq then (.range, s)
  else (.done, drain { s with journal := { s.journal with mark := seq } })

/-- ARCHIVE UP TO, an office command (R136). -/
def execArchiveUpTo (p : PortId) (seq : BitVec 32) (s : State) : Host.Outcome State Fault Refusal :=
  command p 0x48#8 (isOffice p) (archiveUpTo seq.toNat) s

/-- SET CLOCK: the second that is counting is restarted, so that the next advance comes one whole second later; a monotonic
second falls into that one as into any other, and those counted so far stay (R183, log 2). An advance that waits in the queue
has arrived together with the command, which is taken first: it is absorbed, and the second it ends keeps what it still owes
until then (R183, log 50). -/
def setClock (day second : Nat) (s : State) : Result × State :=
  if 86399 < second then (.range, s)
  else
    let waits := decide (Instr.clockAdvance ∈ s.pending)
    (.done, { s with clock :=
      { s.clock with day := day, second := second, isSet := true, absorbs := waits,
                     monoSecond := if waits then s.clock.monoSecond else .owed } })

/-- SET CLOCK, an office command (R183). -/
def execSetClock (p : PortId) (day : BitVec 16) (second : BitVec 24) (s : State) : Host.Outcome State Fault Refusal :=
  command p 0x50#8 (isOffice p) (setClock day.toNat second.toNat) s

/-- FORCE ROLLOVER, an office command (R91). -/
def execForceRollover (p : PortId) (s : State) : Host.Outcome State Fault Refusal :=
  command p 0x51#8 (isOffice p) (fun s => (.done, rolloverEvent s)) s

/-- SET OUTPUT (R164). An output outside 1 to 8 is answered NO_SUCH before the action is tested: R164 and R178 give no order
between NO_SUCH and RANGE, and this one is the model's choice (log 41). -/
def setOutput (output action : Nat) (s : State) : Result × State :=
  if output < 1 ∨ 8 < output then (.noSuch, s)
  else
    match action with
    | 1 => (.done, outputSet output s)
    | 2 => (.done, outputClear output s)
    | 3 => (.done, outputPulse output s)
    | _ => (.range, s)

/-- SET OUTPUT, an office command (R164). -/
def execSetOutput (p : PortId) (output action : Byte) (s : State) : Host.Outcome State Fault Refusal :=
  command p 0x58#8 (isOffice p) (setOutput output.toNat action.toNat) s

/-! ### RESTART LANES (R120) -/

/-- Step 4: the sequencer restarts in the lane's mode; a MANUAL lane keeps its light, and a MANUAL RAISE's wait (R113, R120,
log 38). -/
def restartSequencer (l : Lane) (s : State) : State :=
  match (s.lane l).params.mode with
  | .auto => settle l s
  | .closed => enterClosed l s
  | .manual => s.modSeq l fun q => { q with state := .manual }

/-- The five steps for one lane (R120). -/
def restartLane (s : State) (l : Lane) : State :=
  let s := endCapture l .abandoned s
  let s := abortJobs l s
  let s := stopLane l s
  let s := syncUnannounced l (restartSequencer l s)
  raiseNotice .lane (.lane l) s

/-- RESTART LANES (R120); the order of the lanes is open (log 9). -/
def restartLanes (s : State) : State :=
  let (order, s) := takeLaneOrder s
  raiseNotice .lane .office (order.foldl restartLane s)

/-- RESTART LANES, an office command (R120). -/
def execRestartLanes (p : PortId) (s : State) : Host.Outcome State Fault Refusal :=
  command p 0x60#8 (isOffice p) (fun s => (.done, restartLanes s)) s

/-! ### CLEAR LANE FAULT (R118) -/

/-- The state the controller takes from its limit inputs, `none` where both are active (R118, R121). -/
def stateFromLimits (up down : Bool) : Option BarrierState :=
  match up, down with
  | false, true => some .down
  | true, false => some .up
  | false, false => some .up
  | true, true => none

/-- The report of the state taken from the limits to the sequencer: AUTO settles, CLOSED asks for a lower, a MANUAL RAISE's
wait ends on UP (R118, log 22). -/
def reportCleared (l : Lane) (st : BarrierState) (s : State) : State :=
  match (s.lane l).params.mode with
  | .auto => settle l s
  | .closed => lowerRequest l s
  | .manual => if st = .up then reportUp l s else s

/-- CLEAR LANE FAULT at a lane (R118); the pending-lower mark is cleared before the requests that follow (log 21). -/
def clearLaneFault (l : Lane) (s : State) : Result × State :=
  let b := (s.lane l).barrier
  if b.state ≠ .fault then (.state, s)
  else
    match stateFromLimits b.limitUp b.limitDown with
    | none => (.state, s)
    | some st =>
      (.done, reportCleared l st (s.modBarrier l fun b => { b with state := st, pendingLower := false }))

/-- CLEAR LANE FAULT, an office command (R118). -/
def execClearLaneFault (p : PortId) (lane : Byte) (s : State) : Host.Outcome State Fault Refusal :=
  command p 0x61#8 (isOffice p) (fun s =>
    match Idx.ofNat? lane.toNat with
    | none => (.noSuch, s)
    | some l => clearLaneFault l s) s

end Sys2Proof.Machine
end

