-- ==== Sys2Proof/Machine/Calibration.lean ====
section
/-! DEFINITION. The calibration unit: the session commands (R31 to R36), the lock and the switch (R29, R30), the calibration
write's end (R37), WRITE SITE NUMBER (R41) and RETRY STORE (R124). -/

namespace Sys2Proof.Machine
open Sys2Proof

/-- A deck's working copy. -/
def setWorking (d : Deck) (r : Option CalRecord) (s : State) : State :=
  { s with cal := { s.cal with working := s.cal.working.put d r } }

/-- The session of a deck ends: its working copy is gone and the deck leaves CALIBRATING (R35, R5). -/
def endSession (d : Deck) (s : State) : State := (setWorking d none s).modDeck d DeckUnit.leaveCalibrating

/-- Notice CALIB at the office port and at the port of the deck's lane. -/
def calibNotice (d : Deck) (s : State) : State := raiseLaneOffice .calib d s

/-- A session abandoned without the office's asking (R35). -/
def abandonSession (d : Deck) (s : State) : State := calibNotice d (endSession d s)

/-- A deck's calibration write is in flight: its staged record stands (R36). -/
def writeInFlight (s : State) (d : Deck) : Bool :=
  match s.cal.staged with
  | none => false
  | some c => decide (c.deck = d)

/-- A deck in CALIBRATING without a write in flight is abandoned (R29, R30). -/
def abandonIdle (s : State) (d : Deck) : State :=
  if (s.deck d).phase = .calibrating ∧ writeInFlight s d = false then abandonSession d s else s

/-- A CAL command at a deck number (R31). That NO_SUCH comes before every other test of the command, the permission of CAL
BEGIN, STATE and RANGE among them, is the model's choice (R31, R32, R178; log 41). -/
def calCommand (p : PortId) (code deck : Byte) (body : Deck → State → Result × State) (s : State) :
    Host.Outcome State Fault Refusal :=
  command p code (isOffice p) (fun s =>
    match Idx.ofNat? deck.toNat with
    | none => (.noSuch, s)
    | some d => body d s) s

/-- A command of an open session is refused STATE on a deck that is not CALIBRATING (R31). That STATE comes before what the
command's own rule refuses, RANGE for a wrong record of CAL SET among it (R32 to R36), is the model's choice (log 41). -/
def inSession (body : CalRecord → Deck → State → Result × State) (d : Deck) (s : State) : Result × State :=
  match (s.deck d).phase with
  | .calibrating => body (recordInUse s d) d s
  | .starting | .active | .fault => (.state, s)

/-! ### The session (R31 to R35) -/

/-- Calibration is permitted (R29). -/
def calibrationPermitted (s : State) : Bool := s.cal.switchClosed && decide (s.cal.lock = LockMode.switch)

/-- CAL BEGIN at a deck (R31); an overdue tracking step comes first and the count is cleared (R40, log 7, log 33). -/
def calBegin (d : Deck) (s : State) : Result × State :=
  let s := trackStep d s
  if !calibrationPermitted s then (.locked, s)
  else if (s.deck d).phase = .calibrating then (.state, s)
  else if (s.lane d).params.mode = .auto then (.state, s)
  else if (s.deck d).capture.isSome then (.state, s)
  else
    (.done, (setWorking d (some (s.cal.stored.get d)) s).modDeck d fun u =>
      { u with phase := .calibrating, trackCount := 0 })

/-- CAL BEGIN (R31). -/
def execCalBegin (p : PortId) (deck : Byte) (s : State) : Host.Outcome State Fault Refusal :=
  calCommand p 0x70#8 deck calBegin s

/-- What a change of the working copy does to the deck (R6): a new N empties the window and makes the weight invalid, a new
W empties the history. -/
def DeckUnit.applyRecord (old new : CalRecord) (u : DeckUnit) : DeckUnit :=
  let u := if new.n ≠ old.n then { u.invalid with window := [], sum := 0 } else u
  if new.w ≠ old.w then { u with history := [], stable := false } else u

/-- The working copy becomes a new record (R6, R32, log 16). -/
def replaceWorking (old new : CalRecord) (d : Deck) (s : State) : State :=
  (setWorking d (some new) s).modDeck d (DeckUnit.applyRecord old new)

/-- CAL SET in a session: a tracking byte other than 0 and 1 or an illegal record is RANGE, after NO_SUCH and STATE (R32;
log 41). -/
def calSet (f : CalFields) (old : CalRecord) (d : Deck) (s : State) : Result × State :=
  match calRecordOf f with
  | none => (.range, s)
  | some r => if r.legal then (.done, replaceWorking old r d s) else (.range, s)

/-- CAL SET (R32). -/
def execCalSet (p : PortId) (deck : Byte) (fields : CalFields) (s : State) : Host.Outcome State Fault Refusal :=
  calCommand p 0x71#8 deck (inSession (calSet fields)) s

/-- CAL ZERO in a session (R33). -/
def calZero (r : CalRecord) (d : Deck) (s : State) : Result × State :=
  let u := s.deck d
  if !u.valid ∨ !u.stable then (.motion, s)
  else (.done, setWorking d (some { r with zc := roundDiv u.sum r.n }) s)

/-- CAL ZERO (R33). -/
def execCalZero (p : PortId) (deck : Byte) (s : State) : Host.Outcome State Fault Refusal :=
  calCommand p 0x72#8 deck (inSession calZero) s

/-- The K that makes a load weigh L on a deck with filter sum F (R34). -/
def spanCoefficient (r : CalRecord) (f : Int) (load : Nat) : Int :=
  roundDiv ((load : Int) * 10 * r.n * 65536) (f - (r.n : Int) * r.zc).natAbs

/-- CAL SPAN in a session (R34). -/
def calSpan (load : Nat) (r : CalRecord) (d : Deck) (s : State) : Result × State :=
  let u := s.deck d
  if 10 * load < r.max ∨ r.max < load then (.range, s)
  else if !u.valid ∨ !u.stable then (.motion, s)
  else if u.sum - (r.n : Int) * r.zc ≤ 0 then (.range, s)
  else
    let k := spanCoefficient r u.sum load
    if k < 1 ∨ 16777215 < k then (.range, s) else (.done, setWorking d (some { r with k := k.toNat }) s)

/-- CAL SPAN (R34). -/
def execCalSpan (p : PortId) (deck : Byte) (load : BitVec 32) (s : State) : Host.Outcome State Fault Refusal :=
  calCommand p 0x73#8 deck (inSession (calSpan load.toNat)) s

/-- CAL ABANDON (R35). -/
def execCalAbandon (p : PortId) (deck : Byte) (s : State) : Host.Outcome State Fault Refusal :=
  calCommand p 0x75#8 deck (inSession fun _ d s => (.done, endSession d s)) s

/-! ### CAL END (R36) -/

/-- The staged calibration record (R36). -/
def stagedOf (s : State) (d : Deck) (old new : CalRecord) : StagedCal :=
  { deck := d, audit := s.cal.audit + 1, oldZc := old.zc, newZc := new.zc, oldK := old.k, newK := new.k, max := new.max,
    e := new.e }

/-- A port becomes busy (R170). -/
def setBusy (p : PortId) (s : State) : State := s.modPort p fun x => { x with busy := true }

/-- The store begins: reservation, staged record, write request, busy port (R36). -/
def beginStore (p : PortId) (d : Deck) (new : CalRecord) (s : State) : State :=
  let c := stagedOf s d (s.cal.stored.get d) new
  let s := { s with journal := { s.journal with reservations := s.journal.reservations + 1 },
                    cal := { s.cal with staged := some c } }
  setBusy p (nvRequest (.cal d new c.audit) s)

/-- CAL END in a session (R36). -/
def calEnd (p : PortId) (r : CalRecord) (d : Deck) (s : State) : Result × State :=
  if r = s.cal.stored.get d then (.done, endSession d s)
  else if !ticketRoom s.journal then (.full, s)
  else if 65535 ≤ s.cal.audit then (.locked, s)
  else (.busy, beginStore p d r s)

/-- CAL END (R36). -/
def execCalEnd (p : PortId) (deck : Byte) (s : State) : Host.Outcome State Fault Refusal :=
  calCommand p 0x74#8 deck (inSession (calEnd p)) s

/-! ### The lock and the switch (R29, R30) -/

/-- LOCK CALIBRATION, an office command (R29). -/
def execLockCalibration (p : PortId) (s : State) : Host.Outcome State Fault Refusal :=
  command p 0x78#8 (isOffice p) (fun s =>
    (.done, Idx.all.foldl abandonIdle { s with cal := { s.cal with lock := .lockedUntilPower } })) s

/-- METROLOGY_SWITCH_CHANGE (R30). -/
def execMetrologySwitchChange (closed : Bool) (s : State) : Host.Outcome State Fault Refusal :=
  whenRunning s fun s =>
    if s.cal.switchClosed = closed then s
    else
      let s := { s with cal := { s.cal with switchClosed := closed } }
      if closed then s else Idx.all.foldl abandonIdle s

/-! ### The calibration write's end (R37) -/

/-- The success of a calibration write (R37). -/
def calStored (d : Deck) (r : CalRecord) (c : StagedCal) (s : State) : State :=
  let s := { s with cal := { s.cal with stored := s.cal.stored.put d r, audit := c.audit } }
  let s := s.modDeck d fun u => u.setZero 0
  let s := { appendReserved (.calibration c (nowStamp s)) s with cal := { s.cal with staged := none } }
  officeWriteEnd 0x74#8 true (calibNotice d (endSession d s))

/-- The failure of a calibration write; the session goes on only while the switch still reads closed (R37). -/
def calNotStored (d : Deck) (s : State) : State :=
  let s := { s with journal := { s.journal with reservations := s.journal.reservations - 1 },
                    cal := { s.cal with staged := none } }
  let s := officeWriteEnd 0x74#8 false s
  if s.cal.switchClosed then s else abandonSession d s

/-- What follows a calibration write's end: the drain, and the head is tried when the success has cleared a store fault
(R126, R137). -/
def afterCalWrite (cleared : Bool) (s : State) : State :=
  let s := drain s
  if cleared then tryHead s else s

/-- CAL_WRITE_END, when the write in flight is a calibration write (R37, R186). -/
def calWriteEnd (ok : Bool) (s : State) : State :=
  match s.nv.inFlight, s.cal.staged with
  | some (.cal d r _), some c =>
    let cleared := ok && s.nv.storeFault
    let s := nvEnd ok s
    let s := if ok then calStored d r c s else calNotStored d s
    nvServe (afterCalWrite cleared s)
  | _, _ => s

def execCalWriteEnd (ok : Bool) (s : State) : Host.Outcome State Fault Refusal := whenRunning s (calWriteEnd ok)

/-! ### WRITE SITE NUMBER and RETRY STORE (R41, R124) -/

/-- WRITE SITE NUMBER (R41). -/
def writeSiteNumber (p : PortId) (value : Nat) (s : State) : Result × State :=
  if value < 1 ∨ 65535 < value then (.range, s)
  else if s.cal.site.isSome then (.locked, s)
  else (.busy, setBusy p (nvRequest (.site value) s))

/-- WRITE SITE NUMBER, an office command (R41). -/
def execWriteSiteNumber (p : PortId) (value : BitVec 16) (s : State) : Host.Outcome State Fault Refusal :=
  command p 0x7C#8 (isOffice p) (writeSiteNumber p value.toNat) s

/-- RETRY STORE (R124). -/
def retryStore (p : PortId) (s : State) : Result × State :=
  if !s.nv.storeFault then (.state, s)
  else if s.tickets.floorWrite.isSome then (.state, s)
  else (.busy, setBusy p (requestFloorWrite true s))

/-- RETRY STORE, an office command (R124). -/
def execRetryStore (p : PortId) (s : State) : Host.Outcome State Fault Refusal :=
  command p 0x7D#8 (isOffice p) (retryStore p) s

end Sys2Proof.Machine
end

