-- ==== Sys2Proof/Machine/LaneEvents.lean ====
section
/-! DEFINITION. The lane's inputs and timers as they reach the part: loop and beams (R97), barrier limits (R116, R117), the
travel timer (R117), the pass timer (R109) and the unannounced occupancy timer (R110). -/

namespace Sys2Proof.Machine
open Sys2Proof

/-- LOOP_FILTER_CHANGE: the loop's filtered state takes a new level (R97). -/
def execLoopFilterChange (l : Lane) (occupied : Bool) (s : State) : Host.Outcome State Fault Refusal :=
  whenRunning s fun s => if (s.lane l).sensors.loopOccupied = occupied then s else loopChange l occupied s

/-- A beam's filtered state (R97). -/
def LaneSensors.setBeam (x : LaneSensors) (b : Beam) (broken : Bool) : LaneSensors :=
  match b with
  | .beam1 => { x with beam1Broken := broken }
  | .beam2 => { x with beam2Broken := broken }

/-- BEAM_FILTER_CHANGE: it raises no event; the deck reads the beams at its samples (R97, R19). -/
def execBeamFilterChange (l : Lane) (beam : Beam) (broken : Bool) (s : State) : Host.Outcome State Fault Refusal :=
  whenRunning s fun s => s.modSensors l fun x => x.setBeam beam broken

/-! ### Limits (R116, R117) -/

/-- A limit input's level. -/
def Barrier.limit (b : Barrier) : Limit → Bool
  | .up => b.limitUp
  | .down => b.limitDown
def Barrier.setLimit (b : Barrier) (x : Limit) (active : Bool) : Barrier :=
  match x with
  | .up => { b with limitUp := active }
  | .down => { b with limitDown := active }

/-- The travel ends in a state, with its event (R116). -/
def endTravel (l : Lane) (st : BarrierState) (k : EventKind) (s : State) : State :=
  raiseAt k l (s.modBarrier l fun b => { b with state := st, travelTimer := travelStopped s l b.travelTimer })

/-- What a limit input that has become active does (R116, R117). A limit that ends the travel under way while the other is
already active meets both rules, and neither says which is first: the controller goes straight to FAULT, with no BARRIER_UP or
BARRIER_DOWN and no report of the travel's end, as the model's choice (log 42). -/
def limitActive (l : Lane) (x : Limit) (s : State) : State :=
  let b := (s.lane l).barrier
  if b.state ≠ .fault ∧ b.limitUp ∧ b.limitDown then enterFault l s
  else
    match x, b.state with
    | .up, .raising => reportUp l (endTravel l .up .barrierUp s)
    | .down, .lowering => reportDown l (endTravel l .down .barrierDown s)
    | _, _ => s

/-- BARRIER_LIMIT_CHANGE: the input's level, which the controller of a running part acts on (R116, R117); a part without
power keeps the level for its next start (log 5). -/
def execBarrierLimitChange (l : Lane) (x : Limit) (active : Bool) (s : State) : Host.Outcome State Fault Refusal :=
  if (s.lane l).barrier.limit x = active then .next s
  else
    let s := s.modBarrier l fun b => b.setLimit x active
    .next (if s.power && active then limitActive l x s else s)

/-- TRAVEL_TIMEOUT of a running travel timer, unless the travel it was of has ended first (R115 to R117). -/
def execTravelTimeout (l : Lane) (s : State) : Host.Outcome State Fault Refusal :=
  whenDue (s.lane l).barrier.travelTimer.late
    (fun s => s.modBarrier l fun b => { b with travelTimer := b.travelTimer.forget })
    (fun s => if (s.lane l).barrier.travelTimer.running then enterFault l s else s) s

/-! ### Lane timers (R109, R110) -/

/-- The pass timer expires with the deck clear: a stall (R109). -/
def stallLane (l : Lane) (s : State) : State :=
  let s := s.modSeq l fun q => { q with released := none }
  enterClosing l (raiseLaneOffice .lane l (raiseAt .laneStalled l s))

/-- The pass timer expires with the deck occupied: it runs again (R109). -/
def passAgain (l : Lane) (s : State) : State :=
  (raiseLaneOffice .lane l s).modSeq l fun q =>
    { q with passTimer := passStarted s l q.passTimer }

/-- PASS_TIMEOUT of a running pass timer, unless the OPEN it was of has been left first (R109). -/
def execPassTimeout (l : Lane) (s : State) : Host.Outcome State Fault Refusal :=
  whenDue (s.lane l).seqr.passTimer.late (fun s => s.modSeq l fun q => { q with passTimer := q.passTimer.forget })
    (fun s =>
      if (s.lane l).seqr.passTimer.running then
        if (s.lane l).seqr.occupied then passAgain l s else stallLane l s
      else s) s

/-- UNANNOUNCED_OCCUPANCY_TIMEOUT of a running timer, unless the run it was of has ended first (R110). -/
def execUnannouncedOccupancyTimeout (l : Lane) (s : State) : Host.Outcome State Fault Refusal :=
  whenDue (s.lane l).seqr.unannouncedLate (fun s => s.modSeq l fun q => { q with unannouncedLate := q.unannouncedLate - 1 })
    (fun s =>
      match (s.lane l).seqr.unannounced with
      | .running _ => raiseLaneOffice .lane l (s.modSeq l fun q => { q with unannounced := .spent false false })
      | .stopped | .spent _ _ => s) s

end Sys2Proof.Machine
end

