-- ==== Sys2Proof/Machine/YardEvents.lean ====
section
/-! DEFINITION. The printer line and its inputs (R150, R151), the general inputs and pulses (R163, R164), and the yard clock
(R182, R184). -/

namespace Sys2Proof.Machine
open Sys2Proof

/-! ### The printer line (R150, R151) -/

/-- A byte may go down the line: PRINTING, a byte in the FIFO, and printer-ready asserted or the byte already begun when it
was withdrawn (R150, log 26). -/
def canSend (e : PrintEngine) : Bool :=
  decide (e.state = EngineState.printing) && !e.fifo.isEmpty && (e.ready || e.byteInProgress)

/-- PRINT_BYTE_SENT: the oldest byte leaves the FIFO, and the engine goes on (R147, R150, R152). -/
def execPrintByteSent (l : Lane) (s : State) : Host.Outcome State Fault Refusal :=
  whenRunning s fun s =>
    if canSend (s.lane l).printer then
      pumpEngine l (s.modPrinter l fun e => { e with fifo := e.fifo.drop 1, byteInProgress := false })
    else s

/-- PRINTER_READY_CHANGE: the input's level, taken without filtering; sending stops after the byte in progress (R150, log
26). -/
def execPrinterReadyChange (l : Lane) (ready : Bool) (s : State) : Host.Outcome State Fault Refusal :=
  .next (s.modPrinter l fun e =>
    if e.ready = ready then e
    else { e with ready := ready, byteInProgress := s.power && !ready && canSend e })

/-- The paper-out input becomes active (R151). A byte in progress when printer-ready was withdrawn may still go after the
pause: the model's choice (log 26). -/
def paperGone (l : Lane) (s : State) : State :=
  let s := raiseAt .paperOut l (s.modPrinter l fun e => { e with paperOut := true })
  if (s.lane l).printer.state = .printing then enterPaused l s else s

/-- The paper-out input becomes inactive (R151). -/
def paperBack (l : Lane) (s : State) : State :=
  let s := s.modPrinter l fun e => { e with paperOut := false }
  if (s.lane l).printer.state = .paused then
    pumpEngine l (s.modPrinter l fun e => { e with state := .printing, pauseTimer := pauseStopped s l e.pauseTimer })
  else s

/-- PAPER_OUT_CHANGE of the filtered state (R151). -/
def execPaperOutChange (l : Lane) (active : Bool) (s : State) : Host.Outcome State Fault Refusal :=
  whenRunning s fun s =>
    if (s.lane l).printer.paperOut = active then s
    else if active then paperGone l s
    else paperBack l s

/-- PAUSE_TIMEOUT of a running pause timer, unless the pause it was of has ended first (R151). -/
def execPauseTimeout (l : Lane) (s : State) : Host.Outcome State Fault Refusal :=
  whenDue (s.lane l).printer.pauseTimer.late
    (fun s => s.modPrinter l fun e => { e with pauseTimer := e.pauseTimer.forget })
    (fun s => if (s.lane l).printer.pauseTimer.running then endJob l (.failed .paperTimeout) s else s) s

/-! ### General inputs and pulses (R163, R164) -/

/-- A general input's filtered level changes (R163). -/
def inputChange (n : Nat) (high : Bool) (s : State) : State :=
  raiseEvent (if high then .inputRise else .inputFall) (some n)
    { s with routes := { s.routes with inputs := Table.put s.routes.inputs false n high } }

/-- INPUT_FILTER_CHANGE of an input 1 to 8 (R163). -/
def execInputFilterChange (n : Nat) (high : Bool) (s : State) : Host.Outcome State Fault Refusal :=
  whenRunning s fun s =>
    if 1 ≤ n ∧ n ≤ 8 ∧ s.input n ≠ high then inputChange n high s else s

/-- OUTPUT_PULSE_EXPIRY of a running pulse timer, unless a set, clear or pulse taken first has ended the pulse it was of
(R164). -/
def execOutputPulseExpiry (n : Nat) (s : State) : Host.Outcome State Fault Refusal :=
  whenDue (s.output n).pulseTimer.late
    (fun s => s.modOutput n fun o => { o with pulseTimer := o.pulseTimer.forget })
    (fun s => if 1 ≤ n ∧ n ≤ 8 ∧ (s.output n).pulseTimer.running = true then outputClear n s else s) s

/-! ### The yard clock (R182, R184) -/

/-- The clock one second on (R182). -/
def Clock.advance (c : Clock) : Clock :=
  if c.second < 86399 then { c with second := c.second + 1 }
  else { c with second := 0, day := if c.day < 65535 then c.day + 1 else 0 }

/-- The monotonic yard seconds one on; beyond the last value of their range a free value (R184, log 24). -/
def monoAdvance (s : State) : State :=
  if s.clock.mono < 4294967295 then { s with clock := { s.clock with mono := s.clock.mono + 1 } }
  else { s with clock := { s.clock with mono := (Config.monoAfterMax s.freeIx).toNat }, freeIx := s.freeIx + 1 }

/-- The state with what it holds of the monotonic second of the clock's present second replaced. -/
def markMono (m : MonoSecond) (s : State) : State := { s with clock := { s.clock with monoSecond := m } }

/-- The passing of time while no command waits: the monotonic second of the clock's present second, if it is not counted yet,
is counted; a part without power counts none (R184, log 2). -/
def monoTick (s : State) : State :=
  if s.power && decide (s.clock.monoSecond ≠ .counted) then monoAdvance (markMono .counted s) else s

/-- The monotonic seconds at an advance of the clock: one that is still owed to the second that ends is counted, and the next
second begins (R182, R184, log 2). -/
def monoAtAdvance (s : State) : State :=
  if s.power then
    if s.clock.monoSecond = .owed then monoAdvance s else markMono .owed s
  else markMono .possible s

/-- What an advance of a set clock raises: MINUTE, then the rollover event (R182). -/
def clockEvents (s : State) : State :=
  if s.clock.isSet then
    let s := if s.clock.second % 60 = 0 then raiseEvent .minute none s else s
    if s.clock.second = s.clock.rolloverTime then rolloverEvent s else s
  else s

/-- An advance: the clock counts one second, on the battery too, and with power raises what the new second brings (R182,
R184, log 2). -/
def countSecond (s : State) : State :=
  let s := monoAtAdvance { s with clock := s.clock.advance }
  if s.power then clockEvents s else s

/-- An advance absorbed into the second that a SET CLOCK has restarted: it counts no second of the clock and raises nothing,
and the monotonic seconds go on as at any advance (R183, log 50). -/
def absorbAdvance (s : State) : State := monoAtAdvance { s with clock := { s.clock with absorbs := false } }

/-- CLOCK_ADVANCE (R182, R183). -/
def execClockAdvance (s : State) : Host.Outcome State Fault Refusal :=
  .next (if s.clock.absorbs then absorbAdvance s else countSecond s)

end Sys2Proof.Machine
end

