-- ==== Sys2Proof/Machine/Starts.lean ====
section
/-! DEFINITION. Power and starts: the loss of power (R185, R186), the reading of the cells (R28, R122), the warm start (R187)
with the values every block takes (R26, R42, R66, R74, R94, R121, R141, R155, R165, R181), the staged calibration record
(R38), and the cold start (R188). -/

namespace Sys2Proof.Machine
open Sys2Proof

/-! ### The loss of power (R185, R186) -/

/-- A loss of power: a write in flight leaves the cells with its old or its new content, and waiting requests are gone
(R186). Retained memory keeps what it holds (R185). -/
def losePower (landed : Bool) (s : State) : State :=
  let cells :=
    match s.nv.inFlight with
    | none => s.nv.cells
    | some r => if landed then s.nv.cells.written r else s.nv.cells
  { s with power := false,
           nv := { s.nv with cells := cells, inFlight := none, waitingFloor := none, waitingOffice := none } }

/-- POWER_LOSS (R185, R186). -/
def execPowerLoss (landed : Bool) (s : State) : Host.Outcome State Fault Refusal :=
  whenRunning s (losePower landed)

/-! ### Reading the cells (R28, R122) -/

/-- The content of a cell that can be read and has been written. -/
def readCell {α : Type} (ok : Bool) (c : Option α) : Option α := if ok then c else none

/-- The stored record of a deck as its cells yield it (R28). -/
def readRecordCell (c : Cells) (x : CellsReadable) (d : Deck) : CalRecord :=
  (readCell (x.cal.get d) (c.cal.get d)).getD CalRecord.coldDefault

/-- The stored records of the four decks (R28). -/
def readRecords (c : Cells) (x : CellsReadable) : Four CalRecord :=
  { one := readRecordCell c x .i1, two := readRecordCell c x .i2, three := readRecordCell c x .i3,
    four := readRecordCell c x .i4 }

/-- The audit counter read, 0 when it is missing or unreadable (R28). -/
def readAudit (c : Cells) (x : CellsReadable) : Nat := (readCell x.audit c.audit).getD 0

/-- The site number read (R28). -/
def readSite (c : Cells) (x : CellsReadable) : Option Nat := readCell x.site c.site

/-- The ticket floor read, 1 when never written or unreadable (R122). -/
def readFloor (c : Cells) (x : CellsReadable) : Nat := (readCell x.floor c.floor).getD 1

/-- The calibration unit after a start (R28, R29, R42); a staged record is left for R38. -/
def startCal (s : State) (x : CellsReadable) : CalUnit :=
  { stored := readRecords s.nv.cells x, working := Four.all none, audit := readAudit s.nv.cells x,
    site := readSite s.nv.cells x, lock := .switch, switchClosed := false, staged := s.cal.staged }

/-! ### Lanes after a start (R121) -/

/-- The barrier as its limit inputs read, with its travel timer stopped (R121). With both active it is DOWN until `startLane`
enters its FAULT, so a route fired by an earlier lane's BARRIER_FAULT finds it so, and finds that lane's sequencer CLOSED: what
such a route finds at a lane that has not restarted yet is the model's choice (log 43). -/
def startBarrier (stopped : Timer) (b : Barrier) : Barrier :=
  { b with state := (stateFromLimits b.limitUp b.limitDown).getD .down, pendingLower := false, travelTimer := stopped }

/-- The sequencer after a warm start, before it restarts: its timers stopped, and the head of the retained queue as the visit
table hands it (R46, R98, R99, R121). -/
def Sequencer.warm (s : State) (l : Lane) (q : Sequencer) : Sequencer :=
  { LaneUnit.cold.seqr with
      head := presentHead s l, passTimer := passStopped s l q.passTimer,
      unannouncedLate := lateAfter q.unannounced.runs (s.waiting (.unannouncedOccupancyTimeout l)) q.unannouncedLate }

/-- The print engine after a warm start (R155); its parameters and the printer-ready input stay. -/
def PrintEngine.warm (s : State) (l : Lane) (e : PrintEngine) : PrintEngine :=
  { e with state := .idle, jobs := [], fifo := [], pauseTimer := pauseStopped s l e.pauseTimer, byteInProgress := false,
           paperOut := true, lastResult := .none }

/-- A lane's values after a warm start, before its barrier's request and its sequencer's restart (R121, R155). -/
def LaneUnit.warm (s : State) (l : Lane) (u : LaneUnit) : LaneUnit :=
  { u with seqr := u.seqr.warm s l, sensors := LaneUnit.cold.sensors,
           barrier := startBarrier (travelStopped s l u.barrier.travelTimer) u.barrier,
           report := { u.report with lastCapture := .none, lastDecision := .none }, printer := u.printer.warm s l }

/-- The barrier's start: FAULT with its event and notices where both limits are active, else a lower where it is not DOWN;
then the sequencer restarts in its mode (R121). -/
def startLane (s : State) (l : Lane) : State :=
  let b := (s.lane l).barrier
  let s := if b.limitUp && b.limitDown then enterFault l s else lowerUnlessDown l s
  restartInMode l (s.lane l).params.mode s

/-! ### The warm start (R187) -/

/-- A deck after a warm start, its link silence timer started and its Zs kept while it lies within the record read (R2, R26,
R42). -/
def DeckUnit.warm (s : State) (d : Deck) (r : CalRecord) (u : DeckUnit) : DeckUnit :=
  { DeckUnit.cold with
      linkTimer := u.linkTimer.start (s.waiting (.linkSilenceTimeout d)) (inMs s 100),
      captureLate := lateAfter u.capture.isSome (s.waiting (.captureTimeout d)) u.captureLate,
      zs := if withinZeroRange r u.zs then u.zs else 0, threshold := u.threshold,
      captureTimeout := u.captureTimeout }

/-- A port after a warm start (R181, R141). -/
def Port.warm (mark : Nat) (x : Port) : Port :=
  { x with lastCommand := 0, lastResult := .done, reasonStore := false, data := ReplyData.zero, pendingSet := 0#16,
           enabledSet := allNotices, busy := false, follow := false, cursor := none, journalCursor := mark + 1,
           reply := none, move := none }

/-- The general outputs after a warm start: OFF and stopped, pulse lengths kept (R165). -/
def warmOutputs (s : State) : Table Output :=
  (s.routes.outputs.map fun p =>
    (p.1, { p.2 with on := false, pulseTimer := p.2.pulseTimer.stop (s.waiting (.outputPulseExpiry p.1)) })).filter fun p =>
      p.2 ≠ Output.cold

/-- The clock at a start: it has counted on, and the part was without power for some of the present second (R182, R184,
log 2). -/
def Clock.started (c : Clock) : Clock :=
  { c with monoSecond := if c.monoSecond = .counted then .counted else .possible }

/-- Steps 1 and 2 but for the lanes' restart: the cells read, and every block at its warm start values (R187). -/
def warmValues (x : CellsReadable) (s : State) : State :=
  let cal := startCal s x
  { s with
      power := true
      cal := cal
      decks := s.decks.map fun d u => u.warm s d (cal.stored.get d)
      lanes := s.lanes.map fun l u => u.warm s l
      templates := { s.templates with inUse := [] }
      routes := { s.routes with outputs := warmOutputs s, inputs := [] }
      tickets := { s.tickets with floor := readFloor s.nv.cells x, floorWrite := none }
      ports := { office := s.ports.office.warm s.journal.mark, lanes := s.ports.lanes.map fun _ y => y.warm s.journal.mark }
      clock := s.clock.started
      nv := { s.nv with inFlight := none, waitingFloor := none, waitingOffice := none } }

/-- The lanes restart, in an order the spec leaves open (R121, log 9). -/
def restartLanesAtStart (s : State) : State :=
  let (order, s) := takeLaneOrder s
  order.foldl startLane s

/-- Step 3: the staged calibration record is resolved by the audit counter read (R38). -/
def resolveStaged (s : State) : State :=
  let s :=
    match s.cal.staged with
    | none => s
    | some c =>
      if s.cal.audit = c.audit then
        calibNotice c.deck
          ((appendReserved (.calibration c (nowStamp s)) s).modDeck c.deck fun u => { u with zs := 0 })
      else s
  { s with cal := { s.cal with staged := none }, journal := { s.journal with reservations := 0 } }

/-- Step 4: the RESTART WARM record is merged, appended or made pending (R187, R135). -/
def warmRestartRecord (s : State) : State :=
  match s.tickets.pendingRestart with
  | some r => { s with tickets := { s.tickets with pendingRestart := some { r with merges := r.merges + 1 } } }
  | none =>
    let r : RestartInfo := { cold := false, resume := 0, merges := 1, firstStart := nowStamp s }
    if systemRoom s.journal then appendEntry (.restart r (nowStamp s)) s
    else { s with tickets := { s.tickets with pendingRestart := some r } }

/-- The issue wait of a warm start until the head is next tried (R141). -/
def startWait (s : State) : State :=
  let blocked := !s.tickets.queue.isEmpty && (s.tickets.pendingRestart.isSome || s.tickets.pendingRollover.isSome)
  setWait (if blocked then .systemRecord else .none) s

/-- Step 6: notice RESTART at every port, and STORE at the office port for an unreadable floor (R187, R122). -/
def startNotices (x : CellsReadable) (s : State) : State :=
  let s := allPorts.foldl (fun s p => raiseNotice .restart p s) s
  if x.floor then s else raiseNotice .store .office s

/-- A warm start (R187). -/
def warmStart (x : CellsReadable) (s : State) : State :=
  let s := restartLanesAtStart (warmValues x s)
  let s := startWait (warmRestartRecord (resolveStaged s))
  startNotices x (drain s)

/-! ### The cold start (R188) -/

/-- A lane after a cold start, on the inputs it finds (R121, R155). -/
def LaneUnit.coldFrom (u : LaneUnit) : LaneUnit :=
  { LaneUnit.cold with
      barrier := startBarrier .stopped
        { LaneUnit.cold.barrier with limitUp := u.barrier.limitUp, limitDown := u.barrier.limitDown },
      printer := { LaneUnit.cold.printer with ready := u.printer.ready } }

/-- Steps 1 to 4 but for the lanes' restart: everything but the cells, the inputs and the queue of commands at the cold
defaults, and the cells read (R188). -/
def coldValues (x : CellsReadable) (s : State) : State :=
  let floor := readFloor s.nv.cells x
  { State.reset with
      cal := { startCal s x with staged := none }
      lanes := s.lanes.map fun _ u => u.coldFrom
      tickets := { State.reset.tickets with next := floor, floor := floor }
      journal := { ring := [], last := 0, mark := 0, reservations := 0 }
      ports := { office := Port.cold 0#16 true, lanes := Four.all (Port.cold 0#16 false) }
      nv := { State.reset.nv with cells := s.nv.cells }
      freeIx := s.freeIx
      pending := s.pending }

/-- Step 5: the RESTART COLD record (R188). -/
def coldRestartRecord (s : State) : State :=
  appendEntry (.restart { cold := true, resume := s.tickets.next, merges := 1, firstStart := nowStamp s } (nowStamp s)) s

/-- A cold start (R188). No route is enabled, so the order of the lanes does not show. -/
def coldStart (x : CellsReadable) (s : State) : State :=
  startNotices x (coldRestartRecord (Idx.all.foldl startLane (coldValues x s)))

/-! ### POWER_ON and EXTERNAL_RESET (R185) -/

/-- Retained memory is valid: the marker stands and the battery held (R185). -/
def retainedValid (x : StartInputs) (s : State) : Bool := s.marker && !x.dropout

/-- A start that power leaves before its end: a cold start has not written its marker, a warm start has not begun (R185,
log 23). -/
def startCutShort (x : StartInputs) (s : State) : State :=
  if retainedValid x s then s else { coldStart x.cells s with marker := false, power := false }

/-- A start; a part that is running is stopped by it first (R185, log 34). -/
def startPart (x : StartInputs) (s : State) : State :=
  let s := if s.power then losePower x.writeLanded s else s
  if x.cutShort then startCutShort x s
  else if retainedValid x s then warmStart x.cells s
  else coldStart x.cells s

/-- POWER_ON (R185). -/
def execPowerOn (x : StartInputs) (s : State) : Host.Outcome State Fault Refusal := .next (startPart x s)

/-- The release of the external reset line, taken exactly as a power-on (R185). -/
def execExternalReset (x : StartInputs) (s : State) : Host.Outcome State Fault Refusal := .next (startPart x s)

end Sys2Proof.Machine
end

