-- ==== Sys2Proof/Machine/Frames.lean ====
section
/-! DEFINITION. The bytes software sees: the layouts of the replies and of the journal entries (R175, R179, R180). -/

namespace Sys2Proof.Machine
open Sys2Proof

/-- A number in `k` bytes, most significant first (R179). -/
def beBytes (k n : Nat) : List Byte := (List.range k).map fun i => BitVec.ofNat 8 (n / 256 ^ (k - 1 - i))

/-- A signed number in `k` bytes of two's complement (R179). -/
def beSigned (k : Nat) (w : Int) : List Byte := beBytes k (BitVec.ofInt (8 * k) w).toNat

/-- A signed number in 4 bytes (R179). -/
def beInt (w : Int) : List Byte := beSigned 4 w

/-- Zero bytes. -/
def zeros (k : Nat) : List Byte := List.replicate k 0#8

/-- A field of `k` bytes filled with 0x00, or cut (R179). -/
def padTo (k : Nat) (bs : List Byte) : List Byte := (bs ++ zeros k).take k

/-- A time: a day number of 2 bytes and a second of day of 3 (R179). -/
def Stamp.bytes (t : Stamp) : List Byte := beBytes 2 t.day ++ beBytes 3 t.second

/-- A flag as a byte, 0x01 or 0x00. -/
def flagByte (b : Bool) : Byte := if b then 0x01#8 else 0x00#8

/-- A result code as the first byte of a reply (R179). -/
def Result.byte (r : Result) : Byte := r.code.setWidth 8

/-! ### Journal entries (R180) -/

/-- A captured weight in a TICKET entry: weight, deck, time, audit counter (R180). -/
def CapturedWeight.bytes (w : CapturedWeight) : List Byte :=
  beInt w.weight ++ beBytes 1 w.deck.num ++ w.time.bytes ++ beBytes 2 w.audit

/-- The flags of a TICKET entry (R180). -/
def TicketRecord.flagsByte (t : TicketRecord) : Byte :=
  0#4 ++ BitVec.ofBool t.manualTare ++ BitVec.ofBool t.calChanged ++ BitVec.ofBool t.overrun
    ++ BitVec.ofBool t.negativeNet

/-- The bytes of a TICKET entry after its kind (R180). -/
def TicketRecord.bytes (t : TicketRecord) : List Byte :=
  beBytes 4 t.number ++ beBytes 2 t.visit ++ t.issued.bytes ++ beBytes 1 t.lane.num ++ padTo 10 t.vehicle
    ++ beBytes 2 t.account ++ beBytes 1 t.category
    ++ [match t.kind with | .delivery => 0x01#8 | .collection => 0x02#8]
    ++ [match t.tareSource with | .weighed => 0x01#8 | .stored => 0x02#8 | .none => 0x00#8]
    ++ t.first.bytes
    ++ (match t.second with
        | some w => 0x01#8 :: w.bytes
        | none => 0x00#8 :: zeros 12)
    ++ beInt t.tare ++ beInt t.net ++ [t.flagsByte] ++ beBytes 2 t.audit ++ beBytes 4 t.check.toNat

/-- The kind byte of an entry (R180). -/
def JournalBody.kindByte : JournalBody → Byte
  | .ticket _ => 0x01#8 | .void _ _ _ => 0x02#8 | .calibration _ _ => 0x03#8 | .rollover _ _ => 0x04#8
  | .restart _ _ => 0x05#8

/-- The fields of an entry after its kind (R180). -/
def JournalBody.bytes : JournalBody → List Byte
  | .ticket t => t.bytes
  | .void visit time lane => beBytes 2 visit ++ time.bytes ++ beBytes 1 ((lane.map Idx.num).getD 0)
  | .calibration c time =>
    beBytes 1 c.deck.num ++ beBytes 2 c.audit ++ beInt c.oldZc ++ beInt c.newZc ++ beBytes 4 c.oldK
      ++ beBytes 4 c.newK ++ beBytes 4 c.max ++ beBytes 1 c.e ++ time.bytes
  | .rollover day time => beBytes 2 day ++ time.bytes
  | .restart r time =>
    [if r.cold then 0x02#8 else 0x01#8] ++ beBytes 4 r.resume ++ beBytes 2 r.merges ++ r.firstStart.bytes ++ time.bytes

/-- The 72 bytes of an entry (R180). -/
def JournalEntry.bytes (e : JournalEntry) : List Byte :=
  padTo 72 (beBytes 4 e.seq ++ [e.body.kindByte] ++ e.body.bytes)

/-! ### The status reply and the live weight (R179, R180) -/

/-- The port flags byte: bit 0 busy, bit 1 follow, bit 2 lane port enabled, bit 3 counters granted (R179). R179 says nothing of
bits 4 to 7: in the model they are a free value, one for the part (DESIGN CHOICE, log 52). -/
def StatusReply.flagsByte (x : StatusReply) : Byte :=
  Config.portFlagBits ++ BitVec.ofBool x.granted ++ BitVec.ofBool x.enabled ++ BitVec.ofBool x.follow ++ BitVec.ofBool x.busy

/-- The READ STATUS reply, 23 bytes (R179). -/
def StatusReply.bytes (x : StatusReply) : List Byte :=
  [Result.done.byte, x.lastCommand, x.lastResult.byte, flagByte x.reasonStore]
    ++ beBytes 1 x.data.handle.slot ++ beBytes 1 x.data.handle.generation ++ beBytes 2 x.data.visit
    ++ [flagByte x.data.validTare]
    ++ beBytes 2 x.pendingSet.toNat ++ beBytes 2 x.enabledSet.toNat
    ++ [x.flagsByte]
    ++ beBytes 1 ((x.table.map TableId.code).getD 0) ++ beBytes 4 x.index ++ beBytes 4 x.journalCursor

/-- The state byte of the live weight record (R180). -/
def DeckPhase.byte : DeckPhase → Byte
  | .starting => 0x00#8 | .active => 0x01#8 | .fault => 0x02#8 | .calibrating => 0x03#8

/-- The live weight record, 9 bytes (R180). -/
def LiveWeight.bytes (x : LiveWeight) : List Byte :=
  beBytes 1 x.deck ++ [x.phase.byte] ++ beInt x.gross
    ++ [BitVec.ofBool x.uncalibrated ++ BitVec.ofBool x.calibrating ++ BitVec.ofBool x.centre
          ++ BitVec.ofBool x.underload ++ BitVec.ofBool x.overload ++ BitVec.ofBool x.occupied
          ++ BitVec.ofBool x.stable ++ BitVec.ofBool x.valid]
    ++ beBytes 2 x.audit

/-! ### Records (R175) -/

/-- The record is empty or free, and reads as zero bytes (R175). A LANE_VISIT record of a free slot is none of these, for R65
has it give the slot's generation (log 40). -/
def RecordView.isEmpty : RecordView → Bool
  | .category _ none | .account none | .siteCap none | .tare none | .visit none | .template none _ | .journal none => true
  | .category _ (some _) | .account (some _) | .siteCap (some _) | .counters _ _ | .tare (some _) | .visit (some _)
  | .laneVisit _ _ | .lane _ | .template (some _) _ | .line _ | .route _ | .journal (some _) => false

/-- A field of a record. -/
inductive FieldValue where
  | number (n : Nat)
  | signed (w : Int)
  | text (t : Text)
  | wire (x : Config.WireValue)
  | absent
deriving DecidableEq, Repr

/-- A field in `k` bytes, most significant first (R175, R179). -/
def FieldValue.bytes (k : Nat) : FieldValue → List Byte
  | .number n => beBytes k n
  | .signed w => beSigned k w
  | .text t => padTo k t
  | .wire x => beBytes k (Config.wireCode x).toNat
  | .absent => (List.range k).map Config.absentByte

/-- Fields with their widths, one after the other. -/
def fieldBytes (fs : List (Nat × FieldValue)) : List Byte := fs.flatMap fun f => f.2.bytes f.1

/-- A field of a record with its width in bytes, where R179 gives it. -/
abbrev RecordField := Option Nat × FieldValue

/-- The fields of a table in whose records the widths that R179 does not give are open (log 15). -/
def openFields (t : TableId) (fs : List RecordField) : List (Nat × FieldValue) :=
  fs.zipIdx.map fun f => (f.1.1.getD (Config.fieldWidth t f.2), f.1.2)

/-- A field whose width is not given. -/
def openField (v : FieldValue) : RecordField := (none, v)

def flagField (b : Bool) : FieldValue := .wire (.flag b)
def numberField (n : Option Nat) : FieldValue := (n.map FieldValue.number).getD .absent
def signedField (w : Option Int) : FieldValue := (w.map FieldValue.signed).getD .absent
def textField (t : Option Text) : FieldValue := (t.map FieldValue.text).getD .absent
def wireField (x : Option Config.WireValue) : FieldValue := (x.map FieldValue.wire).getD .absent
def reasonField (r : Option Reason) : FieldValue := wireField (r.map .reason)
def handleFields (h : Option Handle) : List FieldValue := [numberField (h.map (·.slot)), numberField (h.map (·.generation))]
def jobFields (j : Option (Nat × Bool)) : List FieldValue :=
  [numberField (j.map Prod.fst), (j.map fun x => flagField x.2).getD .absent]

/-- A vehicle id, 10 bytes (R179). -/
def vehicleField (t : Option Text) : RecordField := (some 10, textField t)

/-- A time: a day number of 2 bytes and a second of day of 3 (R179). -/
def timeFields (t : Option Stamp) : List RecordField :=
  [(some 2, numberField (t.map (·.day))), (some 3, numberField (t.map (·.second)))]

/-- A captured weight record: weight, deck, time, audit counter (R19). -/
def weightFields (w : Option CapturedWeight) : List RecordField :=
  [openField (signedField (w.map (·.weight))), openField (numberField (w.map (·.deck.num)))] ++ timeFields (w.map (·.time))
    ++ [openField (numberField (w.map (·.audit)))]

/-- The first payload byte of a record that is not empty, in the tables whose payload has room for it (log 15). -/
def presentField : Nat × FieldValue := (1, .number 1)

/-- A row's A, D, H, overrun mark and free amount (R78, R93). -/
def amountFields (a : AmountsView) : List (Nat × FieldValue) :=
  [(4, .number a.amounts.allow), (Config.debitedWidth, .number a.amounts.debited), (Config.heldWidth, .number a.amounts.held),
   (1, flagField a.amounts.overrun), (Config.freeWidth, .signed a.free)]

/-- Row `i` of an ACCOUNTS record, 24 bytes (R78, R93, R175). -/
def accountRowBytes (rows : List (Nat × AmountsView)) (i : Nat) : List Byte :=
  match rows[i]? with
  | none => FieldValue.absent.bytes 24
  | some (c, a) => padTo 24 (fieldBytes ((1, .number c) :: amountFields a))

/-- An ACCOUNTS record: the fields of R78, then its eight rows. -/
def accountBytes (a : Account) (amounts : List AmountsView) : List Byte :=
  fieldBytes [presentField, (2, .number a.number), (1, .wire (.status a.status)), (1, flagField a.keepTares),
      (1, flagField a.storedTareAllowed)]
    ++ (List.range 8).flatMap (accountRowBytes ((a.rows.map (·.category)).zip amounts))

/-- A VISITS record: the fields of R43, then the handle (R65). -/
def visitFields (v : Visit) (h : Option Handle) : List RecordField :=
  [openField (.number v.number), vehicleField (some v.vehicle), openField (.number v.account), openField (.number v.category),
   openField (.wire (.visitKind v.kind)), openField (.number v.payload), openField (.number v.announceLane.num)]
    ++ timeFields (some v.announceTime) ++ [openField (.number v.announceSecond)]
    ++ weightFields v.first ++ weightFields v.second
    ++ ([.wire (.tareSource v.tareSource), numberField v.storedTare, signedField v.net, .number v.reserve,
         .wire (.visitState v.state), numberField (v.place.map (·.lane.num)), numberField (v.place.map (·.slot.num)),
         wireField (v.place.map fun x => .pass x.pass), numberField v.ticket, reasonField v.reason,
         flagField v.overstayNoticed, flagField v.calChanged, flagField v.negativeNet]
        ++ handleFields h).map openField

/-- What a LANE_VISIT record shows of the visit in its slot, absent fields where there is none (R65). -/
def laneVisitFields (v : Option LaneVisitView) : List RecordField :=
  (handleFields (v.map (·.handle)) ++ [numberField (v.map (·.visit))]).map openField
    ++ [vehicleField (v.map (·.vehicle))]
    ++ [numberField (v.map (·.category)), wireField (v.map fun x => .visitKind x.kind),
        wireField (v.map fun x => .visitState x.state)].map openField
    ++ weightFields (v.bind (·.first)) ++ weightFields (v.bind (·.second))
    ++ [wireField (v.map fun x => .tareSource x.tareSource), signedField (v.bind (·.net)), reasonField (v.bind (·.reason)),
        numberField (v.bind (·.ticket))].map openField

/-- A LANES record: the fields of R119, with those of the print engine (R145). -/
def laneFields (v : LaneView) : List FieldValue :=
  [.wire (.laneMode v.mode), .wire (.direction v.direction), .wire (.seqState v.state), .wire (.barrier v.barrier),
   flagField v.pendingLower, .wire (.light v.light), flagField v.sensors.loopOccupied, flagField v.sensors.beam1Broken,
   flagField v.sensors.beam2Broken]
    ++ (List.range 4).flatMap (fun i => numberField (v.queue[i]?.map Prod.fst) :: handleFields (v.queue[i]?.map Prod.snd))
    ++ [numberField v.released, numberField v.capture, .wire (.capture v.report.lastCapture),
        reasonField v.report.lastReason, .wire (.decision v.report.lastDecision), numberField v.report.lastTicket,
        .wire (.engine v.printer.state)]
    ++ jobFields v.printer.current ++ jobFields v.printer.waiting
    ++ [.number v.printer.fifo, .wire (.printResult v.printer.lastResult)]

/-- The fields of a record in the order of its chapter, each number most significant byte first (R65, R73, R93, R119, R142,
R143, R157, R175; R180 for JOURNAL). -/
def RecordView.bytes : RecordView → List Byte
  | .category code (some c) =>
    fieldBytes [presentField, (1, .number code), (12, .text c.name), (4, .number c.reserve)]
  | .account (some (a, amounts)) => accountBytes a amounts
  | .siteCap (some a) => fieldBytes (presentField :: amountFields a)
  | .counters c day =>
    fieldBytes (openFields .counters ([.number c.delivered, .number c.collected, .number c.tickets, .number day].map openField))
  | .tare (some (t, valid)) =>
    fieldBytes [presentField, (10, .text t.vehicle), (4, .number t.tare), (1, .number t.deck), (2, .number t.taken.day),
      (3, .number t.taken.second), (1, flagField t.manual), (2, .number t.uses), (1, flagField valid)]
  | .visit (some (v, h)) => fieldBytes (presentField :: openFields .visits (visitFields v h))
  | .laneVisit g v =>
    fieldBytes (openFields .laneVisit (openField (.number g) :: laneVisitFields v))
  | .lane v => fieldBytes (openFields .lanes ((laneFields v).map openField))
  | .template (some t) n => fieldBytes [presentField, (12, .text t.name), (1, .number t.head), (1, .number n)]
  | .line r =>
    fieldBytes [presentField, (1, .number (r.next.getD 255)), (24, .text r.literal)]
      ++ (List.range 9).map (Config.refByte r.refs)
  | .route r =>
    fieldBytes [(1, flagField r.enabled), (1, .wire (.event r.event)),
      (1, FieldValue.number (r.eventIndex.getD anyIndexByte.toNat)), (1, .wire (.task r.task)), (1, .number r.taskIndex),
      (1, .wire (.outcome r.outcome))]
  | .journal (some e) => 0x01#8 :: e.bytes
  | .category _ none | .account none | .siteCap none | .tare none | .visit none | .template none _ | .journal none => []

/-- The payload of a record at its table's length (R175): zero bytes for an empty one. -/
def recordPayload (t : TableId) (v : RecordView) : List Byte :=
  if v.isEmpty then zeros t.payload else padTo t.payload v.bytes

/-! ### Replies (R168, R175, R179, R180) -/

/-- The bytes of a reply, from its result byte on (R168, R175, R179, R180). -/
def Reply.bytes : Reply → List Byte
  | .status x => x.bytes
  | .parameter r v => r.byte :: beBytes 4 v
  | .weight r none => r.byte :: zeros 9
  | .weight r (some x) => r.byte :: x.bytes
  | .journal r lost none => [r.byte, 0x00#8] ++ beBytes 4 lost ++ zeros 72
  | .journal r lost (some e) => [r.byte, 0x01#8] ++ beBytes 4 lost ++ e.bytes
  | .record r none _ => [r.byte]
  | .record r (some t) none => r.byte :: zeros t.payload
  | .record r (some t) (some v) => r.byte :: recordPayload t v

end Sys2Proof.Machine
end

