-- ==== Sys2Proof/WellFormed.lean ====
section
/-! DEFINITION. The commands the interface can send: field lengths, the numbers of inputs and outputs, codes and visit
numbers (R163, R164, R178). -/

namespace Sys2Proof
open Machine

/-- A vehicle id field is 10 bytes (R178, R179). -/
def vehicleField (bs : List Byte) : Bool := decide (bs.length = 10)

/-- A general input or output number (R163, R164). -/
def yardNumber (n : Nat) : Bool := decide (1 ≤ n ∧ n ≤ 8)

/-- The term is a command the interface can send. -/
def Instr.wellFormed : Instr → Bool
  | .announce _ _ vehicle _ _ _ _ => vehicleField vehicle
  | .attach _ _ vehicle => vehicleField vehicle
  | .writeTare _ vehicle _ _ => vehicleField vehicle
  | .unknownCommand _ code => decide (formOf code = .unknown)
  | .overstay visit => decide (visit ≠ 0#16)
  | .inputFilterChange n _ => yardNumber n
  | .outputPulseExpiry n => yardNumber n
  | .readStatus _ | .clearNotices _ _ | .setNoticeEnable _ _ | .readParameter _ _ _ | .writeParameter _ _ _ _
  | .writeLaneMode _ _ _ | .writeLanePortEnable _ _ _ | .selectTable _ _ _ | .readRecord _ | .writeRecord _ _
  | .writeCategory _ _ _ | .removeCategory _ | .writeAccount _ _ | .deleteAccount _ | .writeSiteCap _ _
  | .emptySiteCap _ | .deleteTare _ | .writeTemplate _ _ _ | .emptyTemplate _ | .writeLine _ _ | .writeRoute _ _
  | .readWeight _ _ | .followJournal _ | .leaveFollow _ | .followExchange _ | .readJournal _ | .readCursorMove _
  | .framingDiscard _ _ _ _ | .release _ _ _ | .capture _ _ _ | .manualRaise _ _ | .manualLower _ _
  | .reprintLast _ _ | .reprintTicket _ _ _ | .abortPrint _ _ | .zeroDeck _ _ | .voidVisit _ _ | .resolve _ _ _
  | .archiveUpTo _ _ | .setClock _ _ _ | .forceRollover _ | .setOutput _ _ _ | .restartLanes _ | .clearLaneFault _ _
  | .calBegin _ _ | .calSet _ _ _ | .calZero _ _ | .calSpan _ _ _ | .calEnd _ _ | .calAbandon _ _
  | .lockCalibration _ | .writeSiteNumber _ _ | .retryStore _ | .sampleOk _ _ | .sampleCellError _ _
  | .linkSilenceTimeout _ | .captureTimeout _ | .zeroTrackingStep _ | .ticketIssue | .floorWriteEnd _ | .calWriteEnd _
  | .siteNumberWriteEnd _ | .clockAdvance | .loopFilterChange _ _ | .beamFilterChange _ _ _ | .barrierLimitChange _ _ _
  | .travelTimeout _ | .passTimeout _ | .unannouncedOccupancyTimeout _ | .metrologySwitchChange _ | .printByteSent _
  | .printerReadyChange _ _ | .paperOutChange _ _ | .pauseTimeout _ | .powerOn _ | .externalReset _
  | .powerLoss _ => true

end Sys2Proof
end

