-- ==== Sys2Proof/Machine/Dispatch.lean ====
section
/-! DEFINITION. The meaning of every command, one arm each. -/

namespace Sys2Proof.Machine
open Sys2Proof

def exec (i : Instr) (s : State) : Host.Outcome State Fault Refusal :=
  match i with
  | .readStatus p => Sys2Proof.Machine.execReadStatus p s
  | .clearNotices p set => Sys2Proof.Machine.execClearNotices p set s
  | .setNoticeEnable p set => Sys2Proof.Machine.execSetNoticeEnable p set s
  | .readParameter p code inst => Sys2Proof.Machine.execReadParameter p code inst s
  | .writeParameter p code inst value => Sys2Proof.Machine.execWriteParameter p code inst value s
  | .writeLaneMode p inst value => Sys2Proof.Machine.execWriteLaneMode p inst value s
  | .writeLanePortEnable p inst value => Sys2Proof.Machine.execWriteLanePortEnable p inst value s
  | .selectTable p table index => Sys2Proof.Machine.execSelectTable p table index s
  | .readRecord p => Sys2Proof.Machine.execReadRecord p s
  | .writeRecord p args => Sys2Proof.Machine.execWriteRecord p args s
  | .writeCategory p name reserve => Sys2Proof.Machine.execWriteCategory p name reserve s
  | .removeCategory p => Sys2Proof.Machine.execRemoveCategory p s
  | .writeAccount p w => Sys2Proof.Machine.execWriteAccount p w s
  | .deleteAccount p => Sys2Proof.Machine.execDeleteAccount p s
  | .writeSiteCap p cap => Sys2Proof.Machine.execWriteSiteCap p cap s
  | .emptySiteCap p => Sys2Proof.Machine.execEmptySiteCap p s
  | .writeTare p vehicle tare deck => Sys2Proof.Machine.execWriteTare p vehicle tare deck s
  | .deleteTare p => Sys2Proof.Machine.execDeleteTare p s
  | .writeTemplate p name head => Sys2Proof.Machine.execWriteTemplate p name head s
  | .emptyTemplate p => Sys2Proof.Machine.execEmptyTemplate p s
  | .writeLine p w => Sys2Proof.Machine.execWriteLine p w s
  | .writeRoute p w => Sys2Proof.Machine.execWriteRoute p w s
  | .readWeight p deck => Sys2Proof.Machine.execReadWeight p deck s
  | .followJournal p => Sys2Proof.Machine.execFollowJournal p s
  | .leaveFollow p => Sys2Proof.Machine.execLeaveFollow p s
  | .followExchange p => Sys2Proof.Machine.execFollowExchange p s
  | .readJournal p => Sys2Proof.Machine.execReadJournal p s
  | .readCursorMove p => Sys2Proof.Machine.execReadCursorMove p s
  | .framingDiscard p code argBytes replyBytes => Sys2Proof.Machine.execFramingDiscard p code argBytes replyBytes s
  | .unknownCommand p code => Sys2Proof.Machine.execUnknownCommand p code s
  | .announce p lane vehicle account category kind payload => Sys2Proof.Machine.execAnnounce p lane vehicle account category kind payload s
  | .attach p lane vehicle => Sys2Proof.Machine.execAttach p lane vehicle s
  | .release p lane ref => Sys2Proof.Machine.execRelease p lane ref s
  | .capture p lane ref => Sys2Proof.Machine.execCapture p lane ref s
  | .manualRaise p lane => Sys2Proof.Machine.execManualRaise p lane s
  | .manualLower p lane => Sys2Proof.Machine.execManualLower p lane s
  | .reprintLast p lane => Sys2Proof.Machine.execReprintLast p lane s
  | .reprintTicket p ticket lane => Sys2Proof.Machine.execReprintTicket p ticket lane s
  | .abortPrint p lane => Sys2Proof.Machine.execAbortPrint p lane s
  | .zeroDeck p deck => Sys2Proof.Machine.execZeroDeck p deck s
  | .voidVisit p visit => Sys2Proof.Machine.execVoidVisit p visit s
  | .resolve p visit choice => Sys2Proof.Machine.execResolve p visit choice s
  | .archiveUpTo p seq => Sys2Proof.Machine.execArchiveUpTo p seq s
  | .setClock p day second => Sys2Proof.Machine.execSetClock p day second s
  | .forceRollover p => Sys2Proof.Machine.execForceRollover p s
  | .setOutput p output action => Sys2Proof.Machine.execSetOutput p output action s
  | .restartLanes p => Sys2Proof.Machine.execRestartLanes p s
  | .clearLaneFault p lane => Sys2Proof.Machine.execClearLaneFault p lane s
  | .calBegin p deck => Sys2Proof.Machine.execCalBegin p deck s
  | .calSet p deck fields => Sys2Proof.Machine.execCalSet p deck fields s
  | .calZero p deck => Sys2Proof.Machine.execCalZero p deck s
  | .calSpan p deck load => Sys2Proof.Machine.execCalSpan p deck load s
  | .calEnd p deck => Sys2Proof.Machine.execCalEnd p deck s
  | .calAbandon p deck => Sys2Proof.Machine.execCalAbandon p deck s
  | .lockCalibration p => Sys2Proof.Machine.execLockCalibration p s
  | .writeSiteNumber p value => Sys2Proof.Machine.execWriteSiteNumber p value s
  | .retryStore p => Sys2Proof.Machine.execRetryStore p s
  | .sampleOk d count => Sys2Proof.Machine.execSampleOk d count s
  | .sampleCellError d count => Sys2Proof.Machine.execSampleCellError d count s
  | .linkSilenceTimeout d => Sys2Proof.Machine.execLinkSilenceTimeout d s
  | .captureTimeout d => Sys2Proof.Machine.execCaptureTimeout d s
  | .zeroTrackingStep d => Sys2Proof.Machine.execZeroTrackingStep d s
  | .ticketIssue => Sys2Proof.Machine.execTicketIssue s
  | .floorWriteEnd ok => Sys2Proof.Machine.execFloorWriteEnd ok s
  | .calWriteEnd ok => Sys2Proof.Machine.execCalWriteEnd ok s
  | .siteNumberWriteEnd ok => Sys2Proof.Machine.execSiteNumberWriteEnd ok s
  | .clockAdvance => Sys2Proof.Machine.execClockAdvance s
  | .overstay visit => Sys2Proof.Machine.execOverstay visit s
  | .loopFilterChange l occupied => Sys2Proof.Machine.execLoopFilterChange l occupied s
  | .beamFilterChange l beam broken => Sys2Proof.Machine.execBeamFilterChange l beam broken s
  | .barrierLimitChange l limit active => Sys2Proof.Machine.execBarrierLimitChange l limit active s
  | .travelTimeout l => Sys2Proof.Machine.execTravelTimeout l s
  | .passTimeout l => Sys2Proof.Machine.execPassTimeout l s
  | .unannouncedOccupancyTimeout l => Sys2Proof.Machine.execUnannouncedOccupancyTimeout l s
  | .metrologySwitchChange closed => Sys2Proof.Machine.execMetrologySwitchChange closed s
  | .printByteSent l => Sys2Proof.Machine.execPrintByteSent l s
  | .printerReadyChange l ready => Sys2Proof.Machine.execPrinterReadyChange l ready s
  | .paperOutChange l active => Sys2Proof.Machine.execPaperOutChange l active s
  | .pauseTimeout l => Sys2Proof.Machine.execPauseTimeout l s
  | .inputFilterChange input high => Sys2Proof.Machine.execInputFilterChange input high s
  | .outputPulseExpiry output => Sys2Proof.Machine.execOutputPulseExpiry output s
  | .powerOn x => Sys2Proof.Machine.execPowerOn x s
  | .externalReset x => Sys2Proof.Machine.execExternalReset x s
  | .powerLoss writeLanded => Sys2Proof.Machine.execPowerLoss writeLanded s

end Sys2Proof.Machine
end

