-- ==== Sys2Proof/Machine/Exchanges.lean ====
section
/-! DEFINITION. What a port shifts out: one byte for each byte the master clocks in, the status byte, the bytes over the
arguments, the reply and the bytes after it (R166, R167, R177, R179). -/

namespace Sys2Proof.Machine
open Sys2Proof

/-- The argument bytes over which a port shifts out 0x00 before a reply; a follow exchange has none (R177, R178, R179). -/
def argumentCount (x : Port) (code : Byte) : Nat :=
  if x.follow then 0
  else
    match formOf code with
    | .read n _ => n
    | .write _ | .writeRecord | .readRecord | .unknown => 0

/-- The command of an exchange replies: a read-type command, or in follow mode every byte but LEAVE FOLLOW's (R167, R177). -/
def hasReply (x : Port) (code : Byte) : Bool :=
  if x.follow then decide (code ≠ 0x29#8)
  else
    match formOf code with
    | .read _ _ | .readRecord => true
    | .write _ | .writeRecord | .unknown => false

/-- The bytes of the reply a command forms at a port; none where it forms no reply (R167). -/
def formedReply (s : State) (p : PortId) (i : Instr) : List Byte :=
  match exec i s with
  | .next t => ((t.port p).reply.map Reply.bytes).getD []
  | .fault _ => []
  | .refused _ => []

/-- The bytes a running port shifts out during an exchange in which the master clocks in `bytes`: over the first its status
byte as it stands at select, over the arguments 0x00, then the reply of a read-type command or of a follow exchange, and 0x00
after it. A write-type command, LEAVE FOLLOW and an unknown code have no reply (R166, R167, R177, R179). The state at select is
also the one in which the reply is formed (log 35). -/
def dataOut (s : State) (p : PortId) (bytes : List Byte) : List Byte :=
  match bytes with
  | [] => []
  | code :: _ =>
    let x := s.port p
    let reply :=
      if hasReply x code then
        match decodeExchange x p bytes with
        | [] => []
        | i :: _ => formedReply s p i
      else []
    (x.statusByte :: (zeros (argumentCount x code) ++ reply ++ zeros bytes.length)).take bytes.length

end Sys2Proof.Machine
end

