-- ==== Sys2Proof/Safety.lean ====
section
/-! DEFINITION. The words claims are stated in: the parts of the state a command leaves alone, a port that takes commands
and the answer it gives, and the invariants the spec's prose states of the whole machine. -/

namespace Sys2Proof.Machine
open Sys2Proof

/-! ### Frames -/

/-- The parts of the state, one for each field. -/
inductive Part where
  | power | marker | decks | cal | visits | tares | allow | lanes | tickets | journal | templates | routes | ports | clock
  | nv | freeIx | pending
deriving DecidableEq, Repr

/-- The state with the named parts hidden: two states agree outside some parts when they are the same with those hidden. -/
def State.hide (ps : List Part) (s : State) : State :=
  { power := if Part.power ∈ ps then State.reset.power else s.power
    marker := if Part.marker ∈ ps then State.reset.marker else s.marker
    decks := if Part.decks ∈ ps then State.reset.decks else s.decks
    cal := if Part.cal ∈ ps then State.reset.cal else s.cal
    visits := if Part.visits ∈ ps then State.reset.visits else s.visits
    tares := if Part.tares ∈ ps then State.reset.tares else s.tares
    allow := if Part.allow ∈ ps then State.reset.allow else s.allow
    lanes := if Part.lanes ∈ ps then State.reset.lanes else s.lanes
    tickets := if Part.tickets ∈ ps then State.reset.tickets else s.tickets
    journal := if Part.journal ∈ ps then State.reset.journal else s.journal
    templates := if Part.templates ∈ ps then State.reset.templates else s.templates
    routes := if Part.routes ∈ ps then State.reset.routes else s.routes
    ports := if Part.ports ∈ ps then State.reset.ports else s.ports
    clock := if Part.clock ∈ ps then State.reset.clock else s.clock
    nv := if Part.nv ∈ ps then State.reset.nv else s.nv
    freeIx := if Part.freeIx ∈ ps then State.reset.freeIx else s.freeIx
    pending := if Part.pending ∈ ps then State.reset.pending else s.pending }

/-- Every part of the state but the named ones is the same in `t` as in `s`. -/
def KeepsAllBut (ps : List Part) (s t : State) : Prop := t.hide ps = s.hide ps

/-- The parts an event can reach through the routes it fires: outputs and outcomes, lights, barriers, captures, notices (R158
to R161). -/
def yardParts : List Part := [.decks, .lanes, .routes, .ports]

/-- What the routes an event fires cannot reach (R158 to R161): the state with captures, sequencer states, lights, barrier
travels, reported captures, route outcomes, outputs and pending notices hidden. -/
def LaneUnit.outsideRoutes (u : LaneUnit) : LaneUnit :=
  { u with seqr := { u.seqr with state := .idle, light := .red, raiseWait := false },
           barrier := { u.barrier with state := .down, pendingLower := false, travelTimer := .stopped },
           report := { u.report with lastCapture := .none } }

def DeckUnit.outsideRoutes (u : DeckUnit) : DeckUnit := { u with capture := none, captureLate := 0 }

def Port.outsideRoutes (x : Port) : Port := { x with pendingSet := 0#16 }

def RouteUnit.outsideRoutes (r : RouteUnit) : RouteUnit :=
  { r with routes := Table.mapVals r.routes fun x => { x with outcome := .none }, outputs := [] }

def State.outsideRoutes (s : State) : State :=
  { s with decks := s.decks.map fun _ u => u.outsideRoutes
           lanes := s.lanes.map fun _ u => u.outsideRoutes
           routes := s.routes.outsideRoutes
           ports := { office := s.ports.office.outsideRoutes, lanes := s.ports.lanes.map fun _ x => x.outsideRoutes } }

/-- Two states differ at most in what fired routes can reach. -/
def SameOutsideRoutes (s t : State) : Prop := t.outsideRoutes = s.outsideRoutes

/-- What a lane's sequencer at work cannot reach either: of a lane its parameters, sensors, limit inputs, print engine and
copy of the occupancy flag remain. -/
def LaneUnit.outsideYard (u : LaneUnit) : LaneUnit :=
  { u with seqr := { LaneUnit.cold.seqr with occupied := u.seqr.occupied },
           barrier := { LaneUnit.cold.barrier with limitUp := u.barrier.limitUp, limitDown := u.barrier.limitDown },
           report := LaneUnit.cold.report }

def State.outsideYard (s : State) : State :=
  { s with decks := s.decks.map fun _ u => u.outsideRoutes
           lanes := s.lanes.map fun _ u => u.outsideYard
           routes := s.routes.outsideRoutes
           ports := { office := s.ports.office.outsideRoutes, lanes := s.ports.lanes.map fun _ x => x.outsideRoutes } }

/-- Two states differ at most in captures, sequencers, barriers, lane reports, route outcomes, outputs and pending notices. -/
def SameOutsideYard (s t : State) : Prop := t.outsideYard = s.outsideYard

/-! ### Timers -/

/-- A timer brought to a deadline, or to a stop: where it ran, those of its expiries that wait in the queue are late from then
on (R184, log 51). -/
def Timer.brought (t : Timer) (s : State) (expiry : Instr) (deadline : Option Nat) : Timer :=
  { deadline := deadline, late := if t.deadline.isSome = true then s.pending.count expiry else t.late }

/-! ### One part replaced -/

def State.setCal (s : State) (x : CalUnit) : State := { s with cal := x }
def State.setVisits (s : State) (x : VisitTable) : State := { s with visits := x }
def State.setTares (s : State) (x : TareStore) : State := { s with tares := x }
def State.setAllow (s : State) (x : AllowanceUnit) : State := { s with allow := x }
def State.setTickets (s : State) (x : TicketUnit) : State := { s with tickets := x }
def State.setJournal (s : State) (x : Journal) : State := { s with journal := x }
def State.setTemplates (s : State) (x : TemplateStore) : State := { s with templates := x }
def State.setRoutes (s : State) (x : RouteUnit) : State := { s with routes := x }
def State.setClock (s : State) (x : Clock) : State := { s with clock := x }
def State.setNv (s : State) (x : NvUnit) : State := { s with nv := x }

/-! ### Ports -/

/-- A running part whose port is enabled and not in follow mode: it serves what it serves while busy (R168, R170, R177). -/
def Serves (s : State) (p : PortId) : Prop :=
  s.power = true ∧ (s.port p).enabled = true ∧ (s.port p).follow = false

/-- A running part whose port is enabled, not busy and not in follow mode: it takes a command the port may issue (R168,
R177). -/
def Takes (s : State) (p : PortId) : Prop :=
  s.power = true ∧ (s.port p).enabled = true ∧ (s.port p).busy = false ∧ (s.port p).follow = false

/-- What a write-type command leaves at its port: its code, its result, no reason and no reply data, and nothing of an
earlier reply (R167, R168). -/
def Answered (t : State) (p : PortId) (code : Byte) (r : Result) : Prop :=
  (t.port p).lastCommand = code ∧ (t.port p).lastResult = r ∧ (t.port p).reasonStore = false
    ∧ (t.port p).data = ReplyData.zero ∧ (t.port p).reply = none ∧ (t.port p).move = none

/-- A port as `Answered` describes it, everything else as it was. -/
def Port.answered (x : Port) (code : Byte) (r : Result) : Port :=
  { x with lastCommand := code, lastResult := r, reasonStore := false, data := ReplyData.zero, reply := none, move := none }

/-- The state after a write-type command that changed nothing but its port's answer. -/
def State.answer (s : State) (p : PortId) (code : Byte) (r : Result) : State := s.modPort p fun x => x.answered code r

/-- The state after a read-type command: its reply and the cursor move it would make (R167). -/
def State.replied (s : State) (p : PortId) (r : Reply) (m : Option CursorMove) : State :=
  s.modPort p fun x => { x with reply := some r, move := m }

/-- The office port after a WRITE RECORD that passed framing at index `i` of a table: its answer, and the cursor at the next
index (R176). -/
def State.wrote (s : State) (t : TableId) (i : Nat) (r : Result) : State :=
  s.modPort .office fun x => { x.answered 0x1A#8 r with cursor := some (t, t.after i) }

/-- The port and code of the write-type commands of fixed length that only the office may issue and that are not served
while it is busy (R170, R173). -/
def officeOnly : Instr → Option (PortId × Byte)
  | .writeParameter p _ _ _ | .writeLaneMode p _ _ | .writeLanePortEnable p _ _ => some (p, 0x11#8)
  | .voidVisit p _ => some (p, 0x40#8)
  | .resolve p _ _ => some (p, 0x41#8)
  | .archiveUpTo p _ => some (p, 0x48#8)
  | .reprintTicket p _ _ => some (p, 0x49#8)
  | .setClock p _ _ => some (p, 0x50#8)
  | .forceRollover p => some (p, 0x51#8)
  | .setOutput p _ _ => some (p, 0x58#8)
  | .restartLanes p => some (p, 0x60#8)
  | .clearLaneFault p _ => some (p, 0x61#8)
  | .calBegin p _ => some (p, 0x70#8)
  | .calSet p _ _ => some (p, 0x71#8)
  | .calZero p _ => some (p, 0x72#8)
  | .calSpan p _ _ => some (p, 0x73#8)
  | .calEnd p _ => some (p, 0x74#8)
  | .calAbandon p _ => some (p, 0x75#8)
  | .lockCalibration p => some (p, 0x78#8)
  | .writeSiteNumber p _ => some (p, 0x7C#8)
  | .retryStore p => some (p, 0x7D#8)
  | .readStatus _ | .clearNotices _ _ | .setNoticeEnable _ _ | .readParameter _ _ _ | .selectTable _ _ _ | .readRecord _
  | .writeRecord _ _ | .writeCategory _ _ _ | .removeCategory _ | .writeAccount _ _ | .deleteAccount _
  | .writeSiteCap _ _ | .emptySiteCap _ | .writeTare _ _ _ _ | .deleteTare _ | .writeTemplate _ _ _ | .emptyTemplate _
  | .writeLine _ _ | .writeRoute _ _ | .readWeight _ _ | .followJournal _ | .leaveFollow _ | .followExchange _
  | .readJournal _ | .readCursorMove _ | .framingDiscard _ _ _ _ | .unknownCommand _ _ | .announce _ _ _ _ _ _ _
  | .attach _ _ _ | .release _ _ _ | .capture _ _ _ | .manualRaise _ _ | .manualLower _ _ | .reprintLast _ _
  | .abortPrint _ _ | .zeroDeck _ _ | .sampleOk _ _ | .sampleCellError _ _ | .linkSilenceTimeout _ | .captureTimeout _
  | .zeroTrackingStep _ | .ticketIssue | .floorWriteEnd _ | .calWriteEnd _ | .siteNumberWriteEnd _ | .clockAdvance
  | .overstay _ | .loopFilterChange _ _ | .beamFilterChange _ _ _ | .barrierLimitChange _ _ _ | .travelTimeout _
  | .passTimeout _ | .unannouncedOccupancyTimeout _ | .metrologySwitchChange _ | .printByteSent _
  | .printerReadyChange _ _ | .paperOutChange _ _ | .pauseTimeout _ | .inputFilterChange _ _ | .outputPulseExpiry _
  | .powerOn _ | .externalReset _ | .powerLoss _ => none

/-- The port, code and lane or deck byte, if it has one, of the write-type commands of fixed length that every port may issue
(R173, R178). -/
def portCommand : Instr → Option (PortId × Byte × Option Byte)
  | .clearNotices p _ => some (p, 0x02#8, none)
  | .setNoticeEnable p _ => some (p, 0x03#8, none)
  | .selectTable p _ _ => some (p, 0x18#8, none)
  | .followJournal p => some (p, 0x28#8, none)
  | .leaveFollow p => some (p, 0x29#8, none)
  | .announce p b _ _ _ _ _ => some (p, 0x30#8, some b)
  | .attach p b _ => some (p, 0x31#8, some b)
  | .release p b _ => some (p, 0x32#8, some b)
  | .capture p b _ => some (p, 0x33#8, some b)
  | .manualRaise p b => some (p, 0x34#8, some b)
  | .manualLower p b => some (p, 0x35#8, some b)
  | .reprintLast p b => some (p, 0x36#8, some b)
  | .abortPrint p b => some (p, 0x37#8, some b)
  | .zeroDeck p b => some (p, 0x38#8, some b)
  | .readStatus _ | .readParameter _ _ _ | .writeParameter _ _ _ _ | .writeLaneMode _ _ _ | .writeLanePortEnable _ _ _
  | .readRecord _ | .writeRecord _ _ | .writeCategory _ _ _ | .removeCategory _ | .writeAccount _ _ | .deleteAccount _
  | .writeSiteCap _ _ | .emptySiteCap _ | .writeTare _ _ _ _ | .deleteTare _ | .writeTemplate _ _ _ | .emptyTemplate _
  | .writeLine _ _ | .writeRoute _ _ | .readWeight _ _ | .followExchange _ | .readJournal _ | .readCursorMove _
  | .framingDiscard _ _ _ _ | .unknownCommand _ _ | .voidVisit _ _ | .resolve _ _ _ | .archiveUpTo _ _
  | .reprintTicket _ _ _ | .setClock _ _ _ | .forceRollover _ | .setOutput _ _ _ | .restartLanes _ | .clearLaneFault _ _
  | .calBegin _ _ | .calSet _ _ _ | .calZero _ _ | .calSpan _ _ _ | .calEnd _ _ | .calAbandon _ _ | .lockCalibration _
  | .writeSiteNumber _ _ | .retryStore _ | .sampleOk _ _ | .sampleCellError _ _ | .linkSilenceTimeout _
  | .captureTimeout _ | .zeroTrackingStep _ | .ticketIssue | .floorWriteEnd _ | .calWriteEnd _ | .siteNumberWriteEnd _
  | .clockAdvance | .overstay _ | .loopFilterChange _ _ | .beamFilterChange _ _ _ | .barrierLimitChange _ _ _
  | .travelTimeout _ | .passTimeout _ | .unannouncedOccupancyTimeout _ | .metrologySwitchChange _ | .printByteSent _
  | .printerReadyChange _ _ | .paperOutChange _ _ | .pauseTimeout _ | .inputFilterChange _ _ | .outputPulseExpiry _
  | .powerOn _ | .externalReset _ | .powerLoss _ => none

/-- The port and table of a WRITE RECORD with its fields spelled out (R176). -/
def recordTable : Instr → Option (PortId × TableId)
  | .writeCategory p _ _ | .removeCategory p => some (p, .categories)
  | .writeAccount p _ | .deleteAccount p => some (p, .accounts)
  | .writeSiteCap p _ | .emptySiteCap p => some (p, .siteCaps)
  | .writeTare p _ _ _ | .deleteTare p => some (p, .tares)
  | .writeTemplate p _ _ | .emptyTemplate p => some (p, .templates)
  | .writeLine p _ => some (p, .lines)
  | .writeRoute p _ => some (p, .routes)
  | .readStatus _ | .clearNotices _ _ | .setNoticeEnable _ _ | .readParameter _ _ _ | .writeParameter _ _ _ _
  | .writeLaneMode _ _ _ | .writeLanePortEnable _ _ _ | .selectTable _ _ _ | .readRecord _ | .writeRecord _ _
  | .readWeight _ _ | .followJournal _ | .leaveFollow _ | .followExchange _ | .readJournal _ | .readCursorMove _
  | .framingDiscard _ _ _ _ | .unknownCommand _ _ | .announce _ _ _ _ _ _ _ | .attach _ _ _ | .release _ _ _
  | .capture _ _ _ | .manualRaise _ _ | .manualLower _ _ | .reprintLast _ _ | .abortPrint _ _ | .zeroDeck _ _
  | .voidVisit _ _ | .resolve _ _ _ | .archiveUpTo _ _ | .reprintTicket _ _ _ | .setClock _ _ _ | .forceRollover _
  | .setOutput _ _ _ | .restartLanes _ | .clearLaneFault _ _ | .calBegin _ _ | .calSet _ _ _ | .calZero _ _
  | .calSpan _ _ _ | .calEnd _ _ | .calAbandon _ _ | .lockCalibration _ | .writeSiteNumber _ _ | .retryStore _
  | .sampleOk _ _ | .sampleCellError _ _ | .linkSilenceTimeout _ | .captureTimeout _ | .zeroTrackingStep _
  | .ticketIssue | .floorWriteEnd _ | .calWriteEnd _ | .siteNumberWriteEnd _ | .clockAdvance | .overstay _
  | .loopFilterChange _ _ | .beamFilterChange _ _ _ | .barrierLimitChange _ _ _ | .travelTimeout _ | .passTimeout _
  | .unannouncedOccupancyTimeout _ | .metrologySwitchChange _ | .printByteSent _ | .printerReadyChange _ _
  | .paperOutChange _ _ | .pauseTimeout _ | .inputFilterChange _ _ | .outputPulseExpiry _ | .powerOn _
  | .externalReset _ | .powerLoss _ => none

/-- A notice kind is pending at a port (R171). -/
def Noticed (t : State) (n : Notice) (p : PortId) : Prop := (t.port p).pendingSet &&& n.bit ≠ 0#16

/-- What "vehicle passed" makes of the head visit of a lane's queue, by its state and pass kind: a head that waits for its
ticket or its dispute stays; any other leaves the queue, FIRST_WEIGHED, ATTACHED and a TICKETED_ON_SITE entry staying open on
site, the others removed; the other visits stay (R60). -/
def HeadPassed (l : Lane) (s t : State) : Prop :=
  match headVisit s l with
  | none => t.visits = s.visits
  | some v =>
    (v.state = .awaitingTicket ∨ v.state = .disputed → t.visits = s.visits)
    ∧ (v.state ≠ .awaitingTicket → v.state ≠ .disputed →
        queueOf t l = (queueOf s l).filter (fun m => m.2 ≠ v.number)
        ∧ (∀ m, m ≠ v.number → findVisit t m = findVisit s m)
        ∧ findVisit t v.number =
          (if v.state = .firstWeighed ∨ (v.state = .ticketedOnSite ∧ v.place.map (·.pass) = some .entry) then
             some { v with place := none }
           else if v.state = .attached then some { v with place := none, state := .firstWeighed }
           else none))

/-- The issue wait shows the first condition of R126 that fails, in the order of its table, and NONE where none fails. The
room under the ticket limit is that of R133, while sequence numbers are left (R131). -/
def FirstFailing (s : State) (w : IssueWait) : Prop :=
  let noRecord := s.tickets.pendingRestart = none ∧ s.tickets.pendingRollover = none
  let room := s.journal.last < 4294967295 ∧ s.journal.last - s.journal.mark + s.journal.reservations < 1016
  let numbered := s.cal.site ≠ none
  let stored := s.nv.storeFault = false
  let written := s.tickets.floorWrite = none
  let left := s.tickets.next < 4294967295
  let below := s.tickets.next < s.tickets.floor
  (¬ noRecord → w = .systemRecord)
  ∧ (noRecord → ¬ room → w = .journal)
  ∧ (noRecord → room → ¬ numbered → w = .siteNumber)
  ∧ (noRecord → room → numbered → ¬ stored → w = .storeFault)
  ∧ (noRecord → room → numbered → stored → ¬ written → w = .floorWrite)
  ∧ (noRecord → room → numbered → stored → written → ¬ left → w = .numberingEnded)
  ∧ (noRecord → room → numbered → stored → written → left → ¬ below → w = .floorWrite)
  ∧ (noRecord → room → numbered → stored → written → left → below → w = .none)

/-- A route matches an event: it is enabled, of the event's kind, and its index is ANY or the event's (R157). -/
abbrev Route.Matches (r : Route) (k : EventKind) (idx : Option Nat) : Prop :=
  r.enabled = true ∧ r.event = k ∧ (r.eventIndex = none ∨ r.eventIndex = idx)

/-- A head's capture has ended FAILED for a reason on the way from `s` to `t`, in a step that takes the head off its queue:
none is in flight for it, CAPTURE_FAILED has fired its routes, and CAPTURE is pending at lane and office (R22, R23). The lane
report shows the reason, but where an AUTO lane has tried the next head and its deck has refused that (R101, R161); a lane
that tries none has no capture in flight and shows the reason. -/
def CaptureEnded (l : Lane) (n : Nat) (r : CaptureReason) (s t : State) : Prop :=
  let tries := (s.lane l).params.mode = .auto ∧ ((s.lane l).params.autoCapture = true
    ∨ ∃ q ∈ s.routes.routes, q.2.enabled = true ∧ q.2.task = .startCapture ∧ q.2.taskIndex = l.num)
  (∀ c, (t.deck l).capture = some c → c.visit ≠ n)
  ∧ ((t.lane l).report.lastCapture = .failed r ∨ ∃ code, (t.lane l).report.lastCapture = .notStarted code)
  ∧ (¬ tries → (t.deck l).capture = none ∧ (t.lane l).report.lastCapture = .failed r)
  ∧ (∀ q ∈ t.routes.routes, q.2.Matches .captureFailed (some l.num) → q.2.outcome ≠ .none)
  ∧ Noticed t .capture (.lane l) ∧ Noticed t .capture .office

/-! ### Tickets -/

/-- A settlement of a visit leaves a row's free amount below zero (R79, R82). -/
def LeftBelow (v : Visit) (a : Amounts) : Prop :=
  (a.allow : Int) - (a.debited + (v.net.getD 0).toNat : Nat) - (a.held - v.reserve : Nat) < 0

/-- The upper and the lower 16 bits of a weight's 32-bit two's complement (R130). -/
def halves (w : Int) : List Nat := [(w / 65536 % 65536).toNat, (w % 65536).toNat]

/-- The 14 words of R130's table, as a record holds its fields. -/
def wordsOf (k : TicketRecord) : List Nat :=
  [k.number / 65536 % 65536, k.number % 65536, k.visit] ++ halves k.first.weight
    ++ (if let some w := k.second then halves w.weight else [0, 0]) ++ halves k.net
    ++ [k.account,
        k.category * 256 + (if k.kind = .delivery then 1 else 2) + 16 * (if k.tareSource = .stored then 2 else 1),
        k.issued.day, k.issued.second / 60, k.audit]

/-- R130's two things for one word, as it says them: the 33-bit quantity times 32 with what stands at or above 2^33 added back
in at the bottom, then the low 16 bits exclusive-or the word. -/
def turned (q word : Nat) : Nat :=
  let r := q * 32 % 2 ^ 33 + q * 32 / 2 ^ 33
  r / 65536 * 65536 + (r % 65536 ^^^ word)

/-- The TICKET record of a visit issued at a lane, every field as R128 forms it from the visit and the state before the issue,
OVERRUN as R83 answers, and the check word over its words. -/
def TicketOf (s : State) (v : Visit) (l : Lane) (first : CapturedWeight) (site : Nat) (k : TicketRecord) : Prop :=
  k.number = s.tickets.next ∧ k.visit = v.number ∧ k.issued = { day := s.clock.day, second := s.clock.second } ∧ k.lane = l
  ∧ k.vehicle = v.vehicle ∧ k.account = v.account ∧ k.category = v.category ∧ k.kind = v.kind
  ∧ k.first = first ∧ k.second = v.second ∧ k.tareSource = v.tareSource
  ∧ k.tare = (if v.tareSource = .stored then (v.storedTare.getD 0 : Int)
      else if v.kind = .delivery then (v.second.getD first).weight else first.weight)
  ∧ k.net = v.net.getD 0 ∧ k.negativeNet = v.negativeNet ∧ k.calChanged = v.calChanged ∧ k.manualTare = v.manualTare
  ∧ (k.overrun = true ↔ v.kind = .delivery
      ∧ ((∃ a r, findAccount s v.account = some a ∧ a.row v.category = some r ∧ LeftBelow v r.amounts)
        ∨ ∃ cap, Table.find s.allow.caps v.category = some cap ∧ LeftBelow v cap))
  ∧ k.audit = (v.second.getD first).audit ∧ k.site = site ∧ k.check = checkWord site (wordsOf k)

/-! ### Invariants -/

/-- The barrier and the loop of a lane: no lowering under an occupied loop, the travel timer runs in the two travels and
nowhere else, and a pending lower waits in RAISING or UP for an occupied loop (R114, R115). -/
def BarrierOk (u : LaneUnit) : Prop :=
  (u.barrier.state = .lowering → u.sensors.loopOccupied = false)
  ∧ (u.barrier.travelTimer.running = true ↔ u.barrier.state = .raising ∨ u.barrier.state = .lowering)
  ∧ (u.barrier.pendingLower = true →
      (u.barrier.state = .raising ∨ u.barrier.state = .up) ∧ u.sensors.loopOccupied = true)

/-- Every lane's barrier is as `BarrierOk` says. -/
def BarriersOk (s : State) : Prop := ∀ l : Lane, BarrierOk (s.lane l)

/-- The sequencer's state belongs to the lane's mode, an AUTO light is green in OPEN and PASSING and nowhere else, the pass
timer runs in OPEN and nowhere else, and an AUTO lane whose barrier is in FAULT is HELD (R99, R103, R109, R111 to R113). -/
def SequencerOk (u : LaneUnit) : Prop :=
  (u.params.mode = .closed ↔ u.seqr.state = .closed)
  ∧ (u.params.mode = .manual ↔ u.seqr.state = .manual)
  ∧ (u.params.mode = .auto → (u.seqr.light = .green ↔ u.seqr.state = .opened ∨ u.seqr.state = .passing))
  ∧ (u.seqr.passTimer.running = true ↔ u.seqr.state = .opened)
  ∧ (u.params.mode = .auto → u.barrier.state = .fault → u.seqr.state = .held)

/-- Every lane's sequencer is as `SequencerOk` says. -/
def SequencersOk (s : State) : Prop := ∀ l : Lane, SequencerOk (s.lane l)

/-- A deck's filter sum and flags: F is the sum of the window, an invalid weight is 0 with its flags clear and no history, a
lost link leaves no valid weight and no running timer, and the two range flags exclude each other (R2, R3, R8, R11). -/
def DeckOk (u : DeckUnit) : Prop :=
  u.sum = sumOf u.window
  ∧ (u.valid = false → u.gross = 0 ∧ u.stable = false ∧ u.overload = false ∧ u.underload = false ∧ u.centre = false
      ∧ u.history = [])
  ∧ (u.linkLost = true → u.valid = false ∧ u.linkTimer.running = false)
  ∧ (u.overload = true → u.underload = false)

/-- Every deck is as `DeckOk` says. -/
def DecksOk (s : State) : Prop := ∀ d : Deck, DeckOk (s.deck d)

/-- A site number write waits or is in flight. -/
def siteWritePending (s : State) : Bool :=
  (match s.nv.inFlight with | some (.site _) => true | _ => false)
    || (match s.nv.waitingOffice with | some (.site _) => true | _ => false)

/-- A calibration write waits or is in flight. -/
def calWritePending (s : State) : Bool :=
  (match s.nv.inFlight with | some (.cal _ _ _) => true | _ => false)
    || (match s.nv.waitingOffice with | some (.cal _ _ _) => true | _ => false)

/-- The write in flight is the ticket unit's. -/
def floorInFlight (s : State) : Bool :=
  match s.nv.inFlight with | some (.floor _) => true | _ => false

/-- The floor write in flight was asked for by RETRY STORE. -/
def retryPending (s : State) : Bool :=
  match s.tickets.floorWrite with
  | none => false
  | some f => f.retry

/-- The journal's ring and counts (R131, R133): every retained entry can be read, the archive mark is not beyond the last
entry, one reservation stands exactly while a calibration is staged, and the committed count stays within the journal, below
its system headroom while a reservation is held. -/
def JournalOk (s : State) : Prop :=
  (∀ n, oldestRetained s.journal ≤ n → n ≤ s.journal.last → (retainedEntry s.journal n).isSome = true)
  ∧ s.journal.mark ≤ s.journal.last
  ∧ s.journal.reservations = (if s.cal.staged.isSome then 1 else 0)
  ∧ committed s.journal ≤ 1024
  ∧ (s.cal.staged.isSome = true → committed s.journal ≤ 1016)

/-- The office's non-volatile commands (R36, R170, R186): at most one of the three is in flight, with the office port busy; a
calibration write has its staged record, whose audit value is the next one; and an office write waits only behind a floor
write. -/
def WriterOk (s : State) : Prop :=
  (s.cal.staged.isSome = true → siteWritePending s = false ∧ retryPending s = false)
  ∧ (siteWritePending s = true → retryPending s = false)
  ∧ (s.cal.staged.isSome = true ∨ siteWritePending s = true ∨ retryPending s = true →
      (s.port .office).busy = true)
  ∧ (calWritePending s = true → s.cal.staged.isSome = true)
  ∧ (∀ c, s.cal.staged = some c → c.audit = s.cal.audit + 1)
  ∧ (s.nv.waitingOffice.isSome = true → floorInFlight s = true)

/-- `JournalOk` and `WriterOk` together, as one step keeps them. -/
def StoreOk (s : State) : Prop := JournalOk s ∧ WriterOk s

/-- A visit's current lane and the queues agree, no two open visits share a number or a vehicle, a queue holds distinct
slots and every generation is below 16 (R43, R46). -/
def VisitsOk (s : State) : Prop :=
  Table.rising s.visits.records = true
  ∧ (∀ p ∈ s.visits.records, p.1 < 64)
  ∧ (s.visits.records.map fun p => p.2.number).Nodup
  ∧ (s.visits.records.map fun p => p.2.vehicle).Nodup
  ∧ (∀ l : Lane, ((queueOf s l).map Prod.fst).Nodup)
  ∧ (∀ (l : Lane) (slot : Slot) (n : Nat), (slot, n) ∈ queueOf s l ↔
      ∃ p ∈ s.visits.records, p.2.number = n ∧
        ∃ pl, p.2.place = some pl ∧ pl.lane = l ∧ pl.slot = slot)
  ∧ (∀ l slot : Idx, (s.visits.queues.get l).generations.get slot < 16)

/-- The numbered tables are listed in strictly rising order of index, and no print queue holds more than two jobs (R145). -/
def TablesOk (s : State) : Prop :=
  Table.rising s.visits.records = true ∧ Table.rising s.tares.entries = true ∧ Table.rising s.allow.categories = true
  ∧ Table.rising s.allow.accounts = true ∧ Table.rising s.allow.caps = true ∧ Table.rising s.allow.counters = true
  ∧ Table.rising s.journal.ring = true ∧ Table.rising s.templates.templates = true
  ∧ Table.rising s.templates.inUse = true ∧ Table.rising s.templates.lines = true
  ∧ Table.rising s.routes.routes = true ∧ Table.rising s.routes.outputs = true
  ∧ Table.rising s.routes.inputs = true
  ∧ ∀ l : Lane, (s.lane l).printer.jobs.length ≤ 2

end Sys2Proof.Machine
end

