-- ==== Sys2Proof/Certificates/Slice0/Obligations.lean ====
section
/-! DEFINITION. The statements for the provers. Each names the rules of spec/ it rests on; `Takes`, `Serves`, `Answered`,
`KeepsAllBut`, `SameOutsideRoutes`, `SameOutsideYard` and the invariants are the words of Safety.lean. A command's code is
that of R178. -/

section Statements
open Sys2Proof Sys2Proof.Machine

/-! ### The step and the whole machine -/

/-- One step takes the command at the front of the queue and is `exec` of it on the state with the queue's rest. On an empty
queue a running part counts the monotonic second of the clock's present second, if it is not counted yet, and otherwise idles;
a part without power idles. The queue and this place of the monotonic second are the model's own (log 1, log 2). -/
def Obligations.StepTakesTheFrontCommand : Prop :=
  ∀ s : State,
    (s.pending = [] →
      (s.power = false ∨ s.clock.monoSecond = .counted → step s = .next s)
      ∧ (s.power = true → s.clock.monoSecond ≠ .counted → ∃ n ix,
        step s = .next { s with clock := { s.clock with mono := n, monoSecond := .counted }, freeIx := ix }
        ∧ (s.clock.mono < 4294967295 → n = s.clock.mono + 1 ∧ ix = s.freeIx)))
    ∧ ∀ c rest, s.pending = c :: rest → step s = exec c { s with pending := rest }

/-- No command stops the block, and none touches the queue: the spec describes no condition in which the YT24 halts. -/
def Obligations.EveryCommandCompletesOffTheQueue : Prop :=
  ∀ (i : Instr) (s : State), ∃ t, exec i s = .next t ∧ t.pending = s.pending

/-- The state after reset meets every invariant. -/
def Obligations.ResetMeetsTheInvariants : Prop :=
  BarriersOk State.reset ∧ SequencersOk State.reset ∧ DecksOk State.reset ∧ StoreOk State.reset ∧ VisitsOk State.reset
    ∧ TablesOk State.reset

/-- Every step keeps the barriers right: no arm lowers while its loop is occupied, the travel timer runs in the two travels
alone, and a pending lower waits only for the loop (R114, R115). -/
def Obligations.StepKeepsBarriersSafe : Prop := ∀ s t, BarriersOk s → step s = .next t → BarriersOk t

/-- Every step keeps each sequencer in a state of its lane's mode, its AUTO light green in OPEN and PASSING alone, its pass
timer running in OPEN alone, and an AUTO lane HELD while its barrier is in FAULT (R99, R103, R109, R111 to R113). -/
def Obligations.StepKeepsSequencersInMode : Prop := ∀ s t, SequencersOk s → step s = .next t → SequencersOk t

/-- Every step keeps each deck's filter sum the sum of its window, an invalid weight 0 with its flags clear and no history, a
lost link without a weight, and at most one range flag (R2, R3, R8, R11). -/
def Obligations.StepKeepsDecksConsistent : Prop := ∀ s t, DecksOk s → step s = .next t → DecksOk t

/-- Every step keeps the journal's counts and the non-volatile commands as R131, R133, R170 and R186 describe them. -/
def Obligations.StepKeepsJournalAndWriter : Prop := ∀ s t, StoreOk s → step s = .next t → StoreOk t

/-- Every step keeps numbers and vehicles unique among the open visits and the queues in agreement with the visits' lanes
(R43, R46). -/
def Obligations.StepKeepsVisitsAndQueuesAgreed : Prop := ∀ s t, VisitsOk s → step s = .next t → VisitsOk t

/-- Every step keeps the numbered tables in rising order of index and every print queue at two jobs or fewer (R145). -/
def Obligations.StepKeepsTablesRising : Prop := ∀ s t, TablesOk s → step s = .next t → TablesOk t

/-- The next ticket number moves only by TICKET_ISSUE, which adds one, and by a start that has lost retained memory (R122,
R127, R188). -/
def Obligations.TicketNumbersMoveOnlyByIssue : Prop :=
  ∀ i s t, exec i s = .next t → t.tickets.next ≠ s.tickets.next →
    (i = .ticketIssue ∧ t.tickets.next = s.tickets.next + 1)
      ∨ ∃ x, (i = .powerOn x ∨ i = .externalReset x) ∧ retainedValid x s = false

/-- A running part's stored calibration records and audit counter change together only at the success of a calibration
write, which advances the counter by one; a start reads them anew (R28, R36, R37). -/
def Obligations.CalibrationChangesOnlyByAStoredWrite : Prop :=
  ∀ i s t, WriterOk s → exec i s = .next t → t.cal.stored ≠ s.cal.stored ∨ t.cal.audit ≠ s.cal.audit →
    (i = .calWriteEnd true ∧ t.cal.audit = s.cal.audit + 1 ∧ s.cal.staged.isSome = true ∧ t.cal.staged = none)
      ∨ ∃ x, i = .powerOn x ∨ i = .externalReset x

/-- Refusals by privilege, each changing nothing but the port's answer. At a lane port an office command, WRITE RECORD and its
rows among them, is answered DENIED, whether the port is enabled or not; so is a lane or deck command that names another lane
than the port's own by its number or 0, or another deck; and so is, at a disabled lane port, every command but READ STATUS,
a read by its reply (R168, R173, R176; numbers that name no lane or deck: log 36; the reply's length: log 45). -/
def Obligations.OfficeCommandsAreDeniedAtLanePorts : Prop :=
  ∀ s l, s.power = true → (s.port (.lane l)).follow = false →
    (∀ i code, officeOnly i = some (.lane l, code) → exec i s = .next (s.answer (.lane l) code .denied))
    ∧ (∀ args, writeRecordFramed (s.port (.lane l)) args.length = true →
      exec (.writeRecord (.lane l) args) s = .next (s.answer (.lane l) 0x1A#8 .denied))
    ∧ (∀ i t, recordTable i = some (.lane l, t) →
      writeRecordFramed (s.port (.lane l)) (t.writeLength.getD 0) = true →
      exec i s = .next (s.answer (.lane l) 0x1A#8 .denied))
    ∧ (∀ i code b, portCommand i = some (.lane l, code, some b) → b.toNat ≠ l.num → b.toNat ≠ 0 ∨ code = 0x38#8 →
      exec i s = .next (s.answer (.lane l) code .denied))
    ∧ ((s.port (.lane l)).enabled = false →
      (∀ i code b, portCommand i = some (.lane l, code, b) → exec i s = .next (s.answer (.lane l) code .denied))
      ∧ (∀ code inst, exec (.readParameter (.lane l) code inst) s =
        .next (s.replied (.lane l) (.parameter .denied 0) none))
      ∧ (∀ b, exec (.readWeight (.lane l) b) s = .next (s.replied (.lane l) (.weight .denied none) none))
      ∧ exec (.readJournal (.lane l)) s = .next (s.replied (.lane l) (.journal .denied 0 none) none)
      ∧ exec (.readRecord (.lane l)) s =
        .next (s.replied (.lane l) (.record .denied ((s.port (.lane l)).cursor.map Prod.fst) none) none))

/-- While the office port is busy with a non-volatile command it refuses BUSY every write-type command but SELECT TABLE,
FOLLOW JOURNAL and LEAVE FOLLOW: the office commands, WRITE RECORD and its rows, the notice commands and the lane and deck
commands; nothing but its answer changes (R168, R170, R176). -/
def Obligations.BusyOfficePortRefusesBusy : Prop :=
  ∀ s, Serves s .office → (s.port .office).busy = true →
    (∀ i code, officeOnly i = some (.office, code) → exec i s = .next (s.answer .office code .busy))
    ∧ (∀ i code b, portCommand i = some (.office, code, b) → code ≠ 0x18#8 → code ≠ 0x28#8 → code ≠ 0x29#8 →
      exec i s = .next (s.answer .office code .busy))
    ∧ (∀ args, writeRecordFramed (s.port .office) args.length = true →
      exec (.writeRecord .office args) s = .next (s.answer .office 0x1A#8 .busy))
    ∧ (∀ i t, recordTable i = some (.office, t) → writeRecordFramed (s.port .office) (t.writeLength.getD 0) = true →
      exec i s = .next (s.answer .office 0x1A#8 .busy))

/-! ### Port exchanges -/

/-- READ STATUS is served at a disabled and at a busy port too; its reply shows every field of the port, and nothing else
changes (R169; the index with no table selected: log 44). The status byte has busy, a pending notice, follow mode and the
attention output in bits 7 to 4 and the last result's code below. The reply's 23 bytes are the fields in R179's order, each
number most significant byte first, the port flags with busy, follow, enabled and granted in bits 0 to 3 (R171, R179; their
other bits are free: log 52). -/
def Obligations.ReadStatusIsServedInEveryCondition : Prop :=
  (∀ s p, s.power = true → (s.port p).follow = false →
    let x := s.port p
    exec (.readStatus p) s = .next (s.replied p (.status
      { lastCommand := x.lastCommand, lastResult := x.lastResult, reasonStore := x.reasonStore, data := x.data,
        pendingSet := x.pendingSet, enabledSet := x.enabledSet, busy := x.busy, follow := false, enabled := x.enabled,
        granted := x.granted, table := x.cursor.map Prod.fst, index := (x.cursor.map Prod.snd).getD 0,
        journalCursor := x.journalCursor }) none))
  ∧ (∀ x : Port, x.statusByte.getLsbD 7 = x.busy ∧ x.statusByte.getLsbD 6 = decide (x.pendingSet ≠ 0#16)
      ∧ x.statusByte.getLsbD 5 = x.follow ∧ x.statusByte.getLsbD 4 = decide (x.pendingSet &&& x.enabledSet ≠ 0#16)
      ∧ x.statusByte.toNat % 16 = x.lastResult.code.toNat)
  ∧ [Result.done, .held, .busy, .framing, .denied, .noSuch, .unmapped, .gone, .state, .range, .full, .locked, .motion,
      .failed].map (fun r => r.code.toNat) = List.range 14
  ∧ (∀ k n, (beBytes k n).length = k ∧ (beBytes k n).foldl (fun a b => a * 256 + b.toNat) 0 = n % 256 ^ k)
  ∧ ∀ x : StatusReply, ∃ flags : Byte, (Reply.status x).bytes =
      [0x00#8, x.lastCommand, x.lastResult.code.setWidth 8, if x.reasonStore = true then 0x01#8 else 0x00#8]
        ++ beBytes 1 x.data.handle.slot ++ beBytes 1 x.data.handle.generation ++ beBytes 2 x.data.visit
        ++ [if x.data.validTare = true then 0x01#8 else 0x00#8]
        ++ beBytes 2 x.pendingSet.toNat ++ beBytes 2 x.enabledSet.toNat ++ [flags]
        ++ beBytes 1 ((x.table.map TableId.code).getD 0) ++ beBytes 4 x.index ++ beBytes 4 x.journalCursor
      ∧ (Reply.status x).bytes.length = 23
      ∧ flags.getLsbD 0 = x.busy ∧ flags.getLsbD 1 = x.follow ∧ flags.getLsbD 2 = x.enabled ∧ flags.getLsbD 3 = x.granted

/-- CLEAR NOTICES removes the named kinds from the pending set and SET NOTICE ENABLE replaces the enabled set, of the port
that issues it and answering DONE; a set with a bit outside the fourteen kinds is refused RANGE; the attention output is on
exactly while some kind is both pending and enabled (R171, R172). -/
def Obligations.NoticeSetsAreClearedAndEnabled : Prop :=
  ∀ s p (set : BitVec 16), Takes s p →
    (set &&& 0xC000#16 = 0#16 →
      exec (.clearNotices p set) s = .next (s.modPort p fun x =>
          { x.answered 0x02#8 .done with pendingSet := x.pendingSet &&& ~~~set })
      ∧ exec (.setNoticeEnable p set) s = .next (s.modPort p fun x => { x.answered 0x03#8 .done with enabledSet := set }))
    ∧ (set &&& 0xC000#16 ≠ 0#16 →
      exec (.clearNotices p set) s = .next (s.answer p 0x02#8 .range)
      ∧ exec (.setNoticeEnable p set) s = .next (s.answer p 0x03#8 .range))
    ∧ ((s.port p).attention = true ↔ (s.port p).pendingSet &&& (s.port p).enabledSet ≠ 0#16)

/-- Every code has the type and the counts of the command summary (R178). An exchange whose counts fail framing sets the last
result FRAMING and its command is not taken; outside follow mode a write-type command fails framing exactly when its argument
count is another, WRITE RECORD when that is another than its table's, and a read when its arguments or its reply are clocked
short; in follow mode every exchange but LEAVE FOLLOW's does when fewer than the 78 reply bytes are clocked; a code outside
the summary is answered NO_SUCH (R166, R167, R175, R177), at a disabled and at a busy port too: the model's choice (log 11).
At a framing failure the last reason becomes NONE, and last command and reply data stay: the model's choice (log 10). A READ
RECORD with no table selected has one reply byte, whatever its result (log 45). -/
def Obligations.WrongCountsAndUnknownCodesAreNotTaken : Prop :=
  (∀ code : Byte, formOf code =
    if code ∈ [0x28#8, 0x29#8, 0x51#8, 0x60#8, 0x78#8, 0x7D#8] then .write 0
    else if code ∈ [0x34#8, 0x35#8, 0x36#8, 0x37#8, 0x38#8, 0x61#8, 0x70#8, 0x72#8, 0x74#8, 0x75#8] then .write 1
    else if code ∈ [0x02#8, 0x03#8, 0x40#8, 0x58#8, 0x7C#8] then .write 2
    else if code ∈ [0x32#8, 0x33#8, 0x41#8] then .write 3
    else if code = 0x48#8 then .write 4
    else if code ∈ [0x18#8, 0x49#8, 0x50#8, 0x73#8] then .write 5
    else if code = 0x11#8 then .write 6
    else if code = 0x31#8 then .write 11
    else if code ∈ [0x30#8, 0x71#8] then .write 19
    else if code = 0x1A#8 then .writeRecord
    else if code = 0x01#8 then .read 0 23
    else if code = 0x10#8 then .read 2 5
    else if code = 0x20#8 then .read 1 10
    else if code = 0x2A#8 then .read 0 78
    else if code = 0x19#8 then .readRecord
    else .unknown)
  ∧ (∀ (x : Port) code a k,
    (x.follow = true → (framingWrong x code a k = true ↔ code ≠ 0x29#8 ∧ a + k < 78))
    ∧ (x.follow = false →
      (∀ n m, formOf code = .read n m → (framingWrong x code a k = true ↔ a < n ∨ k < m))
      ∧ (formOf code = .readRecord → x.cursor = none → (framingWrong x code a k = true ↔ k < 1))
      ∧ (∀ t i, formOf code = .readRecord → x.cursor = some (t, i) →
          (framingWrong x code a k = true ↔ k < 1 + t.payload))
      ∧ (formOf code = .writeRecord → (framingWrong x code a k = true ↔
          ∃ t i n, x.cursor = some (t, i) ∧ t.writeLength = some n ∧ a ≠ n))
      ∧ (formOf code = .unknown → framingWrong x code a k = false)))
  ∧ ∀ s p code, s.power = true →
    (∀ a r, framingWrong (s.port p) code a r = true →
      exec (.framingDiscard p code a r) s = .next (s.modPort p fun x =>
        { x with lastResult := .framing, reasonStore := false, reply := none, move := none }))
    ∧ (∀ n a r, (s.port p).follow = false → formOf code = .write n → (framingWrong (s.port p) code a r = true ↔ a ≠ n))
    ∧ ((s.port p).follow = false → formOf code = .unknown →
        exec (.unknownCommand p code) s = .next (s.answer p code .noSuch))

/-- FOLLOW JOURNAL and LEAVE FOLLOW start and end follow mode, LEAVE FOLLOW outside it is answered STATE, and an exchange in
follow mode forms the reply READ JOURNAL would form (R177). A cursor takes the move its read formed when select is released
after the whole reply (R167); without a formed move the row does nothing (log 13). A port shifts out one byte for each byte
clocked in: its status byte, 0x00 over the arguments, the reply of a read or a follow exchange, then 0x00; 0x00 after the
status byte of any other exchange (R166, R167, R177; the state at select forms the reply: log 35). -/
def Obligations.FollowModeStartsReadsAndEnds : Prop :=
  ∀ s p,
    (Serves s p →
      exec (.followJournal p) s = .next (s.modPort p fun x => { x.answered 0x28#8 .done with follow := true })
      ∧ exec (.leaveFollow p) s = .next (s.answer p 0x29#8 .state)
      ∧ exec (.readJournal p) s = .next (s.replied p (.journal .done (journalRead s p).1 (journalRead s p).2.1)
          (some (.journal (journalRead s p).2.2))))
    ∧ (s.power = true → (s.port p).follow = true →
      exec (.leaveFollow p) s = .next (s.modPort p fun x => { x.answered 0x29#8 .done with follow := false })
      ∧ exec (.followExchange p) s = .next (s.replied p (.journal .done (journalRead s p).1 (journalRead s p).2.1)
          (some (.journal (journalRead s p).2.2))))
    ∧ (s.power = true →
      ((s.port p).move = none → exec (.readCursorMove p) s = .next s)
      ∧ (∀ n, (s.port p).move = some (.journal n) →
        exec (.readCursorMove p) s = .next (s.modPort p fun x => { x with journalCursor := n, move := none }))
      ∧ (∀ t i j, (s.port p).move = some (.table j) → (s.port p).cursor = some (t, i) →
        exec (.readCursorMove p) s = .next (s.modPort p fun x => { x with cursor := some (t, j), move := none })))
    ∧ (∀ bytes, (dataOut s p bytes).length = bytes.length)
    ∧ (s.power = true →
      let status := (s.port p).statusByte
      let shifted := fun (r : Reply) (rest : List Byte) => (r.bytes ++ zeros rest.length).take rest.length
      (∀ rest, (s.port p).follow = true → dataOut s p (0x29#8 :: rest) = status :: zeros rest.length)
      ∧ (∀ code rest, (s.port p).follow = true → code ≠ 0x29#8 →
        dataOut s p (code :: rest) = status :: shifted (.journal .done (journalRead s p).1 (journalRead s p).2.1) rest)
      ∧ (∀ code rest, (s.port p).follow = false →
        (∃ n, formOf code = .write n) ∨ formOf code = .writeRecord ∨ formOf code = .unknown →
        dataOut s p (code :: rest) = status :: zeros rest.length)
      ∧ (∀ code n k args rest t r, (s.port p).follow = false → formOf code = .read n k → args.length = n →
        exec (commandOf p code args) s = .next t → (t.port p).reply = some r →
        dataOut s p (code :: (args ++ rest)) = status :: (zeros n ++ shifted r rest))
      ∧ (∀ rest t r, (s.port p).follow = false → exec (.readRecord p) s = .next t → (t.port p).reply = some r →
        dataOut s p (0x19#8 :: rest) = status :: shifted r rest))

/-- A journal read starts at the cursor, or at the oldest retained sequence with the sequence numbers passed over as the lost
count; it gives the first entry from there that the port sees and the cursor after it, or no entry and the cursor after the
last (R138). -/
def Obligations.JournalReadFindsTheFirstSeenEntry : Prop :=
  ∀ s p, JournalOk s → (s.port p).journalCursor ≤ s.journal.last + 1 →
    let start := max (s.port p).journalCursor (oldestRetained s.journal)
    let r := journalRead s p
    r.1 = start - (s.port p).journalCursor
    ∧ (∀ e, r.2.1 = some e → start ≤ e.seq ∧ retainedEntry s.journal e.seq = some e ∧ portSees p e.body = true
        ∧ r.2.2 = e.seq + 1
        ∧ ∀ n x, start ≤ n → n < e.seq → retainedEntry s.journal n = some x → portSees p x.body = false)
    ∧ (r.2.1 = none → r.2.2 = s.journal.last + 1
        ∧ ∀ n x, start ≤ n → retainedEntry s.journal n = some x → portSees p x.body = false)

/-- Who sees which entries; an entry passed over is not lost, and the grant of the counters plays no part (R139). -/
def Obligations.LanePortsSeeTheirOwnEntries : Prop :=
  (∀ b, portSees .office b = true)
  ∧ (∀ l t, portSees (.lane l) (.ticket t) = true ↔ t.lane = l)
  ∧ (∀ l v w k, portSees (.lane l) (.void v w k) = true ↔ k = some l)
  ∧ (∀ l c w, portSees (.lane l) (.calibration c w) = true)
  ∧ (∀ l d w, portSees (.lane l) (.rollover d w) = true)
  ∧ (∀ l r w, portSees (.lane l) (.restart r w) = true)
  ∧ (∀ s p q, (s.port p).journalCursor = (s.port q).journalCursor → (journalRead s p).1 = (journalRead s q).1)
  ∧ ∀ s p b, journalRead (s.modPort p fun x => { x with granted := b }) p = journalRead s p

/-- SELECT TABLE sets the port's cursor, tested NO_SUCH, DENIED, RANGE in that order; READ RECORD shows the record at the
cursor and moves on, from the last index to 0, but for a lane port's LANES; it is refused STATE with no table selected, by
one byte alone, and DENIED when the privilege has gone, by a full reply of zeros after the result, with the cursor kept. A
payload has its table's length, an empty record all zeros, and CATEGORIES the code, the name and the default reserve (R173,
R175, R179; the payload's first byte: log 15; the codes of a name's characters: log 49). The codes, last indices, payload and
write lengths are those of R175's table, and a lane port may read CATEGORIES, LANE_VISIT, LANES at its own index, and
COUNTERS while granted (R173). -/
def Obligations.TablesAreSelectedAndRead : Prop :=
  ([TableId.categories, .accounts, .siteCaps, .counters, .tares, .visits, .laneVisit, .lanes, .templates, .lines, .routes,
      .journal].map (fun t => (t.code, t.lastIndex, t.payload, t.writeLength)) =
    [(1, 7, 18, some 17), (2, 255, 198, some 46), (3, 7, 24, some 5), (4, 7, 18, none), (5, 511, 25, some 16),
      (6, 63, 96, none), (7, 3, 48, none), (8, 3, 64, none), (9, 3, 15, some 15), (10, 95, 35, some 35),
      (11, 31, 6, some 6), (12, 4294967295, 73, none)])
  ∧ (∀ n t, TableId.ofCode? n = some t ↔ t.code = n)
  ∧ (∀ s t i, tablePermitted s .office t i = true)
  ∧ (∀ s l t i, tablePermitted s (.lane l) t i = true ↔ t = .categories ∨ t = .laneVisit ∨ (t = .lanes ∧ i + 1 = l.num)
      ∨ (t = .counters ∧ (s.port (.lane l)).granted = true))
  ∧ (∀ s p, Serves s p →
    (∀ (table : Byte) (index : BitVec 32) t, TableId.ofCode? table.toNat = some t →
      (tablePermitted s p t index.toNat = true → index.toNat ≤ t.lastIndex →
        exec (.selectTable p table index) s =
          .next (s.modPort p fun x => { x.answered 0x18#8 .done with cursor := some (t, index.toNat) }))
      ∧ (tablePermitted s p t index.toNat = false →
        exec (.selectTable p table index) s = .next (s.answer p 0x18#8 .denied))
      ∧ (tablePermitted s p t index.toNat = true → t.lastIndex < index.toNat →
        exec (.selectTable p table index) s = .next (s.answer p 0x18#8 .range)))
    ∧ (∀ (table : Byte) (index : BitVec 32), TableId.ofCode? table.toNat = none →
      exec (.selectTable p table index) s = .next (s.answer p 0x18#8 .noSuch))
    ∧ (∀ t i, (s.port p).cursor = some (t, i) → tablePermitted s p t i = true →
      exec (.readRecord p) s = .next (s.replied p (.record .done (some t) (some (recordView s p t i)))
        (if p ≠ .office ∧ t = .lanes then none else some (.table (if i = t.lastIndex then 0 else i + 1)))))
    ∧ ((s.port p).cursor = none → exec (.readRecord p) s = .next (s.replied p (.record .state none none) none))
    ∧ (∀ t i, (s.port p).cursor = some (t, i) → tablePermitted s p t i = false →
      exec (.readRecord p) s = .next (s.replied p (.record .denied (some t) none) none)))
  ∧ (Reply.record .state none none).bytes = [0x08#8]
  ∧ (∀ t, (Reply.record .denied (some t) none).bytes = 0x04#8 :: zeros t.payload)
  ∧ (∀ t v, (Reply.record .done (some t) (some v)).bytes = 0x00#8 :: recordPayload t v
      ∧ (recordPayload t v).length = t.payload ∧ (v.isEmpty = true → recordPayload t v = zeros t.payload))
  ∧ ∀ code (c : Category), recordPayload .categories (.category code (some c)) =
      0x01#8 :: (beBytes 1 code ++ padTo 12 c.name ++ beBytes 4 c.reserve)

/-- READ PARAMETER returns the present value of the parameter its code and instance name, NO_SUCH where they name none
(R174), and READ WEIGHT the live weight record of a deck, NO_SUCH outside 1 to 4 (R16). -/
def Obligations.ParametersAndWeightsAreRead : Prop :=
  ∀ s p, Serves s p →
    (∀ code inst q, paramOf code inst = some q →
      exec (.readParameter p code inst) s = .next (s.replied p (.parameter .done (q.value s)) none))
    ∧ (∀ code inst, paramOf code inst = none →
      exec (.readParameter p code inst) s = .next (s.replied p (.parameter .noSuch 0) none))
    ∧ (∀ (b : Byte) d, Idx.ofNat? b.toNat = some d →
      exec (.readWeight p b) s = .next (s.replied p (.weight .done (some
        { deck := d.num, phase := (s.deck d).phase, gross := (s.deck d).gross, valid := (s.deck d).valid,
          stable := (s.deck d).stable, occupied := (s.deck d).occupied, overload := (s.deck d).overload,
          underload := (s.deck d).underload, centre := (s.deck d).centre,
          calibrating := decide ((s.deck d).phase = DeckPhase.calibrating),
          uncalibrated := decide (s.cal.stored.get d = CalRecord.coldDefault), audit := s.cal.audit })) none))
    ∧ (∀ b : Byte, Idx.ofNat? b.toNat = none →
      exec (.readWeight p b) s = .next (s.replied p (.weight .noSuch none) none))

/-! ### Parameters -/

/-- An accepted WRITE PARAMETER answers DONE, reads back as written, and leaves every other writable parameter as it was
(R174). -/
def Obligations.WrittenParametersReadBack : Prop :=
  ∀ s code inst (v : BitVec 32) q, Takes s .office → paramOf code inst = some q → q.refusal v.toNat = none →
    ∃ t, exec (.writeParameter .office code inst v) s = .next t ∧ Answered t .office 0x11#8 .done
      ∧ q.value t = v.toNat
      ∧ (∀ r : Param, r.access ≠ .readOnly → r ≠ q → r.value t = r.value s)
      ∧ KeepsAllBut [.decks, .visits, .tares, .lanes, .routes, .ports, .clock] s t

/-- The tests of WRITE PARAMETER in their order: NO_SUCH, DENIED for a read-only parameter, RANGE for a numeric value outside
its range, HELD for an enumerated value that is none of its numbers; a refused write changes nothing (R174). -/
def Obligations.RefusedParameterWritesChangeNothing : Prop :=
  ∀ s code inst (v : BitVec 32), Takes s .office →
    (paramOf code inst = none → exec (.writeParameter .office code inst v) s = .next (s.answer .office 0x11#8 .noSuch))
    ∧ ∀ q, paramOf code inst = some q →
      (q.access = .readOnly → exec (.writeParameter .office code inst v) s = .next (s.answer .office 0x11#8 .denied))
      ∧ (∀ lo hi, q.access = .numeric lo hi → v.toNat < lo ∨ hi < v.toNat →
        exec (.writeParameter .office code inst v) s = .next (s.answer .office 0x11#8 .range))
      ∧ (∀ hi, q.access = .enumerated hi → hi < v.toNat →
        exec (.writeParameter .office code inst v) s = .next (s.answer .office 0x11#8 .held))

/-- A write of the lane mode to its present value changes nothing; any other takes the new mode and restarts the sequencer
in it, CLOSED and MANUAL with a red light, no pass timer, no released visit and the passage disarmed, AUTO, with no capture
to end, by settling (R96, R112, R113); queue, visits and parameters stay. A write of the lane port enable disables or
enables the port, which leaves follow mode when disabled (R173, R177). -/
def Obligations.LaneModeAndPortEnableAreWritten : Prop :=
  ∀ s (inst : Byte) (v : BitVec 32) l, Takes s .office → Idx.ofNat? inst.toNat = some l →
    ((s.lane l).params.mode.number = v.toNat →
      exec (.writeLaneMode .office inst v) s = .next (s.answer .office 0x11#8 .done))
    ∧ (∀ m : LaneMode, m.number = v.toNat → (s.lane l).params.mode ≠ m →
      ∃ t, exec (.writeLaneMode .office inst v) s = .next t
        ∧ SameOutsideYard ((s.modParams l fun x => { x with mode := m }).answer .office 0x11#8 .done) t
        ∧ (m = .closed → (t.lane l).seqr.state = .closed) ∧ (m = .manual → (t.lane l).seqr.state = .manual)
        ∧ (m ≠ .auto → (t.lane l).seqr.light = .red ∧ (t.lane l).seqr.passTimer.deadline = none
            ∧ (t.lane l).seqr.released = none ∧ (t.lane l).seqr.passageArmed = false
            ∧ (t.lane l).seqr.raiseWait = false)
        ∧ (m = .auto → (s.deck l).capture = none →
            (t.lane l).seqr.state = ((settle l ((s.modParams l fun x => { x with mode := m }).modSeq l fun q =>
              { q with passTimer := .stopped, unannounced := .stopped, passageArmed := false, released := none,
                       raiseWait := false })).lane l).seqr.state))
    ∧ (v.toNat ≤ 1 →
      exec (.writeLanePortEnable .office inst v) s =
        .next ((s.modPort (.lane l) fun x =>
          { x with enabled := decide (v.toNat = 1), follow := x.follow && decide (v.toNat = 1) }).answer .office 0x11#8 .done))

/-! ### Tables -/

/-- WRITE RECORD without a table is refused STATE, to a table with no write length DENIED, and of another length than the
table's it fails framing (what stays then: log 10); what its bytes spell (widths: log 15) is the write of the table's owner
with its fields spelled out; a 16-byte write to TARES that begins with 1 deletes the record and moves the cursor on (R72,
R167, R175, R176). -/
def Obligations.WriteRecordIsTestedAndHandedOver : Prop :=
  ∀ s (args : List Byte), Takes s .office →
    ((s.port .office).cursor = none → exec (.writeRecord .office args) s = .next (s.answer .office 0x1A#8 .state))
    ∧ ∀ t i, (s.port .office).cursor = some (t, i) →
      (t.writeLength = none → exec (.writeRecord .office args) s = .next (s.answer .office 0x1A#8 .denied))
      ∧ (∀ n, t.writeLength = some n → args.length ≠ n →
        exec (.writeRecord .office args) s = .next (s.modPort .office fun x =>
          { x with lastResult := .framing, reasonStore := false, reply := none, move := none }))
      ∧ (∀ w, t.writeLength = some args.length → tableWriteOf t args = some w →
        exec (.writeRecord .office args) s = writeTable .office t w s)
      ∧ (∀ rest, t = .tares → args = 1#8 :: rest → rest.length = 15 →
        exec (.writeRecord .office args) s =
          .next ((s.setTares { s.tares with entries := Table.erase s.tares.entries i }).wrote .tares i .done))

/-- A category is stored when its name and reserve are legal and removed when no account row, no open visit and no site cap
uses it; otherwise RANGE and STATE, and nothing changes but the answer and the cursor (R77; the codes of a name's characters:
log 49). -/
def Obligations.CategoriesAreStoredAndRemoved : Prop :=
  ∀ s i, Takes s .office → (s.port .office).cursor = some (.categories, i) →
    (∀ (name : Text) (reserve : BitVec 32),
      (legalName name = true → reserve.toNat ≤ 150000 →
        exec (.writeCategory .office name reserve) s =
          .next ((s.setAllow { s.allow with categories :=
                                Table.insert s.allow.categories (i + 1) { name := name, reserve := reserve.toNat } }).wrote
            .categories i .done))
      ∧ (legalName name = false ∨ 150000 < reserve.toNat →
        exec (.writeCategory .office name reserve) s = .next (s.wrote .categories i .range)))
    ∧ (let used := (∃ p ∈ s.allow.accounts, ∃ r ∈ p.2.rows, r.category = i + 1)
          ∨ (∃ p ∈ s.visits.records, p.2.category = i + 1) ∨ (Table.find s.allow.caps (i + 1)).isSome = true
      (¬ used → exec (.removeCategory .office) s =
          .next ((s.setAllow { s.allow with categories := Table.erase s.allow.categories (i + 1) }).wrote
            .categories i .done))
      ∧ (used → exec (.removeCategory .office) s = .next (s.wrote .categories i .state)))

/-- An account write is tested in R85's order: a field out of its range is refused RANGE, a row of a category that does not
exist NO_SUCH, and STATE a number held at another index, a number that open visits of the old account would lose, or a row
left out that is held against or that a weighed-in delivery will be settled to; a refused write changes nothing but the
answer and the cursor. Otherwise the account is stored with the rows it carries: each row has the allowance written, D and H
as the same account's row for that category had them and 0 where there was none, and the mark recomputed; the events of a new
mark reach nothing else (R79, R85, R86). -/
def Obligations.AccountsAreStoredKeepingDebitsAndHolds : Prop :=
  ∀ s i (w : AccountWrite), Takes s .office → (s.port .office).cursor = some (.accounts, i) →
    let legal : Prop := w.number.toNat ≠ 0 ∧ w.status ≠ none ∧ w.rows.length ≤ 8 ∧ (w.rows.map Prod.fst).Nodup
      ∧ ∀ r ∈ w.rows, 1 ≤ r.1.toNat ∧ r.1.toNat ≤ 8 ∧ r.2.toNat ≤ 4000000000
    let known : Prop := ∀ r ∈ w.rows, (Table.find s.allow.categories r.1.toNat).isSome = true
    let needed := fun (a : Account) (r : AllowanceRow) => 0 < r.amounts.held ∨ ∃ p ∈ s.visits.records,
      p.2.account = a.number ∧ p.2.category = r.category ∧ p.2.kind = .delivery ∧ p.2.state ≠ .announced
        ∧ p.2.state ≠ .refused
    let blocked : Prop := (∃ p ∈ s.allow.accounts, p.1 ≠ i ∧ p.2.number = w.number.toNat)
      ∨ ∃ a, Table.find s.allow.accounts i = some a
        ∧ ((a.number ≠ w.number.toNat ∧ ∃ p ∈ s.visits.records, p.2.account = a.number)
          ∨ (a.number = w.number.toNat ∧ ∃ r ∈ a.rows, (∀ x ∈ w.rows, x.1.toNat ≠ r.category) ∧ needed a r))
    (¬ legal → exec (.writeAccount .office w) s = .next (s.wrote .accounts i .range))
    ∧ (legal → ¬ known → exec (.writeAccount .office w) s = .next (s.wrote .accounts i .noSuch))
    ∧ (legal → known → blocked → exec (.writeAccount .office w) s = .next (s.wrote .accounts i .state))
    ∧ (legal → known → ¬ blocked → ∀ st, w.status = some st →
      ∃ t rows, exec (.writeAccount .office w) s = .next t
        ∧ (let a : Account := { number := w.number.toNat, status := st, keepTares := w.keepTares,
                                storedTareAllowed := w.storedTareAllowed, rows := rows }
           SameOutsideRoutes ((s.setAllow { s.allow with accounts := Table.insert s.allow.accounts i a }).wrote
             .accounts i .done) t)
        ∧ rows.map (fun r => (r.category, r.amounts.allow)) = w.rows.map (fun r => (r.1.toNat, r.2.toNat))
        ∧ ∀ r ∈ rows, r.amounts.overrun = decide (r.amounts.free < 0)
          ∧ ((∃ a o, Table.find s.allow.accounts i = some a ∧ a.number = w.number.toNat ∧ a.row r.category = some o
                ∧ r.amounts.debited = o.amounts.debited ∧ r.amounts.held = o.amounts.held)
            ∨ ((∀ a, Table.find s.allow.accounts i = some a → a.number = w.number.toNat → a.row r.category = none)
                ∧ r.amounts.debited = 0 ∧ r.amounts.held = 0)))

/-- A delete in ACCOUNTS empties the record, its rows with it, unless an open visit carries its number, when it is refused
STATE; of an empty record it changes nothing; a number that no record holds may be written at any empty index and starts with
fresh rows (R87). A cap above 4 000 000 000 is refused RANGE and one of a category that does not exist NO_SUCH; otherwise the
row is stored with D and H kept and the mark recomputed, and event OVERRUN is raised where the mark is new. A row is emptied
unless it is held against or an open delivery of its category has been weighed in, when it is refused STATE (R79, R88). -/
def Obligations.AccountsDeletedAndCapsWritten : Prop :=
  ∀ s i, Takes s .office →
    ((s.port .office).cursor = some (.accounts, i) →
      (Table.find s.allow.accounts i = none → exec (.deleteAccount .office) s = .next (s.wrote .accounts i .done))
      ∧ (∀ a, Table.find s.allow.accounts i = some a →
        ((∀ p ∈ s.visits.records, p.2.account ≠ a.number) → exec (.deleteAccount .office) s =
          .next ((s.setAllow { s.allow with accounts := Table.erase s.allow.accounts i }).wrote .accounts i .done))
        ∧ ((∃ p ∈ s.visits.records, p.2.account = a.number) →
          exec (.deleteAccount .office) s = .next (s.wrote .accounts i .state)))
      ∧ ∀ (w : AccountWrite) st, Table.find s.allow.accounts i = none →
        (∀ p ∈ s.allow.accounts, p.2.number ≠ w.number.toNat) → w.status = some st → accountLegal w = true →
        (∀ r ∈ w.rows, (Table.find s.allow.categories r.1.toNat).isSome = true) →
        let rows : List AllowanceRow := w.rows.map fun r =>
          { category := r.1.toNat, amounts := { allow := r.2.toNat, debited := 0, held := 0, overrun := false } }
        let fresh : Account := { number := w.number.toNat, status := st, keepTares := w.keepTares,
                                 storedTareAllowed := w.storedTareAllowed, rows := rows }
        exec (.writeAccount .office w) s = .next
          ((s.setAllow { s.allow with accounts := Table.insert s.allow.accounts i fresh }).wrote .accounts i .done))
    ∧ ((s.port .office).cursor = some (.siteCaps, i) →
      (∀ cap : BitVec 32, cap.toNat ≤ 4000000000 → (Table.find s.allow.categories (i + 1)).isSome = true →
        let old := (Table.find s.allow.caps (i + 1)).getD { allow := 0, debited := 0, held := 0, overrun := false }
        let row : Amounts := { allow := cap.toNat, debited := old.debited, held := old.held,
                               overrun := decide ((cap.toNat : Int) - old.debited - old.held < 0) }
        let held := (beginExchange .office s).setAllow { s.allow with caps := Table.insert s.allow.caps (i + 1) row }
        ∃ t, exec (.writeSiteCap .office cap) s = .next t
          ∧ SameOutsideRoutes ((s.setAllow { s.allow with caps := Table.insert s.allow.caps (i + 1) row }).wrote
              .siteCaps i .done) t
          ∧ t = (if row.overrun = true ∧ old.overrun = false then raiseEvent .overrun none held else held).wrote
              .siteCaps i .done)
      ∧ (∀ cap : BitVec 32, 4000000000 < cap.toNat →
        exec (.writeSiteCap .office cap) s = .next (s.wrote .siteCaps i .range))
      ∧ (∀ cap : BitVec 32, cap.toNat ≤ 4000000000 → Table.find s.allow.categories (i + 1) = none →
        exec (.writeSiteCap .office cap) s = .next (s.wrote .siteCaps i .noSuch))
      ∧ (let needed := (∃ a, Table.find s.allow.caps (i + 1) = some a ∧ 0 < a.held)
          ∨ ∃ p ∈ s.visits.records, p.2.category = i + 1 ∧ p.2.kind = .delivery ∧ p.2.state ≠ .announced
              ∧ p.2.state ≠ .refused
        (¬ needed → exec (.emptySiteCap .office) s =
          .next ((s.setAllow { s.allow with caps := Table.erase s.allow.caps (i + 1) }).wrote .siteCaps i .done))
        ∧ (needed → exec (.emptySiteCap .office) s = .next (s.wrote .siteCaps i .state))))

/-- A manual tare is stored with the clock's time while the clock is set and no other entry holds the vehicle, and refused
STATE otherwise; a delete empties its entry (R72). An entry is valid while its age in days, modulo 65 536, is below a validity
above 0 (R68); the information query answers so, and the lookup hands out a valid entry's tare and manual mark and counts the
use, and of another vehicle or an expired entry hands out nothing and counts none (R67, R69). A ticket keeps the weighed empty
weight of a visit with tare source WEIGHED, an account with keep-tares and no NEGATIVE_NET (R70), placed by the first case of
five: a manual entry stays, the vehicle's own entry, the lowest free one or the oldest weighed one takes it, and with every
entry manual only notice VISIT is raised at the office port (R71). -/
def Obligations.ManualTaresAreStoredAndDeleted : Prop :=
  (∀ s i, Takes s .office → (s.port .office).cursor = some (.tares, i) →
    (∀ (vehicle : List Byte) v (tare : BitVec 32) (deck : Byte), vehicleOf vehicle = some v → 1 ≤ tare.toNat →
      tare.toNat ≤ 150000 → deck.toNat ≤ 4 →
      (s.clock.isSet = true → (∀ p ∈ s.tares.entries, p.2.vehicle = v → p.1 = i) →
        let entry : TareEntry := { vehicle := v, tare := tare.toNat, deck := deck.toNat,
                                   taken := { day := s.clock.day, second := s.clock.second }, manual := true, uses := 0 }
        exec (.writeTare .office vehicle tare deck) s =
          .next ((s.setTares { s.tares with entries := Table.insert s.tares.entries i entry }).wrote .tares i .done))
      ∧ (s.clock.isSet = false ∨ (∃ p ∈ s.tares.entries, p.2.vehicle = v ∧ p.1 ≠ i) →
        exec (.writeTare .office vehicle tare deck) s = .next (s.wrote .tares i .state)))
    ∧ exec (.deleteTare .office) s =
        .next ((s.setTares { s.tares with entries := Table.erase s.tares.entries i }).wrote .tares i .done))
  ∧ (∀ (s : State) (e : TareEntry), tareValid s e = true ↔
      0 < s.tares.validity ∧ (s.clock.day + 65536 - e.taken.day) % 65536 < s.tares.validity)
  ∧ (∀ s v,
      (∀ i e, tareEntryOf s v = some (i, e) → (i, e) ∈ s.tares.entries ∧ e.vehicle = v ∧ tareKnown s v = tareValid s e
        ∧ (tareValid s e = true → tareLookup v s = (some (e.tare, e.manual),
            s.setTares { s.tares with
              entries := Table.insert s.tares.entries i { e with uses := min 65535 (e.uses + 1) } }))
        ∧ (tareValid s e = false → tareLookup v s = (none, s)))
      ∧ (tareEntryOf s v = none ↔ ∀ p ∈ s.tares.entries, p.2.vehicle ≠ v)
      ∧ (tareEntryOf s v = none → tareKnown s v = false ∧ tareLookup v s = (none, s)))
  ∧ (∀ s (v : Visit),
      (∀ a, findAccount s v.account = some a → v.tareSource = .weighed → a.keepTares = true → v.negativeNet = false →
        ∀ w, (if v.kind = .delivery then v.second else v.first) = some w → keepTare v s = placeTare v.vehicle w s)
      ∧ (v.tareSource ≠ .weighed ∨ v.negativeNet = true
          ∨ (∀ a, findAccount s v.account = some a → a.keepTares = false) → keepTare v s = s))
  ∧ ∀ s v (w : CapturedWeight), Table.rising s.tares.entries = true →
    let entry : TareEntry :=
      { vehicle := v, tare := w.weight.toNat, deck := w.deck.num, taken := w.time, manual := false, uses := 0 }
    let stored := fun j => s.setTares { s.tares with entries := Table.insert s.tares.entries j entry }
    (∀ i e, tareEntryOf s v = some (i, e) → placeTare v w s = if e.manual = true then s else stored i)
    ∧ (∀ j, tareEntryOf s v = none → Table.lowestFree s.tares.entries 512 = some j → placeTare v w s = stored j)
    ∧ (∀ j e, tareEntryOf s v = none → Table.lowestFree s.tares.entries 512 = none → (j, e) ∈ s.tares.entries →
      e.manual = false →
      (∀ q ∈ s.tares.entries, q.2.manual = false → e.taken.day < q.2.taken.day
        ∨ (e.taken.day = q.2.taken.day ∧ (e.taken.second < q.2.taken.second
          ∨ (e.taken.second = q.2.taken.second ∧ j ≤ q.1)))) → placeTare v w s = stored j)
    ∧ (tareEntryOf s v = none → Table.lowestFree s.tares.entries 512 = none →
      (∀ q ∈ s.tares.entries, q.2.manual = true) → placeTare v w s = raiseNotice .visit .office s)

/-- Templates and lines are stored, and templates emptied, while no started job uses them, and refused BUSY otherwise (R142
to R144; the codes of a name's and a literal's characters: log 49). -/
def Obligations.TemplatesAndLinesAreStored : Prop :=
  ∀ s i, Takes s .office →
    ((s.port .office).cursor = some (.templates, i) →
      (∀ (name : Text) (head : Byte), legalName name = true → head.toNat ≤ 254 →
        (inUseOf s i = 0 →
          let table := Table.insert s.templates.templates i { name := name, head := head.toNat }
          exec (.writeTemplate .office name head) s =
            .next ((s.setTemplates { s.templates with templates := table }).wrote .templates i .done))
        ∧ (0 < inUseOf s i → exec (.writeTemplate .office name head) s = .next (s.wrote .templates i .busy)))
      ∧ (inUseOf s i = 0 → exec (.emptyTemplate .office) s =
          .next ((s.setTemplates { s.templates with templates := Table.erase s.templates.templates i }).wrote
            .templates i .done))
      ∧ (0 < inUseOf s i → exec (.emptyTemplate .office) s = .next (s.wrote .templates i .busy)))
    ∧ ((s.port .office).cursor = some (.lines, i) →
      ∀ (w : LineWrite) r, lineOf w = some r →
        (lineInUse s i = false → ∃ t, exec (.writeLine .office w) s = .next t
          ∧ t = (s.setTemplates { s.templates with lines := t.templates.lines }).wrote .lines i .done
          ∧ ∀ k, Table.getD t.templates.lines LineRecord.cold k =
              if k = i then r else Table.getD s.templates.lines LineRecord.cold k)
        ∧ (lineInUse s i = true → exec (.writeLine .office w) s = .next (s.wrote .lines i .busy)))

/-- A route is stored, its last outcome NONE, when its event index and task index fit their kinds, and refused RANGE
otherwise; the other routes stay (R157, R162). In the bytes of a ROUTES write the task index and the event index are their own
bytes, but for the one byte outside 1 to 8 that stands for ANY (R175, R179; that byte and the other codes: log 15). An event
fires every enabled route of its kind and of its index or ANY, in rising order of record index: the task is handed on and the
last outcome becomes TAKEN or REFUSED, and a route that does not match keeps its own (R157, R158). Output tasks set, clear or
pulse their output and are always taken (R159). A light task sets the light in MANUAL and CLOSED, ends a wait for UP in MANUAL
and is refused in AUTO; a barrier task moves the arm in MANUAL out of FAULT and is refused elsewhere (R160). START_CAPTURE is
refused unless the lane is in AUTO, its sequencer in OCCUPIED and its head capturable, and is then the deck's to refuse, with
NOT_STARTED and the deck's code in the lane report, or to take; NOTICE raises ROUTE at its port and is always taken (R161; a
kept head that has left the queue: log 39; deadlines from whole seconds: log 2; expiries that wait: log 51). -/
def Obligations.RoutesAreStored : Prop :=
  (∀ enabled event index task taskIndex : Byte,
    tableWriteOf .routes [0#8, enabled, event, index, task, taskIndex] = some (.route
      { enabled := Config.flagOf enabled, event := Config.eventKindOf event, eventIndex := eventIndexOf index,
        task := Config.taskKindOf task, taskIndex := taskIndex }))
  ∧ (∃ any : Byte, (any.toNat < 1 ∨ 8 < any.toNat) ∧ eventIndexOf any = none ∧ ∀ b, b ≠ any → eventIndexOf b = some b)
  ∧ (∀ s i (w : RouteWrite) e k, Takes s .office → (s.port .office).cursor = some (.routes, i) → w.event = some e →
    w.task = some k →
    (legalEventIndex e w.eventIndex = true → legalTaskIndex k w.taskIndex.toNat = true →
      ∃ t, exec (.writeRoute .office w) s = .next t
        ∧ t = (s.setRoutes { s.routes with routes := t.routes.routes }).wrote .routes i .done
        ∧ ∀ j, Table.getD t.routes.routes Route.cold j =
            if j = i then
              { enabled := w.enabled, event := e, eventIndex := w.eventIndex.map (·.toNat), task := k,
                taskIndex := w.taskIndex.toNat, outcome := .none }
            else Table.getD s.routes.routes Route.cold j)
    ∧ (legalEventIndex e w.eventIndex = false ∨ legalTaskIndex k w.taskIndex.toNat = false →
      exec (.writeRoute .office w) s = .next (s.wrote .routes i .range)))
  ∧ (∀ s k idx,
    raiseEvent k idx s = (s.routes.routes.filter fun p => decide (p.2.Matches k idx)).foldl (fun u p =>
      let a := takeTask p.2.task p.2.taskIndex u
      a.2.setRoutes { a.2.routes with routes := a.2.routes.routes.map fun q =>
        if q.1 = p.1 then (q.1, { q.2 with outcome := if a.1 = true then .taken else .refused }) else q }) s
    ∧ (TablesOk s → ∀ i r, Table.find s.routes.routes i = some r →
        ∃ o, Table.find (raiseEvent k idx s).routes.routes i = some { r with outcome := o }
          ∧ (r.Matches k idx → o = .taken ∨ o = .refused) ∧ (¬ r.Matches k idx → o = r.outcome)))
  ∧ (∀ s n, 1 ≤ n → n ≤ 8 →
    let pulse := fun (o : Output) d => o.pulseTimer.brought s (.outputPulseExpiry n) d
    takeTask .outputSet n s = (true, s.modOutput n fun o => { o with on := true, pulseTimer := pulse o none })
    ∧ takeTask .outputClear n s = (true, s.modOutput n fun o => { o with on := false, pulseTimer := pulse o none })
    ∧ takeTask .outputPulse n s = (true, s.modOutput n fun o =>
        { o with on := true, pulseTimer := pulse o (some (s.clock.mono * 1000 + o.pulseLength)) }))
  ∧ (∀ s (l : Lane),
    let u := s.lane l
    let started := fun x : Barrier => { x with
      pendingLower := false
      travelTimer := x.travelTimer.brought s (.travelTimeout l) (some (s.clock.mono * 1000 + u.params.travelTimeout * 1000)) }
    (u.params.mode = .auto → takeTask .lightRed l.num s = (false, s) ∧ takeTask .lightGreen l.num s = (false, s))
    ∧ (u.params.mode ≠ .auto →
      let lit := fun light => s.modSeq l fun q =>
        { q with light := light, raiseWait := decide (u.params.mode = .closed) && q.raiseWait }
      takeTask .lightRed l.num s = (true, lit .red) ∧ takeTask .lightGreen l.num s = (true, lit .green))
    ∧ (u.params.mode ≠ .manual ∨ u.barrier.state = .fault →
      takeTask .barrierRaise l.num s = (false, s) ∧ takeTask .barrierLower l.num s = (false, s))
    ∧ (u.params.mode = .manual → u.barrier.state ≠ .fault →
      takeTask .barrierRaise l.num s = (true, s.modBarrier l fun x =>
        if x.state = .down ∨ x.state = .lowering then { started x with state := .raising }
        else { x with pendingLower := false })
      ∧ takeTask .barrierLower l.num s = (true, s.modBarrier l fun x =>
        if x.state = .raising ∨ x.state = .up then
          if u.sensors.loopOccupied = true then { x with pendingLower := true } else { started x with state := .lowering }
        else x)))
  ∧ (∀ s (l : Lane),
    let tested := fun n => (s.lane l).params.mode = .auto ∧ (s.lane l).seqr.state = .occupied ∧ isHead s l n = true
      ∧ ((s.lane l).seqr.head = some (n, .announced) ∨ (s.lane l).seqr.head = some (n, .attached))
    let unready := (s.deck l).capture.isSome = true ∨ (s.deck l).phase = .fault ∨ (s.deck l).phase = .calibrating
      ∨ s.cal.stored.get l = CalRecord.coldDefault
    let outside := (s.deck l).overload = true ∨ (s.deck l).underload = true
    let refusal := fun code => s.modReport l fun r => { r with lastCapture := .notStarted code }
    ((∀ n, ¬ tested n) → takeTask .startCapture l.num s = (false, s))
    ∧ ∀ n, tested n →
      (unready → takeTask .startCapture l.num s = (false, refusal .state))
      ∧ (¬ unready → outside → takeTask .startCapture l.num s = (false, refusal .range))
      ∧ (¬ unready → ¬ outside → takeTask .startCapture l.num s = (true, (s.modDeck l fun d =>
          { d with capture := some { visit := n, deadline := s.clock.mono * 1000 + d.captureTimeout * 1000 } }).modSeq l
            fun q => { q with state := .capturing })))
  ∧ ∀ s, takeTask .notice 0 s = (true, s.modPort .office fun x => { x with pendingSet := x.pendingSet ||| 0x1000#16 })
    ∧ ∀ l : Lane, takeTask .notice l.num s =
        (true, s.modPort (.lane l) fun x => { x with pendingSet := x.pendingSet ||| 0x1000#16 })

/-! ### Lane commands -/

/-- An accepted ANNOUNCE makes a visit in ANNOUNCED in the lowest free entry, with the next free number, at the tail of the
lane's queue in a free slot; its handle, number and valid-tare answer are the reply data; every other visit, queue and port
stays, and of the rest what the sequencer makes of a new head alone may move: captures, sequencer, barrier and report of that
lane (R43, R44, R46, R49, R168). It is refused in R49's order and then creates nothing: RANGE for a malformed vehicle id, an
account number 0, a category outside 1 to 8, another kind or a payload above 150 000; STATE in CLOSED, at an outbound lane,
with the clock not set or the vehicle's visit open; NO_SUCH for an account or a category that is not there; FULL with 64
visits open or four in the queue. An office lane byte outside 1 to 4 is NO_SUCH before these (R48; the order: log 41). A
vehicle id is 1 to 10 of A to Z and 0 to 9 with 0x00 bytes after them (R179). -/
def Obligations.AnnounceMakesAVisit : Prop :=
  (∀ bytes v, vehicleOf bytes = some v ↔ (∃ k, bytes = v ++ zeros k) ∧ 1 ≤ v.length ∧ v.length ≤ 10
    ∧ ∀ c ∈ v, (65 ≤ c.toNat ∧ c.toNat ≤ 90) ∨ (48 ≤ c.toNat ∧ c.toNat ≤ 57))
  ∧ (∀ s p (b : Byte) (vehicle : List Byte) (account : BitVec 16) (category kind : Byte) (payload : BitVec 32), Takes s p →
    laneBytePermitted p b = true →
    let refused := fun r => exec (.announce p b vehicle account category kind payload) s = .next (s.answer p 0x30#8 r)
    let malformed := vehicleOf vehicle = none ∨ account.toNat = 0 ∨ category.toNat < 1 ∨ 8 < category.toNat
      ∨ (kind.toNat ≠ 1 ∧ kind.toNat ≠ 2) ∨ 150000 < payload.toNat
    (laneOf p b = none → refused .noSuch)
    ∧ ∀ l, laneOf p b = some l →
      (malformed → refused .range)
      ∧ ∀ v, vehicleOf vehicle = some v → ¬ malformed →
        let barred := (s.lane l).params.mode = .closed ∨ (s.lane l).params.direction = .outbound ∨ s.clock.isSet = false
          ∨ ∃ q ∈ s.visits.records, q.2.vehicle = v
        let unlisted := (∀ q ∈ s.allow.accounts, q.2.number ≠ account.toNat)
          ∨ Table.find s.allow.categories category.toNat = none
        let full := (∀ e, e < 64 → Table.find s.visits.records e ≠ none) ∨ 4 ≤ (queueOf s l).length
        (barred → refused .state) ∧ (¬ barred → unlisted → refused .noSuch)
        ∧ (¬ barred → ¬ unlisted → full → refused .full)
        ∧ (¬ barred → ¬ unlisted → ¬ full →
          ∃ a, announcementOf vehicle account category kind payload = some a ∧ announceRefusal s l a = none
            ∧ a.vehicle = v ∧ a.account = account.toNat ∧ a.category = category.toNat
            ∧ a.kind = (if kind.toNat = 1 then .delivery else .collection) ∧ a.payload = payload.toNat))
  ∧ ∀ s p (b : Byte) l (vehicle : List Byte) (account : BitVec 16) (category kind : Byte) (payload : BitVec 32) a,
    VisitsOk s → Takes s p → laneBytePermitted p b = true → laneOf p b = some l →
    announcementOf vehicle account category kind payload = some a → announceRefusal s l a = none →
    ∃ t v entry slot, exec (.announce p b vehicle account category kind payload) s = .next t
      ∧ Table.lowestFree s.visits.records 64 = some entry
      ∧ v.number = takenNumber s ∧ findVisit s v.number = none ∧ v.vehicle = a.vehicle ∧ v.account = a.account
      ∧ v.category = a.category ∧ v.kind = a.kind ∧ v.payload = a.payload ∧ v.state = .announced ∧ v.first = none
      ∧ v.second = none ∧ v.net = none ∧ v.reserve = 0 ∧ v.ticket = none ∧ v.reason = none ∧ v.announceLane = l
      ∧ v.announceTime = { day := s.clock.day, second := s.clock.second } ∧ v.announceSecond = s.clock.mono
      ∧ v.place = some { lane := l, slot := slot, pass := .entry } ∧ freeSlot (queueOf s l) = some slot
      ∧ t.visits.records = Table.insert s.visits.records entry v
      ∧ t.visits.next = (if v.number = 65535 then 1 else v.number + 1)
      ∧ queueOf t l = queueOf s l ++ [(slot, v.number)] ∧ (∀ k, k ≠ l → queueOf t k = queueOf s k)
      ∧ (t.port p).lastResult = .done ∧ (t.port p).lastCommand = 0x30#8
      ∧ (t.port p).data = { handle := { slot := slot.num, generation := (s.visits.queues.get l).generations.get slot },
                            visit := v.number, validTare := tareKnown s a.vehicle }
      ∧ (∀ q, q ≠ p → t.port q = s.port q)
      ∧ SameOutsideYard ((s.setVisits t.visits).modPort p fun x =>
          { x.answered 0x30#8 .done with data := (t.port p).data }) t
      ∧ KeepsAllBut [.visits, .decks, .lanes, .ports] s t ∧ ∀ k, k ≠ l → t.lane k = s.lane k ∧ t.deck k = s.deck k

/-- An accepted ATTACH puts the vehicle's visit at the tail of the lane's queue with pass kind EXIT; a FIRST_WEIGHED visit
becomes ATTACHED and a TICKETED_ON_SITE one keeps its state (R46, R50). It is refused in R50's order and then changes nothing:
RANGE for a malformed vehicle id, STATE in CLOSED and at an inbound lane, NO_SUCH with no open visit of the vehicle, STATE for
a visit in another state or at a lane, FULL with four in the queue. An office lane byte outside 1 to 4 is NO_SUCH before these
(R48; the order: log 41). -/
def Obligations.AttachQueuesAVisitForItsExit : Prop :=
  (∀ s p (b : Byte) (vehicle : List Byte), Takes s p → laneBytePermitted p b = true →
    let refused := fun r => exec (.attach p b vehicle) s = .next (s.answer p 0x31#8 r)
    (laneOf p b = none → refused .noSuch)
    ∧ ∀ l, laneOf p b = some l →
      let barred := (s.lane l).params.mode = .closed ∨ (s.lane l).params.direction = .inbound
      (vehicleOf vehicle = none → refused .range)
      ∧ ∀ txt, vehicleOf vehicle = some txt →
        (barred → refused .state)
        ∧ (¬ barred → (∀ q ∈ s.visits.records, q.2.vehicle ≠ txt) → refused .noSuch)
        ∧ ∀ v, findVehicle s txt = some v → ¬ barred →
          let unfit := (v.state ≠ .firstWeighed ∧ v.state ≠ .ticketedOnSite) ∨ v.place ≠ none
          (unfit → refused .state) ∧ (¬ unfit → 4 ≤ (queueOf s l).length → refused .full))
  ∧ ∀ s p (b : Byte) l (vehicle : List Byte) txt v, VisitsOk s → Takes s p → laneBytePermitted p b = true →
    laneOf p b = some l → vehicleOf vehicle = some txt → (s.lane l).params.mode ≠ .closed →
    (s.lane l).params.direction ≠ .inbound → findVehicle s txt = some v →
    v.state = .firstWeighed ∨ v.state = .ticketedOnSite → v.place = none → (queueOf s l).length < 4 →
    ∃ t slot, exec (.attach p b vehicle) s = .next t ∧ freeSlot (queueOf s l) = some slot
      ∧ findVisit t v.number = some { v with
          state := if v.state = .firstWeighed then .attached else v.state,
          place := some { lane := l, slot := slot, pass := .exit } }
      ∧ (∀ n, n ≠ v.number → findVisit t n = findVisit s n)
      ∧ queueOf t l = queueOf s l ++ [(slot, v.number)] ∧ (∀ k, k ≠ l → queueOf t k = queueOf s k)
      ∧ (t.port p).lastResult = .done ∧ (t.port p).lastCommand = 0x31#8
      ∧ (t.port p).data = { handle := { slot := slot.num, generation := (s.visits.queues.get l).generations.get slot },
                            visit := v.number, validTare := false }
      ∧ (∀ q, q ≠ p → t.port q = s.port q)
      ∧ KeepsAllBut [.visits, .decks, .lanes, .ports] s t ∧ ∀ k, k ≠ l → t.lane k = s.lane k ∧ t.deck k = s.deck k

/-- RELEASE takes the visit off its lane: an ANNOUNCED or REFUSED one is removed, an ATTACHED one becomes FIRST_WEIGHED, a
FIRST_WEIGHED or TICKETED_ON_SITE one stays open on site; its slot's generation advances and the others keep theirs. A visit
AWAITING_TICKET, DISPUTED or TICKETED is refused STATE and stays (R46, R51). A capture in flight for a head that is named ends
first, FAILED with ABANDONED: it goes, the lane report shows it, CAPTURE_FAILED fires its routes, and CAPTURE is pending at
lane and office; what follows in an AUTO lane may start one for the next head or report that none was started (R22, R23, R101,
R158, R161; a routed start there: log 28). -/
def Obligations.ReleaseTakesAVisitOffItsLane : Prop :=
  ∀ s p (b : Byte) (ref : BitVec 16) l n v pl, VisitsOk s → Takes s p → laneBytePermitted p b = true →
    laneOf p b = some l → visitOf s p l ref = .ok n → findVisit s n = some v → v.place = some pl →
    (v.state ≠ .awaitingTicket → v.state ≠ .disputed → v.state ≠ .ticketed →
      ∃ t, exec (.release p b ref) s = .next t ∧ Answered t p 0x32#8 .done
        ∧ findVisit t n = (if v.state = .announced ∨ v.state = .refused then none
            else some { v with place := none, state := if v.state = .attached then .firstWeighed else v.state })
        ∧ (∀ m, m ≠ n → findVisit t m = findVisit s m)
        ∧ queueOf t l = (queueOf s l).filter (fun m => m.2 ≠ n) ∧ (∀ k, k ≠ l → queueOf t k = queueOf s k)
        ∧ (t.visits.queues.get l).generations =
            (s.visits.queues.get l).generations.put pl.slot (((s.visits.queues.get l).generations.get pl.slot + 1) % 16)
        ∧ KeepsAllBut (.visits :: yardParts) s t)
    ∧ (v.state = .awaitingTicket ∨ v.state = .disputed ∨ v.state = .ticketed →
      ∃ t, exec (.release p b ref) s = .next t ∧ Answered t p 0x32#8 .state ∧ KeepsAllBut yardParts s t)
    ∧ (isHead s l n = true → (s.deck l).capture ≠ none →
      ∃ t, exec (.release p b ref) s = .next t ∧ CaptureEnded l n .abandoned s t)

/-- CAPTURE of a capturable head that the sequencer permits: the deck refuses it STATE while a capture is in flight, in
FAULT or CALIBRATING or UNCALIBRATED, then RANGE with a range flag set, and otherwise takes its capture record, with the
deadline of the capture timeout, and an AUTO lane goes to CAPTURING; nothing else changes. The sequencer permits it in MANUAL
and in AUTO's OCCUPIED, and elsewhere the answer is STATE (R17, R18, R20, R52, R100, R111; a deadline from whole
seconds: log 2). -/
def Obligations.CaptureStartsACapture : Prop :=
  ∀ s p (b : Byte) (ref : BitVec 16) l n, Takes s p → laneBytePermitted p b = true → laneOf p b = some l →
    visitOf s p l ref = .ok n → isHead s l n = true → capturable s n = true →
    let permitted := (s.lane l).params.mode = .manual
      ∨ ((s.lane l).params.mode = .auto ∧ (s.lane l).seqr.state = .occupied)
    let unready := (s.deck l).capture.isSome = true ∨ (s.deck l).phase = .fault ∨ (s.deck l).phase = .calibrating
      ∨ s.cal.stored.get l = CalRecord.coldDefault
    let outside := (s.deck l).overload = true ∨ (s.deck l).underload = true
    let started := s.modDeck l fun u =>
      { u with capture := some { visit := n, deadline := s.clock.mono * 1000 + u.captureTimeout * 1000 } }
    (¬ permitted ∨ unready → exec (.capture p b ref) s = .next (s.answer p 0x33#8 .state))
    ∧ (permitted → ¬ unready → outside → exec (.capture p b ref) s = .next (s.answer p 0x33#8 .range))
    ∧ (permitted → ¬ unready → ¬ outside → exec (.capture p b ref) s = .next
      ((if (s.lane l).params.mode = .auto then started.modSeq l fun q => { q with state := .capturing } else started).answer
        p 0x33#8 .done))

/-- In MANUAL with the barrier not in FAULT, MANUAL RAISE and MANUAL LOWER make their request of the barrier, the light
turning green at once when the arm is already UP, and red for a lower; in AUTO and CLOSED both are refused STATE; in FAULT
both are refused STATE, a lower turning the light red all the same (R113, R114; a deadline from whole seconds: log 2; the
expiries that wait in the queue: log 51). -/
def Obligations.ManualCommandsMoveTheArm : Prop :=
  ∀ s p (b : Byte) l, Takes s p → laneBytePermitted p b = true → laneOf p b = some l →
    let br := (s.lane l).barrier
    let started := fun k : Timer =>
      k.brought s (.travelTimeout l) (some (s.clock.mono * 1000 + (s.lane l).params.travelTimeout * 1000))
    ((s.lane l).params.mode ≠ .manual →
      exec (.manualRaise p b) s = .next (s.answer p 0x34#8 .state)
      ∧ exec (.manualLower p b) s = .next (s.answer p 0x35#8 .state))
    ∧ ((s.lane l).params.mode = .manual → br.state = .fault →
      exec (.manualRaise p b) s = .next (s.answer p 0x34#8 .state)
      ∧ exec (.manualLower p b) s = .next
          ((s.modSeq l fun q => { q with light := .red, raiseWait := false }).answer p 0x35#8 .state))
    ∧ ((s.lane l).params.mode = .manual → br.state ≠ .fault →
      exec (.manualRaise p b) s = .next
        (((s.modBarrier l fun x =>
            if x.state = .down ∨ x.state = .lowering then
              { x with state := .raising, pendingLower := false, travelTimer := started x.travelTimer }
            else { x with pendingLower := false }).modSeq l fun q =>
              if br.state = .up then { q with light := .green, raiseWait := false } else { q with raiseWait := true }).answer
          p 0x34#8 .done)
      ∧ exec (.manualLower p b) s = .next
        (((s.modSeq l fun q => { q with light := .red, raiseWait := false }).modBarrier l fun x =>
            if x.state = .raising ∨ x.state = .up then
              if (s.lane l).sensors.loopOccupied = true then { x with pendingLower := true }
              else { x with state := .lowering, pendingLower := false, travelTimer := started x.travelTimer }
            else x).answer p 0x35#8 .done))

/-- REPRINT LAST and REPRINT TICKET put a COPY job with the retained TICKET entry at the end of a queue of fewer than two,
and the engine goes on; they are refused FULL on two jobs and NO_SUCH where there is no last ticket, no retained entry or no
such lane (R145, R154). ABORT PRINT ends the current job FAILED with ABORTED, and is refused STATE on an empty queue (R152,
R153). A job that joins an empty queue starts with its template counted in use, PRINTING or, with the paper out, PAUSED with
notice PAPER and the pause timer, or ends TEMPLATE_ERROR on an empty template; behind a paused job it waits (R146, R149,
R151; a deadline from whole seconds: log 2; the expiries that wait in the queue: log 51). The engine renders while there is
room for 41 bytes, ends a job at a bad position, a 25th line or a category that is gone, and stops where it has nothing to do
(R147, R149). A line is 40 spaces with the literal written over them from column 0 and then each field, in list order, from
its column, cut to 40 characters, and byte 10 (R147). Each field kind prints as R148's table says: numbers in decimal without
leading zeros and with a minus sign, weights with a space and kg, times of day as hh:mm:ss, the check word as 8 hexadecimal
characters, and words at R150's codes. -/
def Obligations.ReprintsAndAbortsReachThePrinter : Prop :=
  let copy := fun k : TicketRecord => ({ ticket := k, copy := true, walk := none } : PrintJob)
  let join := fun (l : Lane) (j : PrintJob) (s : State) => s.modPrinter l fun x => { x with jobs := x.jobs ++ [j] }
  (∀ s p (b : Byte) l, Takes s p → laneBytePermitted p b = true → laneOf p b = some l →
    let e := (s.lane l).printer
    ((s.lane l).report.lastTicket = none → exec (.reprintLast p b) s = .next (s.answer p 0x36#8 .noSuch))
    ∧ (∀ n, (s.lane l).report.lastTicket = some n →
      (retainedTicket s.journal n = none → exec (.reprintLast p b) s = .next (s.answer p 0x36#8 .noSuch))
      ∧ ∀ k, retainedTicket s.journal n = some k →
        (2 ≤ e.jobs.length → exec (.reprintLast p b) s = .next (s.answer p 0x36#8 .full))
        ∧ (e.jobs.length < 2 → exec (.reprintLast p b) s =
          .next ((pumpEngine l (join l (copy k) (beginExchange p s))).answer p 0x36#8 .done)))
    ∧ (e.jobs = [] → exec (.abortPrint p b) s = .next (s.answer p 0x37#8 .state))
    ∧ (e.jobs ≠ [] → exec (.abortPrint p b) s =
      .next ((endJob l (.failed .aborted) (beginExchange p s)).answer p 0x37#8 .done))
    ∧ (∀ j, e.jobs = [j] → ∃ t, exec (.abortPrint p b) s = .next t ∧ Noticed t .print (.lane l) ∧ Noticed t .print .office
        ∧ (let freed := match j.walk with
             | none => s
             | some w => modInUse w.template (fun n => n - 1) s
           SameOutsideRoutes ((freed.modPrinter l fun x =>
             { x with jobs := [], fifo := [], byteInProgress := false, state := .idle,
                      pauseTimer := x.pauseTimer.brought s (.pauseTimeout l) none,
                      lastResult := .failed .aborted }).answer p 0x37#8 .done) t)))
  ∧ (∀ s (n : BitVec 32) (b : Byte), Takes s .office →
    (Idx.ofNat? b.toNat = none → exec (.reprintTicket .office n b) s = .next (s.answer .office 0x49#8 .noSuch))
    ∧ ∀ l, Idx.ofNat? b.toNat = some l →
      (retainedTicket s.journal n.toNat = none →
        exec (.reprintTicket .office n b) s = .next (s.answer .office 0x49#8 .noSuch))
      ∧ ∀ k, retainedTicket s.journal n.toNat = some k →
        (2 ≤ (s.lane l).printer.jobs.length →
          exec (.reprintTicket .office n b) s = .next (s.answer .office 0x49#8 .full))
        ∧ ((s.lane l).printer.jobs.length < 2 → exec (.reprintTicket .office n b) s =
          .next ((pumpEngine l (join l (copy k) (beginExchange .office s))).answer .office 0x49#8 .done)))
  ∧ (∀ s l (j : PrintJob), j.walk = none →
    let e := (s.lane l).printer
    let t := pumpEngine l (join l j s)
    let chosen := if j.ticket.kind = .delivery then e.deliveryTemplate else e.collectionTemplate
    (∀ c w, e.jobs = [c] → c.walk = some w → e.state ≠ .printing → t = join l j s)
    ∧ (e.jobs = [] → Table.find s.templates.templates chosen = none →
      Noticed t .print (.lane l) ∧ Noticed t .print .office
      ∧ SameOutsideRoutes (s.modPrinter l fun x =>
          { x with jobs := [], fifo := [], byteInProgress := false, state := .idle,
                   pauseTimer := x.pauseTimer.brought s (.pauseTimeout l) none, lastResult := .failed .templateError }) t)
    ∧ (∀ tpl, e.jobs = [] → Table.find s.templates.templates chosen = some tpl →
      let walk : JobWalk := { template := chosen, position := tpl.head, rendered := 0, finished := false }
      let begun := (modInUse chosen (fun n => n + 1) s).modPrinter l fun x =>
        { x with jobs := [{ j with walk := some walk }], state := .printing }
      (e.paperOut = false → t = pumpEngine l begun)
      ∧ (e.paperOut = true → t = raiseLaneOffice .paper l (begun.modPrinter l fun x =>
          { x with state := .paused, pauseTimer :=
              x.pauseTimer.brought s (.pauseTimeout l) (some (s.clock.mono * 1000 + x.pauseTimeout * 1000)) }))))
  ∧ (∀ s l, (engineMove l s = none → pumpEngine l s = s)
    ∧ ((s.lane l).printer.jobs.length ≤ 2 → engineMove l (pumpEngine l s) = none
      ∧ ∀ u, engineMove l s = some u → pumpEngine l s = pumpEngine l u))
  ∧ (∀ s l j rest w, (s.lane l).printer.jobs = j :: rest → j.walk = some w → (s.lane l).printer.state = .printing →
    w.finished = false →
    let e := (s.lane l).printer
    let line := Table.getD s.templates.lines LineRecord.cold w.position
    (512 < e.fifo.length + 41 → engineMove l s = none)
    ∧ (e.fifo.length + 41 ≤ 512 →
      (95 < w.position ∨ 24 ≤ w.rendered ∨ renderLine s j line = none →
        engineMove l s = some (closeJob l (.failed .templateError) s))
      ∧ (∀ bytes, w.position ≤ 95 → w.rendered < 24 → renderLine s j line = some bytes →
        engineMove l s = some (s.modPrinter l fun x =>
          { x with fifo := x.fifo ++ bytes,
                   jobs := { j with walk := some { w with rendered := w.rendered + 1, finished := line.next.isNone,
                                                          position := line.next.getD w.position } } :: rest }))))
  ∧ (∀ s j (r : LineRecord),
    (∀ bytes, renderLine s j r = some bytes → bytes.length = 41 ∧ bytes.getLast? = some 10#8)
    ∧ (renderLine s j r = none ↔
      (∃ f ∈ r.refs, f.kind = .category) ∧ Table.find s.allow.categories j.ticket.category = none)
    ∧ (r.refs = [] → r.literal.length ≤ 40 →
      renderLine s j r = some (r.literal ++ List.replicate (40 - r.literal.length) 32#8 ++ [10#8]))
    ∧ (∀ texts : List Text, r.refs.map (fun f => renderField s j f.kind) = texts.map some →
      renderLine s j r = some (((r.refs.map (·.column)).zip texts).foldl (fun row f => overwrite row f.1 f.2)
        (overwrite (List.replicate 40 32#8) 0 r.literal) ++ [10#8])))
  ∧ (∀ s (j : PrintJob),
    let k := j.ticket
    let letters := fun cs : List Char => cs.map fun c => BitVec.ofNat 8 c.toNat
    let weight := fun w : Int => (if w < 0 then letters ['-'] else []) ++ decimal w.natAbs ++ letters [' ', 'k', 'g']
    let two := fun n : Nat => [BitVec.ofNat 8 (48 + n / 10), BitVec.ofNat 8 (48 + n % 10)]
    let clock := fun n : Nat => two (n / 3600) ++ letters [':'] ++ two (n / 60 % 60) ++ letters [':'] ++ two (n % 60)
    let moment := fun x : Stamp => decimal x.day ++ letters [' '] ++ clock x.second
    let prints := fun (f : FieldKind) (x : Text) => renderField s j f = some x
    prints .ticketNo (decimal k.number) ∧ prints .date (decimal k.issued.day) ∧ prints .site (decimal k.site)
    ∧ prints .vehicle k.vehicle ∧ prints .account (decimal k.account) ∧ prints .audit (decimal k.audit)
    ∧ prints .lane (decimal k.lane.num)
    ∧ renderField s j .category = (Table.find s.allow.categories k.category).map (·.name)
    ∧ (k.kind = .delivery → prints .kind (letters ['D', 'E', 'L', 'I', 'V', 'E', 'R', 'Y']))
    ∧ (k.kind = .collection → prints .kind (letters ['C', 'O', 'L', 'L', 'E', 'C', 'T', 'I', 'O', 'N']))
    ∧ prints .firstWeight (weight k.first.weight) ∧ prints .tare (weight k.tare) ∧ prints .net (weight k.net)
    ∧ (k.issued.second ≤ 86399 → prints .time (clock k.issued.second))
    ∧ (k.first.time.second ≤ 86399 → prints .firstTime (moment k.first.time))
    ∧ (k.second = none → prints .secondWeight [] ∧ prints .secondTime [])
    ∧ (∀ w, k.second = some w → prints .secondWeight (weight w.weight)
      ∧ (w.time.second ≤ 86399 → prints .secondTime (moment w.time)))
    ∧ (k.manualTare = true → prints .tareSource (letters ['M', 'A', 'N', 'U', 'A', 'L']))
    ∧ (k.manualTare = false → k.tareSource = .stored → prints .tareSource (letters ['S', 'T', 'O', 'R', 'E', 'D']))
    ∧ (k.manualTare = false → k.tareSource = .weighed → prints .tareSource (letters ['W', 'E', 'I', 'G', 'H', 'E', 'D']))
    ∧ prints .copyMark (if j.copy = true then letters ['C', 'O', 'P', 'Y'] else [])
    ∧ ∃ x, prints .check x ∧ x.length = 8
      ∧ x.foldl (fun a c => a * 16 + (if c.toNat ≤ 57 then c.toNat - 48 else c.toNat - 55)) 0 = k.check.toNat
      ∧ ∀ c ∈ x, (48 ≤ c.toNat ∧ c.toNat ≤ 57) ∨ (65 ≤ c.toNat ∧ c.toNat ≤ 70))
  ∧ (∀ (row txt : Text) (col i : Nat), row.length = 40 → i < 40 →
    (overwrite row col txt)[i]? = if col ≤ i ∧ i < col + txt.length then txt[i - col]? else row[i]?)
  ∧ ∀ n : Nat, n < 10 ^ 40 →
    (decimal n).foldl (fun a c => a * 10 + (c.toNat - 48)) 0 = n ∧ (∀ c ∈ decimal n, 48 ≤ c.toNat ∧ c.toNat ≤ 57)
    ∧ decimal n ≠ [] ∧ (0 < n → (decimal n).head? ≠ some 48#8)

/-- ZERO DECK, when none of its tests fails, makes the last fine weight the zero offset, takes the change off the whole
history and clears the tracking count; a tracking step that is due comes first (R12, R39; the place of that step: log 7). -/
def Obligations.ZeroDeckTakesTheFineWeight : Prop :=
  ∀ s p (b : Byte) d, Takes s p → deckBytePermitted p b = true → Idx.ofNat? b.toNat = some d →
    let u := (trackStep d s).deck d
    (u.phase = .calibrating ∨ u.capture.isSome = true →
      exec (.zeroDeck p b) s = .next ((trackStep d s).answer p 0x38#8 .state))
    ∧ (u.phase ≠ .calibrating → u.capture = none → u.phase ≠ .active ∨ u.stable = false →
      exec (.zeroDeck p b) s = .next ((trackStep d s).answer p 0x38#8 .motion))
    ∧ (u.phase = .active → u.capture = none → u.stable = true →
      25 * u.fine.natAbs ≤ 10 * (s.cal.stored.get d).max →
      exec (.zeroDeck p b) s = .next (((trackStep d s).modDeck d fun x =>
        { x with zs := u.fine, history := x.history.map fun h => h - (u.fine - u.zs), trackCount := 0 }).answer
          p 0x38#8 .done))
    ∧ (u.phase = .active → u.capture = none → u.stable = true →
      10 * (s.cal.stored.get d).max < 25 * u.fine.natAbs →
      exec (.zeroDeck p b) s = .next ((trackStep d s).answer p 0x38#8 .range))

/-! ### Office commands -/

/-- An accepted VOID VISIT appends a VOID record with the lane the visit was at, takes its reserve off H of its two rows and
leaves D and the marks, removes the visit, and raises VISIT at the office port; the other visits stay (R62, R84). A visit
AWAITING_TICKET, TICKETED or TICKETED_ON_SITE is refused STATE and no room under the ticket limit FULL (R62, R133). A capture
in flight for a head ends first, FAILED with GONE: it goes, the lane report shows it, CAPTURE_FAILED fires its routes, and
CAPTURE is pending at lane and office; what follows in an AUTO lane may start one for the next head or report that none was
started (R22, R23, R101, R158, R161; a routed start there: log 28). -/
def Obligations.VoidLeavesAVoidRecordAndNoVisit : Prop :=
  ∀ s (n : BitVec 16) v, VisitsOk s → Takes s .office → findVisit s n.toNat = some v →
    let ticketed := v.state = .awaitingTicket ∨ v.state = .ticketed ∨ v.state = .ticketedOnSite
    (ticketed → exec (.voidVisit .office n) s = .next (s.answer .office 0x40#8 .state))
    ∧ (¬ ticketed → ticketRoom s.journal = false → exec (.voidVisit .office n) s = .next (s.answer .office 0x40#8 .full))
    ∧ (¬ ticketed → ticketRoom s.journal = true →
      ∃ t, exec (.voidVisit .office n) s = .next t ∧ Answered t .office 0x40#8 .done
        ∧ findVisit t n.toNat = none ∧ (∀ m, m ≠ n.toNat → findVisit t m = findVisit s m)
        ∧ t.journal.last = s.journal.last + 1 ∧ t.journal.mark = s.journal.mark
        ∧ retainedEntry t.journal (s.journal.last + 1) = some
            { seq := s.journal.last + 1,
              body := .void v.number { day := s.clock.day, second := s.clock.second } (v.place.map (·.lane)) }
        ∧ t.allow = (modBothRows v.account v.category
            (fun a => { a with held := a.held - v.reserve }) s).allow
        ∧ Noticed t .visit .office ∧ (∀ pl, v.place = some pl → Noticed t .visit (.lane pl.lane))
        ∧ (∀ pl, v.place = some pl → isHead s pl.lane v.number = true → (s.deck pl.lane).capture ≠ none →
            CaptureEnded pl.lane v.number .gone s t)
        ∧ KeepsAllBut ([.visits, .allow, .journal] ++ yardParts) s t)

/-- RESOLVE settles a DISPUTED visit: with VOID it does what VOID VISIT does, and with ACCEPT_ZERO the net becomes 0 with the
flag NEGATIVE_NET, the visit waits for its ticket and its request joins the queue; any other choice is refused RANGE, any
other state STATE (R59, R61). -/
def Obligations.ResolveSettlesADispute : Prop :=
  ∀ s (n : BitVec 16) (c : Byte), Takes s .office →
    (c.toNat ≠ 1 → c.toNat ≠ 2 → exec (.resolve .office n c) s = .next (s.answer .office 0x41#8 .range))
    ∧ ∀ v, findVisit s n.toNat = some v → c.toNat = 1 ∨ c.toNat = 2 →
      (v.state ≠ .disputed → exec (.resolve .office n c) s = .next (s.answer .office 0x41#8 .state))
      ∧ (v.state = .disputed → c.toNat = 1 → ∀ t, exec (.voidVisit .office n) s = .next t →
        exec (.resolve .office n c) s = .next (t.modPort .office fun x => { x with lastCommand := 0x41#8 }))
      ∧ (v.state = .disputed → c.toNat = 2 →
        ∃ t, exec (.resolve .office n c) s = .next t ∧ Answered t .office 0x41#8 .done
          ∧ findVisit t n.toNat = some { v with net := some 0, negativeNet := true, state := .awaitingTicket }
          ∧ (∀ m, m ≠ n.toNat → findVisit t m = findVisit s m)
          ∧ t.tickets.queue = s.tickets.queue ++ [v.number] ∧ t.tickets.next = s.tickets.next
          ∧ KeepsAllBut ([.visits, .tickets, .nv] ++ yardParts) s t)

/-- ARCHIVE UP TO is refused RANGE below the archive mark and above the last sequence number; otherwise the mark becomes the
sequence number, the drain runs and the answer is DONE (R136). The drain appends a pending RESTART record, then a pending
ROLLOVER record, each while there is system room and each before what follows it, and tries the head when neither is left
(R135, R137). The try sets the issue wait to the first condition of R126 that fails, in the order of its table with the room
of R133, and asks for a floor write where that is what fails and none is in flight (R123, R126, R131, R133); that a head
which passes is issued by TICKET_ISSUE is the model's reading (log 6). -/
def Obligations.ArchiveMovesTheMarkAndDrains : Prop :=
  (∀ s (seq : BitVec 32), Takes s .office →
    (seq.toNat < s.journal.mark ∨ s.journal.last < seq.toNat →
      exec (.archiveUpTo .office seq) s = .next (s.answer .office 0x48#8 .range))
    ∧ (s.journal.mark ≤ seq.toNat → seq.toNat ≤ s.journal.last →
      exec (.archiveUpTo .office seq) s =
        .next ((drain ((beginExchange .office s).setJournal { s.journal with mark := seq.toNat })).answer
          .office 0x48#8 .done)
      ∧ (∃ t, exec (.archiveUpTo .office seq) s = .next t ∧ Answered t .office 0x48#8 .done ∧ t.journal.mark = seq.toNat
        ∧ KeepsAllBut ([.allow, .tickets, .journal, .nv] ++ yardParts) s t)
      ∧ (s.tickets.pendingRestart = none → s.tickets.pendingRollover = none → s.tickets.queue = [] →
        exec (.archiveUpTo .office seq) s = .next (((s.setJournal { s.journal with mark := seq.toNat }).setTickets
          { s.tickets with wait := .none }).answer .office 0x48#8 .done))))
  ∧ (∀ s,
    (∀ r, s.tickets.pendingRestart = some r → systemRoom s.journal = false → drain s = s)
    ∧ (∀ r, s.tickets.pendingRestart = some r → systemRoom s.journal = true →
      drain s = drain (appendEntry (.restart r { day := s.clock.day, second := s.clock.second })
        (s.setTickets { s.tickets with pendingRestart := none }))
      ∧ (drain s).tickets.pendingRestart = none ∧ s.journal.last < (drain s).journal.last
      ∧ retainedEntry (drain s).journal (s.journal.last + 1) = some
            { seq := s.journal.last + 1, body := .restart r { day := s.clock.day, second := s.clock.second } })
    ∧ (∀ d, s.tickets.pendingRestart = none → s.tickets.pendingRollover = some d → systemRoom s.journal = false →
      drain s = s)
    ∧ (∀ d, s.tickets.pendingRestart = none → s.tickets.pendingRollover = some d → systemRoom s.journal = true →
      drain s = tryHead (appendRollover d (s.setTickets { s.tickets with pendingRollover := none }))
      ∧ (drain s).tickets.pendingRollover = none ∧ (drain s).allow.yardDay = d
      ∧ (drain s).journal.last = s.journal.last + 1 ∧ (drain s).allow.counters = []
      ∧ (drain s).allow.accounts = Table.mapVals s.allow.accounts fun a => { a with rows := a.rows.map fun r =>
          { r with amounts := ({ r.amounts with debited := 0 } : Amounts).recompute } })
    ∧ (s.tickets.pendingRestart = none → s.tickets.pendingRollover = none → drain s = tryHead s))
  ∧ ∀ s, FirstFailing s (issueObstacle s)
    ∧ (s.tickets.queue = [] → tryHead s = s.setTickets { s.tickets with wait := .none })
    ∧ (s.tickets.queue ≠ [] →
      let waits := s.setTickets { s.tickets with wait := issueObstacle s }
      (issueObstacle s ≠ .floorWrite ∨ s.tickets.floorWrite ≠ none → tryHead s = waits)
      ∧ (issueObstacle s = .floorWrite → s.tickets.floorWrite = none →
        let v := min 4294967295 (max (s.tickets.floor + 256) (s.tickets.next + 256))
        tryHead s = nvRequest (.floor v) (waits.setTickets
          { waits.tickets with floorWrite := some { value := v, retry := false } })))

/-- SET CLOCK sets day, second and the clock-set flag, RANGE above 86 399, and leaves the monotonic seconds as they are. An
advance that waits behind it in the queue has arrived together with it and is absorbed: it counts no second of the clock and
raises nothing (R183; that waiting means having arrived, and where the monotonic second of the second it ends is counted: log
50). Any other advance counts a second of the clock, from 86 399 to the next day, on the battery too; with the flag clear or
no minute or rollover time reached it does nothing more, and at the rollover time it is a rollover event (R91, R182, R183).
With power it counts the monotonic second of the clock second that ends, where one is owed to it and not counted yet; SET
CLOCK and every advance with power begin a second to which one is owed (R184; one in each whole second: log 2; beyond the
last value: log 24). A visit overstays once the monotonic seconds have reached its announce second plus 60 times the limit,
and is marked once, with notice VISIT at the office port (R64). -/
def Obligations.ClockIsSetAndAdvances : Prop :=
  (∀ s (day : BitVec 16) (second : BitVec 24), Takes s .office →
    (second.toNat ≤ 86399 → exec (.setClock .office day second) s = .next ((s.setClock
        { s.clock with day := day.toNat, second := second.toNat, isSet := true,
                       absorbs := decide (Instr.clockAdvance ∈ s.pending),
                       monoSecond := if Instr.clockAdvance ∈ s.pending then s.clock.monoSecond else .owed }).answer
          .office 0x50#8 .done))
    ∧ (86399 < second.toNat → exec (.setClock .office day second) s = .next (s.answer .office 0x50#8 .range)))
  ∧ (∀ s : State,
    let day := if s.clock.second < 86399 then s.clock.day else if s.clock.day < 65535 then s.clock.day + 1 else 0
    let second := if s.clock.second < 86399 then s.clock.second + 1 else 0
    let mono := if s.clock.monoSecond ≠ .owed then s.clock.mono
      else if s.clock.mono < 4294967295 then s.clock.mono + 1 else (Config.monoAfterMax s.freeIx).toNat
    let freeIx := if s.clock.monoSecond = .owed ∧ 4294967295 ≤ s.clock.mono then s.freeIx + 1 else s.freeIx
    let counted : State :=
      { s with clock := { s.clock with day := day, second := second, mono := mono, monoSecond := .owed }, freeIx := freeIx }
    (s.clock.absorbs = true →
      (s.power = false → exec .clockAdvance s =
        .next { s with clock := { s.clock with absorbs := false, monoSecond := .possible } })
      ∧ (s.power = true → exec .clockAdvance s = .next
        { s with clock := { s.clock with absorbs := false, mono := mono, monoSecond := .owed }, freeIx := freeIx }))
    ∧ (s.clock.absorbs = false → s.power = false → exec .clockAdvance s =
      .next { s with clock := { s.clock with day := day, second := second, monoSecond := .possible } })
    ∧ (s.clock.absorbs = false → s.power = true →
      (s.clock.isSet = false ∨ (second % 60 ≠ 0 ∧ second ≠ s.clock.rolloverTime) → exec .clockAdvance s = .next counted)
      ∧ (s.clock.isSet = true → second % 60 = 0 → second ≠ s.clock.rolloverTime →
        exec .clockAdvance s = .next (raiseEvent .minute none counted)
        ∧ SameOutsideRoutes counted (raiseEvent .minute none counted))
      ∧ (s.clock.isSet = true → second = s.clock.rolloverTime → exec .clockAdvance s =
        .next (rolloverEvent (if second % 60 = 0 then raiseEvent .minute none counted else counted)))))
  ∧ ∀ s (n : BitVec 16) v, s.power = true → findVisit s n.toNat = some v →
    let due := v.announceSecond + 60 * s.visits.overstayLimit
    (v.overstayNoticed = true ∨ s.clock.mono < due → exec (.overstay n) s = .next s)
    ∧ (v.overstayNoticed = false → due ≤ s.clock.mono → ∃ t, exec (.overstay n) s = .next t
      ∧ findVisit t n.toNat = some { v with overstayNoticed := true }
      ∧ (∀ m, m ≠ n.toNat → findVisit t m = findVisit s m)
      ∧ Noticed t .visit .office ∧ KeepsAllBut (.visits :: yardParts) s t)

/-- FORCE ROLLOVER answers DONE: a pending rollover's day moves on by one; without one and with system room a ROLLOVER record
is appended, the yard day advances from 65 535 to 0, every D and counter becomes 0 and the marks are recomputed from A and H;
without room a pending rollover is created with notice ALLOWANCE at the office port, and requests that wait for their tickets
wait for it from then on (R91, R92, R126). -/
def Obligations.RolloverBeginsANewYardDay : Prop :=
  ∀ s, Takes s .office →
    let next := fun d : Nat => if d = 65535 then 0 else d + 1
    (∀ d, s.tickets.pendingRollover = some d → exec (.forceRollover .office) s =
      .next ((s.setTickets { s.tickets with pendingRollover := some (next d) }).answer .office 0x51#8 .done))
    ∧ (s.tickets.pendingRollover = none → systemRoom s.journal = false → exec (.forceRollover .office) s =
      .next (((s.setTickets { s.tickets with
          pendingRollover := some (next s.allow.yardDay)
          wait := if s.tickets.queue = [] then s.tickets.wait else .systemRecord }).modPort .office fun x =>
        { x with pendingSet := x.pendingSet ||| 0x0200#16 }).answer .office 0x51#8 .done))
    ∧ (s.tickets.pendingRollover = none → systemRoom s.journal = true →
      ∃ t, exec (.forceRollover .office) s = .next t ∧ Answered t .office 0x51#8 .done
        ∧ t.allow = { s.allow with
            yardDay := next s.allow.yardDay
            accounts := Table.mapVals s.allow.accounts fun a => { a with rows := a.rows.map fun r =>
              { r with amounts := ({ r.amounts with debited := 0 } : Amounts).recompute } }
            caps := Table.mapVals s.allow.caps fun a => ({ a with debited := 0 } : Amounts).recompute
            counters := [] }
        ∧ t.journal.last = s.journal.last + 1 ∧ t.journal.mark = s.journal.mark
        ∧ retainedEntry t.journal (s.journal.last + 1) = some
            { seq := s.journal.last + 1,
              body := .rollover (next s.allow.yardDay) { day := s.clock.day, second := s.clock.second } }
        ∧ KeepsAllBut ([.allow, .journal] ++ yardParts) s t)

/-- SET OUTPUT of outputs 1 to 8: ON and OFF stop a running pulse, PULSE starts it for the output's pulse length; another
output is NO_SUCH, whatever the action (log 41), another action RANGE. A pulse that expires leaves its output OFF, and an
expiry and an action that arrive together leave it as the later action gives, in either order: an expiry that waits while its
pulse is stopped or started again does nothing (R164; that waiting means having arrived: log 51). A change of a general
input's filtered level is stored and is the event INPUT_RISE or INPUT_FALL of that input (R156, R159, R163, R164). The end of
a pulse is formed from whole seconds (log 2); an expiry of a pulse that does not run, and a change to the level held, do
nothing (log 5, log 31). -/
def Obligations.OutputsAreDrivenAndInputsTaken : Prop :=
  (∀ s (output action : Byte), Takes s .office →
    let n := output.toNat
    (n < 1 ∨ 8 < n → exec (.setOutput .office output action) s = .next (s.answer .office 0x58#8 .noSuch))
    ∧ (1 ≤ n → n ≤ 8 →
      (action.toNat = 1 → exec (.setOutput .office output action) s = .next
        ((s.modOutput n fun o =>
          { o with on := true, pulseTimer := o.pulseTimer.brought s (.outputPulseExpiry n) none }).answer
            .office 0x58#8 .done))
      ∧ (action.toNat = 2 → exec (.setOutput .office output action) s = .next
        ((s.modOutput n fun o =>
          { o with on := false, pulseTimer := o.pulseTimer.brought s (.outputPulseExpiry n) none }).answer
            .office 0x58#8 .done))
      ∧ (action.toNat = 3 → exec (.setOutput .office output action) s = .next
        ((s.modOutput n fun o =>
          { o with on := true, pulseTimer := o.pulseTimer.brought s (.outputPulseExpiry n)
                                 (some (s.clock.mono * 1000 + o.pulseLength)) }).answer .office 0x58#8 .done))
      ∧ (action.toNat = 0 ∨ 3 < action.toNat →
        exec (.setOutput .office output action) s = .next (s.answer .office 0x58#8 .range))
      ∧ (1 ≤ action.toNat → action.toNat ≤ 3 → (s.output n).pulseTimer.deadline ≠ none → (s.output n).pulseTimer.late = 0 →
        let left := fun u : State => (u.output n).on = decide (action.toNat ≠ 2)
          ∧ (u.output n).pulseTimer.deadline =
              if action.toNat = 3 then some (s.clock.mono * 1000 + (s.output n).pulseLength) else none
        (.outputPulseExpiry n ∈ s.pending → ∃ t u, exec (.setOutput .office output action) s = .next t
          ∧ exec (.outputPulseExpiry n) t = .next u ∧ left u)
        ∧ ∃ t u, exec (.outputPulseExpiry n) s = .next t ∧ (t.output n).on = false
          ∧ exec (.setOutput .office output action) t = .next u ∧ left u)))
  ∧ (∀ s n, s.power = true → 1 ≤ n → n ≤ 8 →
    let pulse := (s.output n).pulseTimer
    (0 < pulse.late → exec (.outputPulseExpiry n) s =
      .next (s.modOutput n fun o => { o with pulseTimer := { o.pulseTimer with late := o.pulseTimer.late - 1 } }))
    ∧ (pulse.late = 0 → pulse.deadline = none → exec (.outputPulseExpiry n) s = .next s)
    ∧ (pulse.late = 0 → pulse.deadline ≠ none → exec (.outputPulseExpiry n) s = .next (s.modOutput n fun o =>
        { o with on := false, pulseTimer := pulse.brought s (.outputPulseExpiry n) none })))
  ∧ (∀ s n high, s.power = true → 1 ≤ n → n ≤ 8 →
    (s.input n = high → exec (.inputFilterChange n high) s = .next s)
    ∧ (s.input n ≠ high → ∃ t, exec (.inputFilterChange n high) s = .next t
      ∧ t.input n = high ∧ (∀ m, m ≠ n → t.input m = s.input m)
      ∧ SameOutsideRoutes (s.setRoutes { s.routes with inputs := t.routes.inputs }) t
      ∧ t = raiseEvent (if high = true then .inputRise else .inputFall) (some n)
          (s.setRoutes { s.routes with inputs := t.routes.inputs })))
  ∧ ∀ (s : State) n k (f : Output → Output), (s.modOutput n f).output k = if k = n then f (s.output n) else s.output k

/-- RESTART LANES ends the captures, leaving the rest of every deck as it was, leaves every print queue empty, every MANUAL
or CLOSED sequencer restarted with nothing released or armed and its pass timer stopped, and LANE pending at all five ports,
and touches no visit, row, ticket or journal entry (R25, R120, R155; the order of the lanes: log 9). CLEAR LANE FAULT takes
the barrier's state from its limits, DOWN on the down limit alone and UP otherwise, and is refused STATE on both limits or a
barrier not in FAULT (R118; the lower that AUTO or CLOSED then asks for may wait: log 21). -/
def Obligations.LanesRestartAndFaultsClear : Prop :=
  (∀ s, TablesOk s → Takes s .office →
    ∃ t, exec (.restartLanes .office) s = .next t ∧ Answered t .office 0x60#8 .done
      ∧ (∀ l, (t.lane l).printer.jobs = [] ∧ (t.lane l).params = (s.lane l).params
          ∧ (t.lane l).sensors = (s.lane l).sensors
          ∧ ((s.lane l).params.mode ≠ .auto → (t.lane l).seqr.released = none ∧ (t.lane l).seqr.passageArmed = false
              ∧ (t.lane l).seqr.passTimer.deadline = none)
          ∧ ((s.lane l).params.mode = .manual → (t.lane l).seqr.state = .manual)
          ∧ ((s.lane l).params.mode = .closed → (t.lane l).seqr.state = .closed))
      ∧ (∀ p, Noticed t .lane p)
      ∧ (∀ d, { t.deck d with capture := none, captureLate := 0 } = { s.deck d with capture := none, captureLate := 0 }
          ∧ ((s.lane d).params.mode ≠ .auto → (t.deck d).capture = none))
      ∧ KeepsAllBut ([.templates, .freeIx] ++ yardParts) s t)
  ∧ ∀ s (b : Byte) l, Takes s .office → Idx.ofNat? b.toNat = some l →
    let br := (s.lane l).barrier
    let st : BarrierState := if br.limitDown = true then .down else .up
    (br.state ≠ .fault ∨ (br.limitUp = true ∧ br.limitDown = true) →
      exec (.clearLaneFault .office b) s = .next (s.answer .office 0x61#8 .state))
    ∧ (br.state = .fault → ¬ (br.limitUp = true ∧ br.limitDown = true) →
      ∃ t, exec (.clearLaneFault .office b) s = .next t
        ∧ SameOutsideYard (s.answer .office 0x61#8 .done) t ∧ (∀ k, k ≠ l → t.lane k = s.lane k)
        ∧ ((s.lane l).params.mode = .manual →
            (t.lane l).barrier = { br with state := st, pendingLower := false }
            ∧ (t.lane l).seqr.state = (s.lane l).seqr.state)
        ∧ ((s.lane l).params.mode = .closed → (t.lane l).seqr = (s.lane l).seqr
            ∧ (t.lane l).barrier.state =
                (if br.limitDown = true then .down else if (s.lane l).sensors.loopOccupied = true then .up else .lowering))
        ∧ ((s.lane l).params.mode = .auto →
            t.lane l = (settle l (s.modBarrier l fun x => { x with state := st, pendingLower := false })).lane l))

/-- Settling takes the first case that applies: HELD while the barrier is in FAULT, with the released visit kept; HELD with a
lower asked for a holding head; RELEASING for a cleared head on the deck, at once OPEN or PASSING with the arm UP; otherwise
CLOSING with the arm not DOWN, and with the arm DOWN IDLE on a clear deck. With auto-capture off the same holds of OCCUPIED
on an occupied deck (R103, R105, R108). An armed passage completes when the loop clears with the deck clear, and when a
sample clears the deck with the loop clear: it does with the head what its state and pass kind say, in AUTO where it is the
released visit, in MANUAL whatever it is; PASSING then closes with a red light, HELD in a FAULT stays, MANUAL keeps its state,
and its light and arm where no event can move them, and the passage is disarmed (R60, R98, R106, R113). The loop becoming
OCCUPIED arms the passage in MANUAL while the arm is not DOWN, and in a FAULT that has a released visit (R104, R113). -/
def Obligations.SettlingTakesTheFirstCase : Prop :=
  (∀ s l,
    let u := s.lane l
    let v := (settle l s).lane l
    (u.barrier.state = .fault → v.seqr.state = .held ∧ v.seqr.light = .red ∧ v.seqr.released = u.seqr.released
      ∧ v.barrier = u.barrier)
    ∧ (u.barrier.state ≠ .fault →
      (headClass s l = .holding → v.seqr.state = .held ∧ v.seqr.light = .red ∧ v.seqr.released = none
        ∧ (u.barrier.state = .down → v.barrier = u.barrier)
        ∧ (u.sensors.loopOccupied = false → v.barrier.state = .down ∨ v.barrier.state = .lowering))
      ∧ (headClass s l = .cleared → u.seqr.occupied = true →
          v.seqr.released = u.seqr.head.map Prod.fst
          ∧ (u.barrier.state ≠ .up → v.seqr.state = .releasing ∧ v.barrier.state = .raising ∧ v.seqr.light = .red)
          ∧ (u.barrier.state = .up → v.seqr.state = (if u.sensors.loopOccupied = true then .passing else .opened)
              ∧ v.seqr.light = .green))
      ∧ (headClass s l ≠ .holding → ¬ (headClass s l = .cleared ∧ u.seqr.occupied = true) →
          v.seqr.released = none ∧ v.seqr.light = .red
          ∧ (u.barrier.state ≠ .down → v.seqr.state = .closing)
          ∧ (u.barrier.state = .down → u.seqr.occupied = false → v.seqr.state = .idle)
          ∧ (u.barrier.state = .down → u.seqr.occupied = true → u.params.autoCapture = false →
              v.seqr.state = .occupied))))
  ∧ (∀ s l, VisitsOk s → s.power = true → (s.lane l).seqr.passageArmed = true →
    let u := s.lane l
    let quiet := ∀ p ∈ s.routes.routes, p.2.enabled = false
    let completed := fun t : State =>
      (u.params.mode = .auto → u.seqr.state = .passing ∨ (u.seqr.state = .held ∧ u.barrier.state = .fault) →
          (t.lane l).seqr.released = none ∧ (t.lane l).seqr.passageArmed = false
          ∧ (∀ n, u.seqr.released = some n → u.seqr.head.map Prod.fst = some n → HeadPassed l s t)
          ∧ (u.seqr.head.map Prod.fst ≠ u.seqr.released → t.visits = s.visits))
      ∧ (u.params.mode = .auto → u.seqr.state = .passing → (t.lane l).seqr.light = .red
          ∧ (t.lane l).seqr.state = (if u.barrier.state = .down then .idle else .closing))
      ∧ (u.params.mode = .auto → u.seqr.state = .held → u.barrier.state = .fault → (t.lane l).seqr.state = .held)
      ∧ (u.params.mode = .manual → HeadPassed l s t ∧ (t.lane l).seqr.passageArmed = false
          ∧ (t.lane l).seqr.state = u.seqr.state ∧ (quiet → (t.lane l).seqr.light = u.seqr.light))
      ∧ KeepsAllBut (.visits :: yardParts) s t
    (u.sensors.loopOccupied = true → u.seqr.occupied = false →
      ∃ t, exec (.loopFilterChange l false) s = .next t ∧ completed t)
    ∧ ∀ c : BitVec 24, u.sensors.loopOccupied = false → (s.deck l).occupied = true →
      (eightStages (recordInUse s l) c.toInt ((linkRecover l (trackStep l s)).deck l)).occupied = false →
      ∃ t, exec (.sampleOk l c) s = .next t ∧ completed t
        ∧ (u.params.mode = .manual → quiet → (t.lane l).barrier = u.barrier))
  ∧ ∀ s l, s.power = true → (s.lane l).sensors.loopOccupied = false →
    let u := s.lane l
    let unrouted : Prop := ∀ p ∈ s.routes.routes, p.2.enabled = true → p.2.task ≠ .barrierRaise ∨ p.2.taskIndex ≠ l.num
    ∃ t, exec (.loopFilterChange l true) s = .next t
      ∧ (u.params.mode = .manual → (t.lane l).seqr.state = u.seqr.state
          ∧ (u.barrier.state ≠ .down → (t.lane l).seqr.passageArmed = true)
          ∧ (u.barrier.state = .down → unrouted → (t.lane l).seqr.passageArmed = u.seqr.passageArmed))
      ∧ (u.params.mode = .auto → u.seqr.state = .held → u.barrier.state = .fault →
          (t.lane l).seqr.passageArmed = (u.seqr.passageArmed || u.seqr.released.isSome))
      ∧ KeepsAllBut yardParts s t

/-! ### Calibration -/

/-- CAL BEGIN, permitted, copies the stored record and takes the deck to CALIBRATING; CAL SET, CAL ZERO and CAL SPAN change
the working copy of a CALIBRATING deck alone, CAL ZERO to the rounded F/N and CAL SPAN to the rounded L·10·N·65 536 / D; a
change of N empties window and history, one of W the history (R5, R6, R31 to R34; at once: log 16; a due tracking step
before CAL BEGIN: log 7; the count cleared by CAL BEGIN: log 33; that STATE comes before what CAL SET, CAL ZERO and CAL SPAN
themselves refuse: log 41). -/
def Obligations.CalibrationSessionChangesTheWorkingCopy : Prop :=
  ∀ s (b : Byte) d, Takes s .office → Idx.ofNat? b.toNat = some d →
    (s.cal.switchClosed = true → s.cal.lock = .switch → (s.deck d).phase ≠ .calibrating →
      (s.lane d).params.mode ≠ .auto → (s.deck d).capture = none →
      exec (.calBegin .office b) s = .next ((((trackStep d s).setCal
          { s.cal with working := s.cal.working.put d (some (s.cal.stored.get d)) }).modDeck d fun u =>
            { u with phase := .calibrating, trackCount := 0 }).answer .office 0x70#8 .done))
    ∧ (s.cal.switchClosed = false ∨ s.cal.lock = .lockedUntilPower →
      exec (.calBegin .office b) s = .next ((trackStep d s).answer .office 0x70#8 .locked))
    ∧ ((s.deck d).phase ≠ .calibrating → ∀ f load,
      exec (.calSet .office b f) s = .next (s.answer .office 0x71#8 .state)
      ∧ exec (.calZero .office b) s = .next (s.answer .office 0x72#8 .state)
      ∧ exec (.calSpan .office b load) s = .next (s.answer .office 0x73#8 .state))
    ∧ ∀ r, (s.deck d).phase = .calibrating → s.cal.working.get d = some r →
      let work := fun x : CalRecord => s.setCal { s.cal with working := s.cal.working.put d (some x) }
      (∀ f x, calRecordOf f = some x → x.legal = true →
        ∃ t, exec (.calSet .office b f) s = .next t
          ∧ KeepsAllBut [.decks] ((work x).answer .office 0x71#8 .done) t
          ∧ (∀ k, k ≠ d → t.deck k = s.deck k)
          ∧ (x.n = r.n → x.w = r.w → t.deck d = s.deck d)
          ∧ (x.n ≠ r.n → (t.deck d).window = [] ∧ (t.deck d).sum = 0 ∧ (t.deck d).valid = false
              ∧ (t.deck d).gross = 0 ∧ (t.deck d).history = [] ∧ (t.deck d).occupied = (s.deck d).occupied)
          ∧ (x.n = r.n → x.w ≠ r.w → t.deck d = { s.deck d with history := [], stable := false }))
      ∧ (∀ f, (∀ x, calRecordOf f = some x → x.legal = false) →
        exec (.calSet .office b f) s = .next (s.answer .office 0x71#8 .range))
      ∧ ((s.deck d).valid = true → (s.deck d).stable = true →
        exec (.calZero .office b) s =
          .next ((work { r with zc := roundDiv (s.deck d).sum r.n }).answer .office 0x72#8 .done))
      ∧ ((s.deck d).valid = false ∨ (s.deck d).stable = false →
        exec (.calZero .office b) s = .next (s.answer .office 0x72#8 .motion))
      ∧ (∀ load : BitVec 32, r.max ≤ 10 * load.toNat → load.toNat ≤ r.max → (s.deck d).valid = true →
        (s.deck d).stable = true → ∀ D k : Nat, (D : Int) = (s.deck d).sum - r.n * r.zc → 0 < D →
        (k : Int) = roundDiv (load.toNat * 10 * r.n * 65536) D → 1 ≤ k → k ≤ 16777215 →
        exec (.calSpan .office b load) s = .next ((work { r with k := k }).answer .office 0x73#8 .done))

/-- A session ends without a store: CAL END of an unchanged working copy, and CAL ABANDON, discard the copy and take the deck
to STARTING, or to FAULT with its link-lost mark, window, history and weight gone and Zs kept; LOCK CALIBRATION and an
opening of the switch abandon every session without a write in flight, with notice CALIB at the office port; a closing of
the switch changes nothing else, and a change to the state it already has does nothing (R5, R29, R30, R35, R36; log 5,
log 31). -/
def Obligations.SessionsEndWithoutAStore : Prop :=
  let left := fun u : DeckUnit =>
    { u with gross := 0, valid := false, stable := false, overload := false, underload := false, centre := false,
             history := [], window := [], sum := 0, trackCount := 0,
             phase := if u.linkLost = true then .fault else .starting }
  (∀ s (b : Byte) d, Takes s .office → Idx.ofNat? b.toNat = some d → (s.deck d).phase = .calibrating →
    let ended := (s.setCal { s.cal with working := s.cal.working.put d none }).modDeck d left
    (s.cal.working.get d = some (s.cal.stored.get d) →
      exec (.calEnd .office b) s = .next (ended.answer .office 0x74#8 .done))
    ∧ exec (.calAbandon .office b) s = .next (ended.answer .office 0x75#8 .done))
  ∧ (∀ s, WriterOk s → Takes s .office → ∃ t, exec (.lockCalibration .office) s = .next t
      ∧ Answered t .office 0x78#8 .done ∧ t.cal.lock = .lockedUntilPower
      ∧ (∀ d, t.deck d = if (s.deck d).phase = .calibrating then left (s.deck d) else s.deck d)
      ∧ (∀ d, (s.deck d).phase = .calibrating → t.cal.working.get d = none ∧ Noticed t .calib .office
          ∧ Noticed t .calib (.lane d))
      ∧ t.cal.stored = s.cal.stored ∧ t.cal.audit = s.cal.audit ∧ KeepsAllBut [.decks, .cal, .ports] s t)
  ∧ (∀ s, s.power = true →
    (exec (.metrologySwitchChange true) s = .next (s.setCal { s.cal with switchClosed := true }))
    ∧ (s.cal.switchClosed = false → exec (.metrologySwitchChange false) s = .next s)
    ∧ (s.cal.switchClosed = true → ∃ t, exec (.metrologySwitchChange false) s = .next t ∧ t.cal.switchClosed = false
      ∧ (∀ d, t.deck d = if (s.deck d).phase = .calibrating ∧ writeInFlight s d = false then left (s.deck d)
          else s.deck d)
      ∧ (∀ d, (s.deck d).phase = .calibrating → writeInFlight s d = false →
          t.cal.working.get d = none ∧ Noticed t .calib .office)
      ∧ t.cal.stored = s.cal.stored ∧ t.cal.audit = s.cal.audit ∧ KeepsAllBut [.decks, .cal, .ports] s t))

/-- The three non-volatile commands begin their writes: the office port becomes busy with result BUSY and the request reaches
the writer. CAL END of a changed copy takes a reservation and forms the staged record with the next audit value; WRITE SITE
NUMBER is LOCKED once the number is set; RETRY STORE is taken with a store fault and no floor write in flight, and requests
the floor of R123 (R36, R41, R123, R124, R170, R186). -/
def Obligations.OfficeWritesBegin : Prop :=
  ∀ s, Takes s .office →
    let busy := fun (t : State) (code : Byte) => t.modPort .office fun x => { x.answered code .busy with busy := true }
    (∀ (b : Byte) d r, Idx.ofNat? b.toNat = some d → (s.deck d).phase = .calibrating → s.cal.working.get d = some r →
      let old := s.cal.stored.get d
      let c : StagedCal := { deck := d, audit := s.cal.audit + 1, oldZc := old.zc, newZc := r.zc, oldK := old.k,
                             newK := r.k, max := r.max, e := r.e }
      r ≠ old →
      (ticketRoom s.journal = true → s.cal.audit < 65535 →
        exec (.calEnd .office b) s = .next (busy (nvRequest (.cal d r (s.cal.audit + 1))
          ((s.setJournal { s.journal with reservations := s.journal.reservations + 1 }).setCal
            { s.cal with staged := some c })) 0x74#8))
      ∧ (ticketRoom s.journal = false → exec (.calEnd .office b) s = .next (s.answer .office 0x74#8 .full))
      ∧ (ticketRoom s.journal = true → 65535 ≤ s.cal.audit →
        exec (.calEnd .office b) s = .next (s.answer .office 0x74#8 .locked)))
    ∧ (∀ n : BitVec 16,
      (n.toNat ≠ 0 → s.cal.site = none →
        exec (.writeSiteNumber .office n) s = .next (busy (nvRequest (.site n.toNat) s) 0x7C#8))
      ∧ (n.toNat = 0 → exec (.writeSiteNumber .office n) s = .next (s.answer .office 0x7C#8 .range))
      ∧ (n.toNat ≠ 0 → s.cal.site ≠ none →
        exec (.writeSiteNumber .office n) s = .next (s.answer .office 0x7C#8 .locked)))
    ∧ (s.nv.storeFault = true → s.tickets.floorWrite = none →
      let v := min 4294967295 (max (s.tickets.floor + 256) (s.tickets.next + 256))
      exec (.retryStore .office) s = .next (busy (nvRequest (.floor v)
        (s.setTickets { s.tickets with floorWrite := some { value := v, retry := true } })) 0x7D#8))
    ∧ (s.nv.storeFault = false ∨ s.tickets.floorWrite ≠ none →
      exec (.retryStore .office) s = .next (s.answer .office 0x7D#8 .state))

/-- A calibration write's end. Success: the cells and the stored record take the working copy, the audit counter its staged
value, Zs becomes 0, the CALIBRATION record is appended into its reservation, the deck leaves CALIBRATING, the port answers
DONE and CALIB is raised. Failure: stored record and counter stay, reservation and staged record go, the port answers FAILED
with reason STORE, the store fault is set, and the session lasts while the switch reads closed (R37, R186). -/
def Obligations.CalibrationWriteEnds : Prop :=
  ∀ s d r a c, JournalOk s → s.power = true → s.nv.inFlight = some (.cal d r a) → s.cal.staged = some c → c.deck = d →
    (∃ t, exec (.calWriteEnd true) s = .next t ∧ t.cal.stored = s.cal.stored.put d r ∧ t.cal.audit = c.audit
      ∧ t.cal.staged = none ∧ t.cal.working.get d = none
      ∧ t.nv.cells = { s.nv.cells with cal := s.nv.cells.cal.put d (some r), audit := some a }
      ∧ t.nv.storeFault = false ∧ (t.deck d).zs = 0 ∧ (t.deck d).valid = false ∧ (t.deck d).window = []
      ∧ (t.deck d).phase = (if (s.deck d).linkLost = true then .fault else .starting)
      ∧ retainedEntry t.journal (s.journal.last + 1) = some
          { seq := s.journal.last + 1, body := .calibration c { day := s.clock.day, second := s.clock.second } }
      ∧ t.journal.reservations = 0 ∧ (t.port .office).busy = false ∧ (t.port .office).lastCommand = 0x74#8
      ∧ (t.port .office).lastResult = .done ∧ (t.port .office).reasonStore = false ∧ Noticed t .calib .office
      ∧ Noticed t .calib (.lane d) ∧ KeepsAllBut ([.cal, .nv, .allow, .tickets, .journal] ++ yardParts) s t)
    ∧ (∃ t, exec (.calWriteEnd false) s = .next t ∧ t.cal.stored = s.cal.stored ∧ t.cal.audit = s.cal.audit
      ∧ t.cal.staged = none ∧ t.nv.cells = s.nv.cells ∧ t.nv.storeFault = true ∧ t.journal.reservations = 0
      ∧ (t.port .office).busy = false ∧ (t.port .office).lastCommand = 0x74#8
      ∧ (t.port .office).lastResult = .failed ∧ (t.port .office).reasonStore = true
      ∧ (s.cal.switchClosed = true → (t.deck d).phase = (s.deck d).phase ∧ t.cal.working = s.cal.working)
      ∧ (s.cal.switchClosed = false → t.cal.working.get d = none ∧ Noticed t .calib .office
          ∧ (t.deck d).phase = (if (s.deck d).linkLost = true then .fault else .starting))
      ∧ KeepsAllBut ([.cal, .nv, .allow, .tickets, .journal] ++ yardParts) s t)

/-- The ends of the ticket unit's floor write and of the site number write. Success: the cells and the value are written, the
store fault is cleared and the office command that asked answers DONE; failure: the values stay, the store fault is set, the
command answers FAILED with reason STORE, and a floor write of the ticket unit's own raises STORE at the office port and
leaves the issue waiting for the store fault (R41, R123, R124, R186; before R126's earlier conditions: log 48). -/
def Obligations.FloorAndSiteWritesEnd : Prop :=
  ∀ s, s.power = true →
    (∀ w f, s.nv.inFlight = some (.floor w) → s.tickets.floorWrite = some f →
      (∃ t, exec (.floorWriteEnd true) s = .next t ∧ t.tickets.floor = f.value ∧ t.tickets.next = s.tickets.next
        ∧ t.tickets.queue = s.tickets.queue ∧ t.nv.cells = { s.nv.cells with floor := some w }
        ∧ t.nv.storeFault = false
        ∧ (f.retry = true → (t.port .office).busy = false ∧ (t.port .office).lastCommand = 0x7D#8
            ∧ (t.port .office).lastResult = .done ∧ (t.port .office).reasonStore = false)
        ∧ (f.retry = false → t.ports = s.ports) ∧ KeepsAllBut [.tickets, .nv, .ports] s t)
      ∧ (∃ t, exec (.floorWriteEnd false) s = .next t ∧ t.tickets.floor = s.tickets.floor ∧ t.tickets.floorWrite = none
        ∧ t.tickets.next = s.tickets.next ∧ t.tickets.queue = s.tickets.queue ∧ t.nv.cells = s.nv.cells
        ∧ t.nv.storeFault = true
        ∧ (f.retry = true → (t.port .office).busy = false ∧ (t.port .office).lastCommand = 0x7D#8
            ∧ (t.port .office).lastResult = .failed ∧ (t.port .office).reasonStore = true)
        ∧ (f.retry = false → Noticed t .store .office ∧ t.tickets.wait = .storeFault)
        ∧ KeepsAllBut [.tickets, .nv, .ports] s t))
    ∧ ∀ v, s.nv.inFlight = some (.site v) →
      (∃ t, exec (.siteNumberWriteEnd true) s = .next t ∧ t.cal = { s.cal with site := some v }
        ∧ t.nv.cells = { s.nv.cells with site := some v } ∧ t.nv.storeFault = false
        ∧ (t.port .office).busy = false ∧ (t.port .office).lastCommand = 0x7C#8 ∧ (t.port .office).lastResult = .done
        ∧ t.tickets.queue = s.tickets.queue ∧ t.tickets.next = s.tickets.next
        ∧ KeepsAllBut [.cal, .tickets, .nv, .ports] s t)
      ∧ (∃ t, exec (.siteNumberWriteEnd false) s = .next t ∧ t.nv.cells = s.nv.cells ∧ t.nv.storeFault = true
        ∧ (t.port .office).busy = false ∧ (t.port .office).lastCommand = 0x7C#8
        ∧ (t.port .office).lastResult = .failed ∧ (t.port .office).reasonStore = true
        ∧ KeepsAllBut [.nv, .ports] s t)

/-! ### Decks -/

/-- The fine weight is the nearest whole number to D·K / (N·65 536), a half going away from zero, unless that lies outside
±999 999 999; G is a whole multiple of e, ten of which are the nearest multiple of e_f to g_f, a half going away from zero
(R9, R10). -/
def Obligations.WeightsAreRoundedHalvesAwayFromZero : Prop :=
  (∀ (p : Int) (q : Nat), 0 < q →
    2 * (roundDiv p q * q - p).natAbs ≤ q
    ∧ (2 * (roundDiv p q * q - p).natAbs = q → p.natAbs < (roundDiv p q * q).natAbs)
    ∧ roundDiv (-p) q = - roundDiv p q)
  ∧ (∀ (r : CalRecord) (f : Int),
    let w := roundDiv ((f - r.n * r.zc) * r.k) (r.n * 65536)
    (w.natAbs ≤ 999999999 → fineWeight r f = w) ∧ (999999999 < w → fineWeight r f = 999999999)
    ∧ (w < -999999999 → fineWeight r f = -999999999))
  ∧ ∀ (r : CalRecord) (g : Int), 0 < r.e →
    (∃ k : Int, grossWeight r g = k * r.e) ∧ 2 * (10 * grossWeight r g - g).natAbs ≤ 10 * r.e
    ∧ (2 * (10 * grossWeight r g - g).natAbs = 10 * r.e → g.natAbs < (10 * grossWeight r g).natAbs)

/-- An OK sample: the count joins the window, which keeps its last N counts, and the link timer starts again; the weight is
valid exactly with N counts held, and then the fine and gross weights, the range flags, the history and stability, the
occupancy and the centre of zero are as R9 to R14 say of them; zero offset and parameters stay, and the tracking count
advances or clears (R1, R2, R4, R7, R8, R40; a due tracking step comes first: log 7; the link deadline from whole seconds:
log 2; expiries that wait: log 51). The deck of another lane is touched only in its capture. -/
def Obligations.SampleRunsTheStages : Prop :=
  ∀ s d (c : BitVec 24), s.power = true →
    let r := recordInUse s d
    let stored := s.cal.stored.get d
    let before := (trackStep d s).deck d
    ∃ t, exec (.sampleOk d c) s = .next t
      ∧ (let u := t.deck d
         u.window = keepLast r.n (s.deck d).window c.toInt ∧ u.sum = sumOf u.window ∧ u.linkLost = false
         ∧ u.linkTimer = (s.deck d).linkTimer.brought s (.linkSilenceTimeout d) (some (s.clock.mono * 1000 + 100))
         ∧ u.zs = before.zs ∧ u.threshold = (s.deck d).threshold ∧ u.captureTimeout = (s.deck d).captureTimeout
         ∧ u.valid = decide (u.window.length = r.n)
         ∧ ((s.deck d).phase = .calibrating → u.phase = .calibrating)
         ∧ ((s.deck d).phase ≠ .calibrating → (s.deck d).phase ≠ .active → u.valid = true → u.phase = .active ∨
              ((s.deck d).phase = .fault ∧ (s.deck d).linkLost = false))
         ∧ (u.valid = false → u.gross = 0 ∧ u.occupied = (s.deck d).occupied ∧ u.stable = false ∧ u.overload = false
              ∧ u.underload = false ∧ u.centre = false ∧ u.history = [])
         ∧ (u.valid = true → u.fine = fineWeight r u.sum ∧ u.gross = grossWeight r u.netFine
              ∧ u.overload = decide (u.gross > r.max + 9 * r.e) ∧ u.underload = decide (u.gross < -(20 * r.e))
              ∧ u.history = keepLast r.w before.history u.netFine
              ∧ (u.stable = true ↔ u.history ≠ [] ∧ u.history.length = r.w
                  ∧ ∀ x ∈ u.history, ∀ y ∈ u.history, x - y ≤ (r.mf : Int))
              ∧ u.occupied = (if (s.deck d).occupied = true then decide (5 * ((s.deck d).threshold : Int) ≤ u.netFine)
                  else decide (10 * ((s.deck d).threshold : Int) ≤ u.netFine))
              ∧ u.centre = decide (4 * u.netFine.natAbs ≤ 10 * r.e) ∧ u.netFine = u.fine - u.zs)
         ∧ u.trackCount = (if stored.tracking = true ∧ u.phase = .active ∧ u.stable = true ∧ u.occupied = false
              ∧ 2 * u.netFine.natAbs ≤ 10 * stored.e ∧ u.capture = none then before.trackCount + 1 else 0))
      ∧ (∀ k, k ≠ d → { t.deck k with capture := none, captureLate := 0 } =
          { s.deck k with capture := none, captureLate := 0 })
      ∧ ((s.deck d).capture = none → KeepsAllBut (.visits :: yardParts) s t)
      ∧ KeepsAllBut ([.visits, .tares, .allow, .tickets, .nv] ++ yardParts) s t

/-- The centre-of-zero flag after the stages, for the two scale intervals R14 works out too; it is read in the live weight
record, and neither the deck's stages nor its tests of a capture, a start, a zeroing or a tracking count depend on what it
was (R14). -/
def Obligations.CentreOfZeroIsAQuarterInterval : Prop :=
  (∀ (r : CalRecord) (u : DeckUnit),
    (weighStages r u).centre = decide (4 * (weighStages r u).netFine.natAbs ≤ 10 * r.e)
    ∧ (r.e = 5 → ((weighStages r u).centre = true ↔ (weighStages r u).netFine.natAbs ≤ 12))
    ∧ (r.e = 20 → ((weighStages r u).centre = true ↔ (weighStages r u).netFine.natAbs ≤ 50)))
  ∧ (∀ (r : CalRecord) (c : Int) (u : DeckUnit) (b : Bool),
    eightStages r c { u with centre := b } = eightStages r c u)
  ∧ (∀ (s : State) (d : Deck) (b : Bool) (r : CalRecord),
    let s' := s.modDeck d fun u => { u with centre := b }
    completes s' d = completes s d ∧ startRefusal s' d = startRefusal s d ∧ zeroRefusal s' d = zeroRefusal s d
      ∧ trackCounts r (s'.deck d) = trackCounts r (s.deck d))
  ∧ ∀ s d, (liveWeight s d).centre = (s.deck d).centre

/-- The link fault, by a CELL_ERROR sample or the silence timer, with the mark clear: mark set and timer stopped, window and
history empty, weight invalid, occupancy kept, capture ended, DECK pending at both ports; with the mark set neither does
anything (R1 to R3, R21). An expiry of the link silence timer that waits while a sample restarts it does nothing, and so with
a capture timeout whose capture has ended first (R2, R20; that waiting means having arrived: log 51). A capture timeout ends
a capture FAILED with TIMEOUT, leaving the visit (R20, R23; without a capture it does nothing: log 5). A tracking step that
is due moves Zs by g_f within 4 % of Max and clears the count (R40; as a command of its own: log 7). -/
def Obligations.DeckFaultsAndTimeouts : Prop :=
  ∀ s d, s.power = true →
    let link := (s.deck d).linkTimer
    (∀ c, (s.deck d).linkLost = true → exec (.sampleCellError d c) s = .next s)
    ∧ (0 < link.late → exec (.linkSilenceTimeout d) s = .next (s.modDeck d fun u =>
        { u with linkTimer := { link with late := link.late - 1 } }))
    ∧ (link.late = 0 → (s.deck d).linkLost = true ∨ link.deadline = none → exec (.linkSilenceTimeout d) s = .next s)
    ∧ (∀ c, link.deadline ≠ none → .linkSilenceTimeout d ∈ s.pending → ∃ t, exec (.sampleOk d c) s = .next t
        ∧ (t.deck d).linkLost = false ∧ exec (.linkSilenceTimeout d) t = .next (t.modDeck d fun u =>
            { u with linkTimer := { u.linkTimer with late := u.linkTimer.late - 1 } }))
    ∧ (∀ c i, (s.deck d).linkLost = false →
      i = .sampleCellError d c ∨ (i = .linkSilenceTimeout d ∧ link.late = 0 ∧ link.deadline ≠ none) →
      ∃ t, exec i s = .next t
        ∧ (let u := t.deck d
           u.linkLost = true ∧ u.linkTimer = link.brought s (.linkSilenceTimeout d) none ∧ u.window = [] ∧ u.sum = 0
           ∧ u.history = [] ∧ u.valid = false ∧ u.gross = 0
           ∧ u.stable = false ∧ u.overload = false ∧ u.underload = false ∧ u.centre = false
           ∧ u.occupied = (s.deck d).occupied ∧ u.trackCount = 0 ∧ u.capture = none
           ∧ u.phase = (if (s.deck d).phase = .calibrating then .calibrating else .fault))
        ∧ Noticed t .deck (.lane d) ∧ Noticed t .deck .office
        ∧ (∀ k, k ≠ d → { t.deck k with capture := none, captureLate := 0 } =
            { s.deck k with capture := none, captureLate := 0 })
        ∧ KeepsAllBut yardParts s t)
    ∧ (0 < (s.deck d).captureLate →
        exec (.captureTimeout d) s = .next (s.modDeck d fun u => { u with captureLate := u.captureLate - 1 }))
    ∧ ((s.deck d).captureLate = 0 → (s.deck d).capture = none → exec (.captureTimeout d) s = .next s)
    ∧ ((s.deck d).captureLate = 0 → (s.deck d).capture ≠ none →
      ∃ t, exec (.captureTimeout d) s = .next t ∧ SameOutsideYard s t ∧ Noticed t .capture (.lane d)
        ∧ Noticed t .capture .office
        ∧ ((∀ p ∈ s.routes.routes, p.2.fires .captureFailed (some d.num) = false) →
            (t.deck d).capture = none ∧ (t.deck d).captureLate = s.pending.count (.captureTimeout d)
            ∧ (t.lane d).report.lastCapture = .failed .timeout))
    ∧ ((s.deck d).trackCount ≠ 50 → exec (.zeroTrackingStep d) s = .next s)
    ∧ ((s.deck d).trackCount = 50 → exec (.zeroTrackingStep d) s = .next (s.modDeck d fun u =>
        if 25 * (u.zs + u.netFine).natAbs ≤ 10 * (s.cal.stored.get d).max then
          { u with zs := u.zs + u.netFine, history := u.history.map fun h => h - u.netFine, trackCount := 0 }
        else { u with trackCount := 0 }))

/-! ### Decisions and tickets -/

/-- The entry checks come in their order and the first that fails gives the reason (R56; of a missing account: log 30). The
first weight of a collection is FIRST_WEIGHED for an ACTIVE account (R55); a delivery's is tested with the net of a stored
tare, disputed below zero, or on the two-pass path with the declared payload or the category's default reserve, reduced to
the deck's Max when it is larger, and then holds its reserve and waits for its ticket or is FIRST_WEIGHED, or is REFUSED
(R53, R54). The second weight gives an exact net, CAL_CHANGED where the audit counter has moved since the first, a dispute
below zero and a ticket request otherwise (R57). A sample after which the deck is ACTIVE, stable, in range, at 20 intervals
and occupied with both beams unbroken ends the head's capture DONE, with that decision handed out (R19, R23, R58; a due
tracking step first: log 7). -/
def Obligations.WeighingDecidesTheVisit : Prop :=
  (∀ s n c k,
    (findAccount s n = none → entryChecks s n c k = some .accountSuspended)
    ∧ ∀ a, findAccount s n = some a →
      (a.status = .suspended → entryChecks s n c k = some .accountSuspended)
      ∧ (a.status = .active → a.row c = none → entryChecks s n c k = some .categoryNotPermitted)
      ∧ ∀ r, a.status = .active → a.row c = some r →
        (r.amounts.free < (k : Int) → entryChecks s n c k = some .allowance)
        ∧ ((k : Int) ≤ r.amounts.free →
          (entryChecks s n c k = none ↔ ∃ cap, Table.find s.allow.caps c = some cap ∧ (k : Int) ≤ cap.free)
          ∧ (entryChecks s n c k ≠ none → entryChecks s n c k = some .siteCap)))
  ∧ (∀ s v d,
      let max := (s.cal.stored.get d).max
      twoPassReserve s v d ≤ max
      ∧ (0 < v.payload → twoPassReserve s v d = if max < v.payload then max else v.payload)
      ∧ (∀ c, v.payload = 0 → Table.find s.allow.categories v.category = some c →
          twoPassReserve s v d = if max < c.reserve then max else c.reserve))
  ∧ (∀ s v (w : CapturedWeight) n a, findVisit s n = some v → findAccount s v.account = some a →
    let after := firstCapture v w s
    let left := fun (x : Visit) => findVisit after n = some x
    let weighed : Visit := { v with first := some w }
    let held := fun k => (modBothRows v.account v.category (fun x => { x with held := x.held + k }) s).allow
    (v.kind = .collection →
      after.allow = s.allow ∧ after.tares = s.tares ∧ after.tickets = s.tickets
      ∧ (a.status = .active → left { weighed with state := .firstWeighed })
      ∧ (a.status = .suspended → left { weighed with state := .refused, reason := some .accountSuspended }))
    ∧ (v.kind = .delivery → a.storedTareAllowed = false ∨ (tareLookup v.vehicle s).1 = none →
      let k := twoPassReserve s v w.deck
      after.tares = s.tares ∧ after.tickets = s.tickets
      ∧ (entryChecks s v.account v.category k = none →
          left { weighed with state := .firstWeighed, reserve := k } ∧ after.allow = held k)
      ∧ (∀ r, entryChecks s v.account v.category k = some r →
          left { weighed with state := .refused, reason := some r } ∧ after.allow = s.allow))
    ∧ (∀ tare manual, v.kind = .delivery → a.storedTareAllowed = true → (tareLookup v.vehicle s).1 = some (tare, manual) →
      let net : Int := w.weight - (tare : Nat)
      let used : Visit :=
        { weighed with tareSource := .stored, storedTare := some tare, manualTare := manual, net := some net }
      after.tares = (tareLookup v.vehicle s).2.tares
      ∧ (net < 0 → left { used with state := .disputed, reason := some .negativeNet } ∧ after.allow = s.allow
          ∧ after.tickets = s.tickets)
      ∧ (0 ≤ net →
        (entryChecks s v.account v.category net.toNat = none →
          left { used with state := .awaitingTicket, reserve := net.toNat } ∧ after.allow = held net.toNat
          ∧ after.tickets.queue = s.tickets.queue ++ [v.number])
        ∧ (∀ r, entryChecks s v.account v.category net.toNat = some r →
          left { used with state := .refused, reason := some r } ∧ after.allow = s.allow
          ∧ after.tickets = s.tickets))))
  ∧ (∀ s v w f n, findVisit s n = some v → v.first = some f →
    let net := if v.kind = .delivery then f.weight - w.weight else w.weight - f.weight
    let after := secondCapture v w s
    ∃ x, findVisit after n = some x ∧ x.second = some w ∧ x.tareSource = .weighed ∧ x.net = some net
      ∧ x.calChanged = (v.calChanged || decide (s.cal.audit ≠ f.audit)) ∧ x.reserve = v.reserve
      ∧ (net < 0 → x.state = .disputed ∧ x.reason = some .negativeNet ∧ after.tickets = s.tickets)
      ∧ (0 ≤ net → x.state = .awaitingTicket ∧ after.tickets.queue = s.tickets.queue ++ [v.number]))
  ∧ ∀ s d (c : BitVec 24) cap v, s.power = true → (s.deck d).capture = some cap → isHead s d cap.visit = true →
    findVisit s cap.visit = some v → v.state = .announced ∨ (v.state = .attached ∧ v.first.isSome = true) →
    (s.deck d).occupied = true → (s.lane d).sensors.beam1Broken = false → (s.lane d).sensors.beam2Broken = false →
    let u := eightStages (recordInUse s d) c.toInt ((linkRecover d (trackStep d s)).deck d)
    let w : CapturedWeight := { weight := u.gross, deck := d, time := { day := s.clock.day, second := s.clock.second },
                                audit := s.cal.audit }
    u.phase = .active → u.stable = true → u.overload = false → u.underload = false →
    20 * ((s.cal.stored.get d).e : Int) ≤ u.gross → u.occupied = true →
    ∃ t b, exec (.sampleOk d c) s = .next t ∧ KeepsAllBut yardParts s b
      ∧ (let decided := if v.state = .announced then firstCapture v w b else secondCapture v w b
         t.visits = decided.visits ∧ t.allow = decided.allow ∧ t.tares = decided.tares ∧ t.tickets = decided.tickets)
      ∧ (t.deck d).capture = none ∧ (t.lane d).report.lastCapture = .done
      ∧ Noticed t .capture (.lane d) ∧ Noticed t .capture .office
      ∧ Noticed t .decision (.lane d) ∧ Noticed t .decision .office

/-- TICKET_ISSUE with no condition of R126 failing appends the visit's TICKET record, every field of it as R128 says, with the
next ticket number, OVERRUN where a settled row is left below zero (R83) and the check word over R130's 14 words, each taken
by a rotation of the 33 bits by 5 and an exclusive-or. It settles the account's row and the category's site cap row, hands the
tare store the weighed tare of a WEIGHED visit without NEGATIVE_NET whose account keeps tares, and no other (R70), adds the
net to the delivered or the collected counter of the category and 1 to its tickets, moves the visit to TICKETED or
TICKETED_ON_SITE and tells its lane pass, queues an ORIGINAL job at the issuing lane, whose engine goes on, or reports it
QUEUE_FULL with PRINT at lane and office, takes the request off the queue and the number on by one, and raises TICKET_ISSUED,
and TICKET at lane and office (R59, R82, R90, R126 to R128, R130, R145). With a condition failing, the issue wait shows the
first one in the order of R126's table and nothing is issued, and on an empty queue it does nothing (R126, R131, R133). That
the issue is a command of its own is the model's reading (log 6). -/
def Obligations.TicketIssueTakesTheHeadOfTheQueue : Prop :=
  ∀ s, s.power = true →
    FirstFailing s (issueObstacle s)
    ∧ (s.tickets.queue = [] → exec .ticketIssue s = .next s)
    ∧ (s.tickets.queue ≠ [] → issueObstacle s ≠ .none →
      ∃ t, exec .ticketIssue s = .next t ∧ t.tickets.wait = issueObstacle s ∧ t.tickets.queue = s.tickets.queue
        ∧ t.tickets.next = s.tickets.next ∧ KeepsAllBut [.tickets, .nv] s t)
    ∧ (∀ (a : Amounts) reserve net, a.settle reserve net =
        { a with held := a.held - reserve, debited := a.debited + net,
                 overrun := a.overrun || decide ((a.allow : Int) - (a.debited + net : Nat) - (a.held - reserve : Nat) < 0) })
    ∧ (∀ site words, site < 65536 → (∀ w ∈ words, w < 65536) →
        (checkWord site words).toNat = words.foldl turned site % 2 ^ 32)
    ∧ ∀ n rest v pl f site, s.tickets.queue = n :: rest → issueObstacle s = .none → findVisit s n = some v →
      v.place = some pl → v.first = some f → s.cal.site = some site →
      let net := (v.net.getD 0).toNat
      ∃ t rec1, exec .ticketIssue s = .next t ∧ TicketOf s v pl.lane f site rec1
        ∧ t.tickets.next = s.tickets.next + 1 ∧ t.tickets.queue = rest
        ∧ t.journal.last = s.journal.last + 1 ∧ t.journal.mark = s.journal.mark
        ∧ retainedEntry t.journal (s.journal.last + 1) = some { seq := s.journal.last + 1, body := .ticket rec1 }
        ∧ (∀ a w, findAccount s v.account = some a → v.tareSource = .weighed → a.keepTares = true → v.negativeNet = false →
            (if v.kind = .delivery then v.second else v.first) = some w → t.tares = (placeTare v.vehicle w s).tares)
        ∧ (v.tareSource ≠ .weighed ∨ v.negativeNet = true
            ∨ (∀ a, findAccount s v.account = some a → a.keepTares = false) → t.tares = s.tares)
        ∧ findVisit t n = some { v with
            ticket := some s.tickets.next, reserve := if v.kind = .delivery then 0 else v.reserve,
            state := if v.second.isSome = true then .ticketed else .ticketedOnSite }
        ∧ (∀ m, m ≠ n → findVisit t m = findVisit s m)
        ∧ t.allow.accounts = (if v.kind = .delivery then
            (modRow v.account v.category (fun a => a.settle v.reserve (v.net.getD 0).toNat) s).allow.accounts
          else s.allow.accounts)
        ∧ t.allow.caps = (if v.kind = .delivery then
            s.allow.caps.map fun p => if p.1 = v.category then (p.1, p.2.settle v.reserve (v.net.getD 0).toNat) else p
          else s.allow.caps)
        ∧ (let e := (s.lane pl.lane).printer
           (e.jobs.length < 2 →
              let joined := s.modPrinter pl.lane fun x =>
                { x with jobs := x.jobs ++ [{ ticket := rec1, copy := false, walk := none }] }
              (t.lane pl.lane).printer = ((pumpEngine pl.lane joined).lane pl.lane).printer
              ∧ t.templates = (pumpEngine pl.lane joined).templates)
           ∧ (2 ≤ e.jobs.length → (t.lane pl.lane).printer = { e with lastResult := .failed .queueFull }
              ∧ t.templates = s.templates ∧ Noticed t .print (.lane pl.lane) ∧ Noticed t .print .office))
        ∧ (let before := countersOf s v.category
           countersOf t v.category =
             { delivered := if v.kind = .delivery then before.delivered + net else before.delivered
               collected := if v.kind = .delivery then before.collected else before.collected + net
               tickets := before.tickets + 1 })
        ∧ (∀ c, c ≠ v.category → countersOf t c = countersOf s c)
        ∧ t.allow = { s.allow with accounts := t.allow.accounts, caps := t.allow.caps, counters := t.allow.counters }
        ∧ (t.lane pl.lane).report.lastTicket = some s.tickets.next ∧ (t.lane pl.lane).report.lastDecision = .pass
        ∧ (∀ q ∈ t.routes.routes, q.2.Matches .ticketIssued (some pl.lane.num) → q.2.outcome ≠ .none)
        ∧ Noticed t .ticket (.lane pl.lane) ∧ Noticed t .ticket .office
        ∧ KeepsAllBut ([.visits, .tares, .allow, .tickets, .journal, .templates, .nv] ++ yardParts) s t

/-! ### Lane inputs and timers -/

/-- A beam's state is stored and does nothing else (R97). The loop becoming OCCUPIED turns a lowering arm up again with the
lower kept pending, and becoming CLEAR starts a pending lower, in every mode, where no route of a MANUAL lane moves its arm
and no passage of an AUTO lane ends there (R115). A limit ends the travel it belongs to and no other (R116) and is reported:
UP turns the light of a waiting MANUAL lane green (R113) and takes an AUTO lane from RELEASING to OPEN, or at once to
PASSING, DOWN from CLOSING to IDLE or, the deck occupied, to OCCUPIED; both limits are a FAULT (log 42), and so is a travel
that does not end in time, with LANE at both ports and an AUTO lane HELD (R103, R105, R108, R116, R117). The pass timer
closes a lane with a clear deck, and the unannounced occupancy timer raises LANE once, and runs again only after both its
conditions have ended (R109, R110; one after the other too: log 17). Deadlines are formed from whole seconds (log 2); an
input change to the level held and an expiry of a timer that does not run do nothing (log 5, log 31), and nor does one that
waited while its timer was stopped or started again (log 51). -/
def Obligations.LaneInputsAndTimersAreTaken : Prop :=
  ∀ s l, s.power = true →
    let br := (s.lane l).barrier
    let started := br.travelTimer.brought s (.travelTimeout l)
      (some (s.clock.mono * 1000 + (s.lane l).params.travelTimeout * 1000))
    let stopped := br.travelTimer.brought s (.travelTimeout l) none
    let pass := (s.lane l).seqr.passTimer
    let unrouted : Prop := ∀ p ∈ s.routes.routes, p.2.enabled = true →
      p.2.task = .barrierRaise ∨ p.2.task = .barrierLower → p.2.taskIndex ≠ l.num
    (∀ broken,
      exec (.beamFilterChange l .beam1 broken) s = .next (s.modSensors l fun x => { x with beam1Broken := broken })
      ∧ exec (.beamFilterChange l .beam2 broken) s = .next (s.modSensors l fun x => { x with beam2Broken := broken }))
    ∧ (∀ occ, (s.lane l).sensors.loopOccupied = occ → exec (.loopFilterChange l occ) s = .next s)
    ∧ (∀ occ, (s.lane l).sensors.loopOccupied ≠ occ → ∃ t, exec (.loopFilterChange l occ) s = .next t
      ∧ (t.lane l).sensors = { (s.lane l).sensors with loopOccupied := occ }
      ∧ (t.lane l).params = (s.lane l).params
      ∧ (occ = true → br.state = .lowering → (s.lane l).params.mode ≠ .manual ∨ unrouted → (t.lane l).barrier =
          { br with state := .raising, pendingLower := true, travelTimer := started })
      ∧ (occ = false → (br.state = .raising ∨ br.state = .up) → br.pendingLower = true →
          (s.lane l).params.mode = .closed ∨ ((s.lane l).params.mode = .manual ∧ unrouted)
            ∨ ((s.lane l).params.mode = .auto
                ∧ ((s.lane l).seqr.state = .closing ∨ (s.lane l).seqr.passageArmed = false)) →
          (t.lane l).barrier = { br with state := .lowering, pendingLower := false, travelTimer := started })
      ∧ (occ = true → (s.lane l).params.mode = .auto → (s.lane l).seqr.state = .opened →
          (t.lane l).seqr.state = .passing ∧ (t.lane l).seqr.passageArmed = true
          ∧ (t.lane l).seqr.passTimer = pass.brought s (.passTimeout l) none)
      ∧ KeepsAllBut (.visits :: yardParts) s t)
    ∧ (∀ x active, br.limit x = active → exec (.barrierLimitChange l x active) s = .next s)
    ∧ (∀ x, br.limit x = true → exec (.barrierLimitChange l x false) s =
        .next (s.modBarrier l fun b => b.setLimit x false))
    ∧ (∀ x, br.limit x = false → (x = .up → br.state ≠ .raising) → (x = .down → br.state ≠ .lowering) →
        br.state = .fault ∨ (br.limitUp = false ∧ br.limitDown = false) →
        exec (.barrierLimitChange l x true) s = .next (s.modBarrier l fun b => b.setLimit x true))
    ∧ (∀ x, br.limit x = false → ∃ t, exec (.barrierLimitChange l x true) s = .next t
      ∧ (t.lane l).barrier.limit x = true
      ∧ SameOutsideYard (s.modBarrier l fun b => b.setLimit x true) t
      ∧ (x = .up → br.limitDown = false → br.state = .raising →
          (s.lane l).params.mode = .closed ∨ ((s.lane l).params.mode = .manual ∧ unrouted) →
          (t.lane l).barrier = { br with state := .up, travelTimer := stopped, limitUp := true })
      ∧ (x = .up → br.limitDown = false → br.state = .raising → (s.lane l).params.mode = .manual →
          (s.lane l).seqr.raiseWait = true →
          (∀ p ∈ s.routes.routes, p.2.fires .barrierUp (some l.num) = false) →
          (t.lane l).seqr = { (s.lane l).seqr with light := .green, raiseWait := false })
      ∧ (x = .up → br.limitDown = false → br.state = .raising → (s.lane l).params.mode = .auto →
          (t.lane l).barrier = { br with state := .up, travelTimer := stopped, limitUp := true }
          ∧ ((s.lane l).seqr.state = .releasing → (t.lane l).seqr.light = .green
              ∧ ((s.lane l).sensors.loopOccupied = true → (t.lane l).seqr.state = .passing
                  ∧ (t.lane l).seqr.passageArmed = true)
              ∧ ((s.lane l).sensors.loopOccupied = false → (t.lane l).seqr.state = .opened
                  ∧ (t.lane l).seqr.passTimer = pass.brought s (.passTimeout l)
                      (some (s.clock.mono * 1000 + (s.lane l).params.passTimeout * 1000)))))
      ∧ (x = .down → br.limitUp = false → br.state = .lowering → (s.lane l).params.mode = .auto →
          (s.lane l).seqr.state = .closing →
          (t.lane l).seqr.light = .red
          ∧ ((s.lane l).seqr.occupied = false → (t.lane l).seqr.state = .idle
              ∧ (t.lane l).barrier = { br with state := .down, travelTimer := stopped, limitDown := true })
          ∧ ((s.lane l).seqr.occupied = true → (s.lane l).params.autoCapture = false →
              headClass s l = .capturable ∨ headClass s l = .none → (t.lane l).seqr.state = .occupied))
      ∧ (x = .down → br.limitUp = false → br.state = .lowering →
          (s.lane l).params.mode = .closed ∨ ((s.lane l).params.mode = .manual ∧ unrouted)
            ∨ ((s.lane l).params.mode = .auto ∧ (s.lane l).seqr.state ≠ .closing) →
          (t.lane l).barrier = { br with state := .down, travelTimer := stopped, limitDown := true })
      ∧ (br.limitUp = true ∨ br.limitDown = true → br.state ≠ .fault → (t.lane l).barrier.state = .fault
          ∧ (t.lane l).barrier.travelTimer = stopped ∧ Noticed t .lane (.lane l) ∧ Noticed t .lane .office))
    ∧ (0 < br.travelTimer.late → exec (.travelTimeout l) s = .next (s.modBarrier l fun b =>
        { b with travelTimer := { b.travelTimer with late := b.travelTimer.late - 1 } }))
    ∧ (br.travelTimer.late = 0 → br.travelTimer.deadline = none → exec (.travelTimeout l) s = .next s)
    ∧ (br.travelTimer.late = 0 → br.travelTimer.deadline ≠ none → ∃ t, exec (.travelTimeout l) s = .next t
      ∧ SameOutsideYard s t
      ∧ (t.lane l).barrier = { br with state := .fault, pendingLower := false, travelTimer := stopped }
      ∧ ((s.lane l).params.mode = .auto → (t.lane l).seqr.state = .held ∧ (t.lane l).seqr.light = .red)
      ∧ Noticed t .lane (.lane l) ∧ Noticed t .lane .office)
    ∧ (0 < pass.late → exec (.passTimeout l) s = .next (s.modSeq l fun q =>
        { q with passTimer := { pass with late := pass.late - 1 } }))
    ∧ (pass.late = 0 → pass.deadline = none → exec (.passTimeout l) s = .next s)
    ∧ (pass.late = 0 → pass.deadline ≠ none → ∃ t, exec (.passTimeout l) s = .next t ∧ SameOutsideYard s t
      ∧ Noticed t .lane (.lane l) ∧ Noticed t .lane .office
      ∧ ((s.lane l).seqr.occupied = true → t.lane l = { s.lane l with seqr := { (s.lane l).seqr with
          passTimer := pass.brought s (.passTimeout l)
            (some (s.clock.mono * 1000 + (s.lane l).params.passTimeout * 1000)) } })
      ∧ ((s.lane l).seqr.occupied = false → (t.lane l).seqr.passTimer = pass.brought s (.passTimeout l) none
          ∧ (t.lane l).seqr.released = none
          ∧ (t.lane l).seqr.light = .red ∧ ((t.lane l).seqr.state = .closing ∨ (t.lane l).seqr.state = .idle)))
    ∧ (0 < (s.lane l).seqr.unannouncedLate → exec (.unannouncedOccupancyTimeout l) s =
        .next (s.modSeq l fun q => { q with unannouncedLate := q.unannouncedLate - 1 }))
    ∧ ((s.lane l).seqr.unannouncedLate = 0 → (∀ k, (s.lane l).seqr.unannounced ≠ .running k) →
        exec (.unannouncedOccupancyTimeout l) s = .next s)
    ∧ ((s.lane l).seqr.unannouncedLate = 0 → (∃ k, (s.lane l).seqr.unannounced = .running k) →
      exec (.unannouncedOccupancyTimeout l) s =
      .next (((s.modSeq l fun q => { q with unannounced := .spent false false }).modPort (.lane l) fun x =>
        { x with pendingSet := x.pendingSet ||| 0x0020#16 }).modPort .office fun x =>
          { x with pendingSet := x.pendingSet ||| 0x0020#16 }))
    ∧ ∀ deckEnded queueEnded occupied empty deadline,
        let ended := (deckEnded = true ∨ occupied = false) ∧ (queueEnded = true ∨ empty = false)
        let u := (UnannouncedTimer.spent deckEnded queueEnded).sync occupied empty deadline
        (ended → u = .stopped) ∧ (¬ ended → ∃ x y, u = .spent x y ∧ (x = true ↔ deckEnded = true ∨ occupied = false)
          ∧ (y = true ↔ queueEnded = true ∨ empty = false))

/-! ### The printer -/

/-- The oldest byte leaves the FIFO while the printer is ready or the byte had begun when ready was withdrawn, and then the
engine goes on: with room for 41 bytes it renders the next line, and the last byte of a rendered ticket ends the job DONE,
after which a waiting job starts (R147, R150, R152). A withdrawal marks a byte as begun where one could be sent (log 26).
Paper running out pauses the job with PAPER at both ports and the pause timer started, its return goes on, and the timer's
end fails the job with PAPER_TIMEOUT (R150 to R152; a deadline from whole seconds: log 2). A queue holds two jobs at most
(R145). An expiry of a pause timer that does not run, one that waited while its pause was ended (log 51), and a change to the
level held do nothing (log 5, log 31). -/
def Obligations.PrinterEventsMoveTheJob : Prop :=
  ∀ s l, s.power = true →
    let e := (s.lane l).printer
    let stopped := e.pauseTimer.brought s (.pauseTimeout l) none
    (e.fifo = [] ∨ e.state ≠ .printing ∨ (e.ready = false ∧ e.byteInProgress = false) →
      exec (.printByteSent l) s = .next s)
    ∧ (∀ b rest, e.state = .printing → e.fifo = b :: rest → e.ready = true ∨ e.byteInProgress = true →
      let sent := s.modPrinter l fun x => { x with fifo := rest, byteInProgress := false }
      exec (.printByteSent l) s = .next (pumpEngine l sent)
      ∧ ∀ j more w, e.jobs = j :: more → j.walk = some w →
        (w.finished = false → 512 < rest.length + 41 → exec (.printByteSent l) s = .next sent)
        ∧ (w.finished = true → rest ≠ [] → exec (.printByteSent l) s = .next sent)
        ∧ (∀ bytes, w.finished = false → rest.length + 41 ≤ 512 → 512 < rest.length + 82 → w.position ≤ 95 →
          w.rendered < 24 →
          let line := Table.getD s.templates.lines LineRecord.cold w.position
          renderLine s j line = some bytes →
          exec (.printByteSent l) s = .next (sent.modPrinter l fun x =>
            { x with fifo := rest ++ bytes,
                     jobs := { j with walk := some { w with rendered := w.rendered + 1, finished := line.next.isNone,
                                                            position := line.next.getD w.position } } :: more }))
        ∧ (w.finished = true → rest = [] → more ≠ [] → e.jobs.length ≤ 2 →
          ∃ c, exec (.printByteSent l) s = .next (pumpEngine l c)
          ∧ (c.lane l).printer = { e with jobs := more, fifo := [], byteInProgress := false, state := .idle,
                                          pauseTimer := stopped, lastResult := .done }
          ∧ c.templates = (modInUse w.template (fun n => n - 1) s).templates
          ∧ KeepsAllBut (.templates :: yardParts) s c))
    ∧ (∀ b j w, e.state = .printing → e.fifo = [b] → e.ready = true ∨ e.byteInProgress = true → e.jobs = [j] →
        j.walk = some w → w.finished = true →
      ∃ t, exec (.printByteSent l) s = .next t ∧ (t.lane l).printer.jobs = []
        ∧ (t.lane l).printer.state = .idle ∧ (t.lane l).printer.lastResult = .done
        ∧ KeepsAllBut (.templates :: yardParts) s t)
    ∧ (∀ up, e.ready = up → exec (.printerReadyChange l up) s = .next s)
    ∧ (e.ready = false → exec (.printerReadyChange l true) s =
        .next (s.modPrinter l fun x => { x with ready := true, byteInProgress := false }))
    ∧ (e.ready = true → exec (.printerReadyChange l false) s =
        .next (s.modPrinter l fun x =>
          { x with ready := false, byteInProgress := decide (e.state = .printing ∧ e.fifo ≠ []) }))
    ∧ (∀ out, e.paperOut = out → exec (.paperOutChange l out) s = .next s)
    ∧ (e.paperOut = false → ∃ t, exec (.paperOutChange l true) s = .next t ∧ (t.lane l).printer.paperOut = true
        ∧ (e.state = .printing → (t.lane l).printer.state = .paused ∧ (t.lane l).printer.fifo = e.fifo
            ∧ (t.lane l).printer.pauseTimer = e.pauseTimer.brought s (.pauseTimeout l)
                (some (s.clock.mono * 1000 + e.pauseTimeout * 1000))
            ∧ Noticed t .paper (.lane l) ∧ Noticed t .paper .office)
        ∧ (e.state ≠ .printing → (t.lane l).printer = { e with paperOut := true })
        ∧ KeepsAllBut yardParts s t)
    ∧ (e.paperOut = true → e.state ≠ .paused →
        exec (.paperOutChange l false) s = .next (s.modPrinter l fun x => { x with paperOut := false }))
    ∧ (∀ j w, e.paperOut = true → e.state = .paused → e.jobs = [j] → j.walk = some w → w.finished = true → e.fifo ≠ [] →
        exec (.paperOutChange l false) s =
          .next (s.modPrinter l fun x => { x with paperOut := false, state := .printing, pauseTimer := stopped }))
    ∧ (0 < e.pauseTimer.late → exec (.pauseTimeout l) s = .next (s.modPrinter l fun x =>
        { x with pauseTimer := { x.pauseTimer with late := x.pauseTimer.late - 1 } }))
    ∧ (e.pauseTimer.late = 0 → e.pauseTimer.deadline = none → exec (.pauseTimeout l) s = .next s)
    ∧ (∀ j, e.pauseTimer.late = 0 → e.pauseTimer.deadline ≠ none → e.jobs = [j] → ∃ t, exec (.pauseTimeout l) s = .next t
        ∧ (t.lane l).printer.jobs = [] ∧ (t.lane l).printer.fifo = [] ∧ (t.lane l).printer.state = .idle
        ∧ (t.lane l).printer.pauseTimer = stopped ∧ (t.lane l).printer.lastResult = .failed .paperTimeout
        ∧ Noticed t .print (.lane l) ∧ Noticed t .print .office ∧ KeepsAllBut (.templates :: yardParts) s t)

/-! ### Power and starts -/

/-- A loss of power keeps everything but a write in flight, which has changed the cells or not, and the requests that wait
(R185, R186). A power-on or reset with retained memory valid, of a part without power or of one that runs, is a warm start:
visits, numbers, templates, lines and clock
stay, the cells are read, decks start in STARTING and ports read RESTART; otherwise it is a cold start, with sequence 1 its
RESTART record and the next ticket number the floor read (R26, R28, R42, R66, R122, R181, R187, R188). A part whose marker
is unset and whose cells were never written starts as `State.reset`; that the model begins there is its choice (log 3,
log 4), and the operands of a start are the model's (log 23), as are a start that comes to a running part (log 34) and what
a start leaves of the monotonic second of the clock's present second (log 2). -/
def Obligations.PowerIsLostAndStartsAreTaken : Prop :=
  let cellsAt := fun (s : State) (x : StartInputs) =>
    match s.nv.inFlight with
    | some r => if s.power = true ∧ x.writeLanded = true then s.nv.cells.written r else s.nv.cells
    | none => s.nv.cells
  (∀ s landed, s.power = true → ∃ cells, exec (.powerLoss landed) s = .next { s with power := false, nv := { s.nv with
        cells := cells, inFlight := none, waitingFloor := none, waitingOffice := none } }
      ∧ (s.nv.inFlight = none ∨ landed = false → cells = s.nv.cells)
      ∧ (∀ r, s.nv.inFlight = some r → landed = true → cells = s.nv.cells.written r))
  ∧ (∀ s x, x.cutShort = false → retainedValid x s = true →
    ∃ t, exec (.powerOn x) s = .next t ∧ exec (.externalReset x) s = .next t ∧ t.power = true
      ∧ t.visits = s.visits ∧ t.tares = s.tares
      ∧ t.clock = { s.clock with monoSecond := if s.clock.monoSecond = .counted then .counted else .possible }
      ∧ t.templates.lines = s.templates.lines
      ∧ t.templates.templates = s.templates.templates
      ∧ t.tickets.next = s.tickets.next ∧ t.tickets.queue = s.tickets.queue
      ∧ t.tickets.floor = readFloor (cellsAt s x) x.cells ∧ t.journal.mark = s.journal.mark
      ∧ t.cal.stored = readRecords (cellsAt s x) x.cells ∧ t.cal.audit = readAudit (cellsAt s x) x.cells
      ∧ t.cal.site = readSite (cellsAt s x) x.cells ∧ t.cal.staged = none ∧ t.cal.lock = .switch
      ∧ t.journal.reservations = 0 ∧ t.nv.cells = cellsAt s x
      ∧ (∀ d, (t.deck d).phase = .starting ∧ (t.deck d).window = [] ∧ (t.deck d).valid = false
          ∧ (t.deck d).occupied = false ∧ (t.deck d).threshold = (s.deck d).threshold)
      ∧ (∀ l, (t.lane l).params = (s.lane l).params ∧ (t.lane l).printer.jobs = []
          ∧ (t.lane l).sensors = { loopOccupied := true, beam1Broken := true, beam2Broken := true })
      ∧ (∀ p, Noticed t .restart p ∧ (t.port p).busy = false ∧ (t.port p).follow = false
          ∧ (t.port p).enabled = (s.port p).enabled ∧ (t.port p).cursor = none
          ∧ (t.port p).journalCursor = s.journal.mark + 1))
  ∧ (∀ s x, x.cutShort = false → retainedValid x s = false →
    ∃ t, exec (.powerOn x) s = .next t ∧ exec (.externalReset x) s = .next t ∧ t.power = true ∧ t.marker = true
      ∧ t.visits = State.reset.visits ∧ t.tares = State.reset.tares ∧ t.allow = State.reset.allow
      ∧ t.templates = State.reset.templates ∧ t.routes = State.reset.routes ∧ t.clock = State.reset.clock
      ∧ (let r : RestartInfo := { RestartInfo.firstCold with resume := t.tickets.next }
         t.journal = { State.reset.journal with
           ring := [(1, { seq := 1, body := .restart r { day := 0, second := 0 } })] })
      ∧ t.tickets.next = t.tickets.floor
      ∧ t.tickets.floor = readFloor (cellsAt s x) x.cells ∧ t.cal.stored = readRecords (cellsAt s x) x.cells
      ∧ t.cal.audit = readAudit (cellsAt s x) x.cells ∧ t.cal.site = readSite (cellsAt s x) x.cells
      ∧ t.nv.cells = cellsAt s x
      ∧ t.decks = State.reset.decks ∧ (∀ l, (t.lane l).params = (State.reset.lane l).params)
      ∧ ∀ p, Noticed t .restart p)
  ∧ (∀ (landed dropout : Bool) (cells : CellsReadable), cells.floor = true →
    let part : State := { State.reset with power := false, marker := false }
    let x : StartInputs := { writeLanded := landed, dropout := dropout, cells := cells, cutShort := false }
    exec (.powerOn x) part = .next State.reset ∧ exec (.externalReset x) part = .next State.reset)

end Statements
end

