-- ==== Sys2Proof/Laws/State.lean ====
section
/-! SUPPORT. What one named update of the state leaves alone, field by field, and what it makes of the field it changes: all
true by unfolding the update, so that no later proof unfolds a record update. -/

namespace Sys2Proof.Machine
open Sys2Proof

variable (s : State)

/-! ### State.modDeck -/

@[simp] theorem modDeck_power (d : Deck) (f : DeckUnit → DeckUnit) : (s.modDeck d f).power = s.power := rfl
@[simp] theorem modDeck_marker (d : Deck) (f : DeckUnit → DeckUnit) : (s.modDeck d f).marker = s.marker := rfl
@[simp] theorem modDeck_cal (d : Deck) (f : DeckUnit → DeckUnit) : (s.modDeck d f).cal = s.cal := rfl
@[simp] theorem modDeck_visits (d : Deck) (f : DeckUnit → DeckUnit) : (s.modDeck d f).visits = s.visits := rfl
@[simp] theorem modDeck_tares (d : Deck) (f : DeckUnit → DeckUnit) : (s.modDeck d f).tares = s.tares := rfl
@[simp] theorem modDeck_allow (d : Deck) (f : DeckUnit → DeckUnit) : (s.modDeck d f).allow = s.allow := rfl
@[simp] theorem modDeck_lanes (d : Deck) (f : DeckUnit → DeckUnit) : (s.modDeck d f).lanes = s.lanes := rfl
@[simp] theorem modDeck_tickets (d : Deck) (f : DeckUnit → DeckUnit) : (s.modDeck d f).tickets = s.tickets := rfl
@[simp] theorem modDeck_journal (d : Deck) (f : DeckUnit → DeckUnit) : (s.modDeck d f).journal = s.journal := rfl
@[simp] theorem modDeck_templates (d : Deck) (f : DeckUnit → DeckUnit) : (s.modDeck d f).templates = s.templates := rfl
@[simp] theorem modDeck_routes (d : Deck) (f : DeckUnit → DeckUnit) : (s.modDeck d f).routes = s.routes := rfl
@[simp] theorem modDeck_ports (d : Deck) (f : DeckUnit → DeckUnit) : (s.modDeck d f).ports = s.ports := rfl
@[simp] theorem modDeck_clock (d : Deck) (f : DeckUnit → DeckUnit) : (s.modDeck d f).clock = s.clock := rfl
@[simp] theorem modDeck_nv (d : Deck) (f : DeckUnit → DeckUnit) : (s.modDeck d f).nv = s.nv := rfl
@[simp] theorem modDeck_freeIx (d : Deck) (f : DeckUnit → DeckUnit) : (s.modDeck d f).freeIx = s.freeIx := rfl
@[simp] theorem modDeck_pending (d : Deck) (f : DeckUnit → DeckUnit) : (s.modDeck d f).pending = s.pending := rfl

/-! ### State.modLane -/

@[simp] theorem modLane_power (l : Lane) (f : LaneUnit → LaneUnit) : (s.modLane l f).power = s.power := rfl
@[simp] theorem modLane_marker (l : Lane) (f : LaneUnit → LaneUnit) : (s.modLane l f).marker = s.marker := rfl
@[simp] theorem modLane_decks (l : Lane) (f : LaneUnit → LaneUnit) : (s.modLane l f).decks = s.decks := rfl
@[simp] theorem modLane_cal (l : Lane) (f : LaneUnit → LaneUnit) : (s.modLane l f).cal = s.cal := rfl
@[simp] theorem modLane_visits (l : Lane) (f : LaneUnit → LaneUnit) : (s.modLane l f).visits = s.visits := rfl
@[simp] theorem modLane_tares (l : Lane) (f : LaneUnit → LaneUnit) : (s.modLane l f).tares = s.tares := rfl
@[simp] theorem modLane_allow (l : Lane) (f : LaneUnit → LaneUnit) : (s.modLane l f).allow = s.allow := rfl
@[simp] theorem modLane_tickets (l : Lane) (f : LaneUnit → LaneUnit) : (s.modLane l f).tickets = s.tickets := rfl
@[simp] theorem modLane_journal (l : Lane) (f : LaneUnit → LaneUnit) : (s.modLane l f).journal = s.journal := rfl
@[simp] theorem modLane_templates (l : Lane) (f : LaneUnit → LaneUnit) : (s.modLane l f).templates = s.templates := rfl
@[simp] theorem modLane_routes (l : Lane) (f : LaneUnit → LaneUnit) : (s.modLane l f).routes = s.routes := rfl
@[simp] theorem modLane_ports (l : Lane) (f : LaneUnit → LaneUnit) : (s.modLane l f).ports = s.ports := rfl
@[simp] theorem modLane_clock (l : Lane) (f : LaneUnit → LaneUnit) : (s.modLane l f).clock = s.clock := rfl
@[simp] theorem modLane_nv (l : Lane) (f : LaneUnit → LaneUnit) : (s.modLane l f).nv = s.nv := rfl
@[simp] theorem modLane_freeIx (l : Lane) (f : LaneUnit → LaneUnit) : (s.modLane l f).freeIx = s.freeIx := rfl
@[simp] theorem modLane_pending (l : Lane) (f : LaneUnit → LaneUnit) : (s.modLane l f).pending = s.pending := rfl

/-! ### State.modSeq -/

@[simp] theorem modSeq_power (l : Lane) (f : Sequencer → Sequencer) : (s.modSeq l f).power = s.power := rfl
@[simp] theorem modSeq_marker (l : Lane) (f : Sequencer → Sequencer) : (s.modSeq l f).marker = s.marker := rfl
@[simp] theorem modSeq_decks (l : Lane) (f : Sequencer → Sequencer) : (s.modSeq l f).decks = s.decks := rfl
@[simp] theorem modSeq_cal (l : Lane) (f : Sequencer → Sequencer) : (s.modSeq l f).cal = s.cal := rfl
@[simp] theorem modSeq_visits (l : Lane) (f : Sequencer → Sequencer) : (s.modSeq l f).visits = s.visits := rfl
@[simp] theorem modSeq_tares (l : Lane) (f : Sequencer → Sequencer) : (s.modSeq l f).tares = s.tares := rfl
@[simp] theorem modSeq_allow (l : Lane) (f : Sequencer → Sequencer) : (s.modSeq l f).allow = s.allow := rfl
@[simp] theorem modSeq_tickets (l : Lane) (f : Sequencer → Sequencer) : (s.modSeq l f).tickets = s.tickets := rfl
@[simp] theorem modSeq_journal (l : Lane) (f : Sequencer → Sequencer) : (s.modSeq l f).journal = s.journal := rfl
@[simp] theorem modSeq_templates (l : Lane) (f : Sequencer → Sequencer) : (s.modSeq l f).templates = s.templates := rfl
@[simp] theorem modSeq_routes (l : Lane) (f : Sequencer → Sequencer) : (s.modSeq l f).routes = s.routes := rfl
@[simp] theorem modSeq_ports (l : Lane) (f : Sequencer → Sequencer) : (s.modSeq l f).ports = s.ports := rfl
@[simp] theorem modSeq_clock (l : Lane) (f : Sequencer → Sequencer) : (s.modSeq l f).clock = s.clock := rfl
@[simp] theorem modSeq_nv (l : Lane) (f : Sequencer → Sequencer) : (s.modSeq l f).nv = s.nv := rfl
@[simp] theorem modSeq_freeIx (l : Lane) (f : Sequencer → Sequencer) : (s.modSeq l f).freeIx = s.freeIx := rfl
@[simp] theorem modSeq_pending (l : Lane) (f : Sequencer → Sequencer) : (s.modSeq l f).pending = s.pending := rfl

/-! ### State.modBarrier -/

@[simp] theorem modBarrier_power (l : Lane) (f : Barrier → Barrier) : (s.modBarrier l f).power = s.power := rfl
@[simp] theorem modBarrier_marker (l : Lane) (f : Barrier → Barrier) : (s.modBarrier l f).marker = s.marker := rfl
@[simp] theorem modBarrier_decks (l : Lane) (f : Barrier → Barrier) : (s.modBarrier l f).decks = s.decks := rfl
@[simp] theorem modBarrier_cal (l : Lane) (f : Barrier → Barrier) : (s.modBarrier l f).cal = s.cal := rfl
@[simp] theorem modBarrier_visits (l : Lane) (f : Barrier → Barrier) : (s.modBarrier l f).visits = s.visits := rfl
@[simp] theorem modBarrier_tares (l : Lane) (f : Barrier → Barrier) : (s.modBarrier l f).tares = s.tares := rfl
@[simp] theorem modBarrier_allow (l : Lane) (f : Barrier → Barrier) : (s.modBarrier l f).allow = s.allow := rfl
@[simp] theorem modBarrier_tickets (l : Lane) (f : Barrier → Barrier) : (s.modBarrier l f).tickets = s.tickets := rfl
@[simp] theorem modBarrier_journal (l : Lane) (f : Barrier → Barrier) : (s.modBarrier l f).journal = s.journal := rfl
@[simp] theorem modBarrier_templates (l : Lane) (f : Barrier → Barrier) : (s.modBarrier l f).templates = s.templates := rfl
@[simp] theorem modBarrier_routes (l : Lane) (f : Barrier → Barrier) : (s.modBarrier l f).routes = s.routes := rfl
@[simp] theorem modBarrier_ports (l : Lane) (f : Barrier → Barrier) : (s.modBarrier l f).ports = s.ports := rfl
@[simp] theorem modBarrier_clock (l : Lane) (f : Barrier → Barrier) : (s.modBarrier l f).clock = s.clock := rfl
@[simp] theorem modBarrier_nv (l : Lane) (f : Barrier → Barrier) : (s.modBarrier l f).nv = s.nv := rfl
@[simp] theorem modBarrier_freeIx (l : Lane) (f : Barrier → Barrier) : (s.modBarrier l f).freeIx = s.freeIx := rfl
@[simp] theorem modBarrier_pending (l : Lane) (f : Barrier → Barrier) : (s.modBarrier l f).pending = s.pending := rfl

/-! ### State.modReport -/

@[simp] theorem modReport_power (l : Lane) (f : LaneReport → LaneReport) : (s.modReport l f).power = s.power := rfl
@[simp] theorem modReport_marker (l : Lane) (f : LaneReport → LaneReport) : (s.modReport l f).marker = s.marker := rfl
@[simp] theorem modReport_decks (l : Lane) (f : LaneReport → LaneReport) : (s.modReport l f).decks = s.decks := rfl
@[simp] theorem modReport_cal (l : Lane) (f : LaneReport → LaneReport) : (s.modReport l f).cal = s.cal := rfl
@[simp] theorem modReport_visits (l : Lane) (f : LaneReport → LaneReport) : (s.modReport l f).visits = s.visits := rfl
@[simp] theorem modReport_tares (l : Lane) (f : LaneReport → LaneReport) : (s.modReport l f).tares = s.tares := rfl
@[simp] theorem modReport_allow (l : Lane) (f : LaneReport → LaneReport) : (s.modReport l f).allow = s.allow := rfl
@[simp] theorem modReport_tickets (l : Lane) (f : LaneReport → LaneReport) : (s.modReport l f).tickets = s.tickets := rfl
@[simp] theorem modReport_journal (l : Lane) (f : LaneReport → LaneReport) : (s.modReport l f).journal = s.journal := rfl
@[simp] theorem modReport_templates (l : Lane) (f : LaneReport → LaneReport) : (s.modReport l f).templates = s.templates := rfl
@[simp] theorem modReport_routes (l : Lane) (f : LaneReport → LaneReport) : (s.modReport l f).routes = s.routes := rfl
@[simp] theorem modReport_ports (l : Lane) (f : LaneReport → LaneReport) : (s.modReport l f).ports = s.ports := rfl
@[simp] theorem modReport_clock (l : Lane) (f : LaneReport → LaneReport) : (s.modReport l f).clock = s.clock := rfl
@[simp] theorem modReport_nv (l : Lane) (f : LaneReport → LaneReport) : (s.modReport l f).nv = s.nv := rfl
@[simp] theorem modReport_freeIx (l : Lane) (f : LaneReport → LaneReport) : (s.modReport l f).freeIx = s.freeIx := rfl
@[simp] theorem modReport_pending (l : Lane) (f : LaneReport → LaneReport) : (s.modReport l f).pending = s.pending := rfl

/-! ### State.modPrinter -/

@[simp] theorem modPrinter_power (l : Lane) (f : PrintEngine → PrintEngine) : (s.modPrinter l f).power = s.power := rfl
@[simp] theorem modPrinter_marker (l : Lane) (f : PrintEngine → PrintEngine) : (s.modPrinter l f).marker = s.marker := rfl
@[simp] theorem modPrinter_decks (l : Lane) (f : PrintEngine → PrintEngine) : (s.modPrinter l f).decks = s.decks := rfl
@[simp] theorem modPrinter_cal (l : Lane) (f : PrintEngine → PrintEngine) : (s.modPrinter l f).cal = s.cal := rfl
@[simp] theorem modPrinter_visits (l : Lane) (f : PrintEngine → PrintEngine) : (s.modPrinter l f).visits = s.visits := rfl
@[simp] theorem modPrinter_tares (l : Lane) (f : PrintEngine → PrintEngine) : (s.modPrinter l f).tares = s.tares := rfl
@[simp] theorem modPrinter_allow (l : Lane) (f : PrintEngine → PrintEngine) : (s.modPrinter l f).allow = s.allow := rfl
@[simp] theorem modPrinter_tickets (l : Lane) (f : PrintEngine → PrintEngine) : (s.modPrinter l f).tickets = s.tickets := rfl
@[simp] theorem modPrinter_journal (l : Lane) (f : PrintEngine → PrintEngine) : (s.modPrinter l f).journal = s.journal := rfl
@[simp] theorem modPrinter_templates (l : Lane) (f : PrintEngine → PrintEngine) : (s.modPrinter l f).templates = s.templates := rfl
@[simp] theorem modPrinter_routes (l : Lane) (f : PrintEngine → PrintEngine) : (s.modPrinter l f).routes = s.routes := rfl
@[simp] theorem modPrinter_ports (l : Lane) (f : PrintEngine → PrintEngine) : (s.modPrinter l f).ports = s.ports := rfl
@[simp] theorem modPrinter_clock (l : Lane) (f : PrintEngine → PrintEngine) : (s.modPrinter l f).clock = s.clock := rfl
@[simp] theorem modPrinter_nv (l : Lane) (f : PrintEngine → PrintEngine) : (s.modPrinter l f).nv = s.nv := rfl
@[simp] theorem modPrinter_freeIx (l : Lane) (f : PrintEngine → PrintEngine) : (s.modPrinter l f).freeIx = s.freeIx := rfl
@[simp] theorem modPrinter_pending (l : Lane) (f : PrintEngine → PrintEngine) : (s.modPrinter l f).pending = s.pending := rfl

/-! ### State.modParams -/

@[simp] theorem modParams_power (l : Lane) (f : LaneParams → LaneParams) : (s.modParams l f).power = s.power := rfl
@[simp] theorem modParams_marker (l : Lane) (f : LaneParams → LaneParams) : (s.modParams l f).marker = s.marker := rfl
@[simp] theorem modParams_decks (l : Lane) (f : LaneParams → LaneParams) : (s.modParams l f).decks = s.decks := rfl
@[simp] theorem modParams_cal (l : Lane) (f : LaneParams → LaneParams) : (s.modParams l f).cal = s.cal := rfl
@[simp] theorem modParams_visits (l : Lane) (f : LaneParams → LaneParams) : (s.modParams l f).visits = s.visits := rfl
@[simp] theorem modParams_tares (l : Lane) (f : LaneParams → LaneParams) : (s.modParams l f).tares = s.tares := rfl
@[simp] theorem modParams_allow (l : Lane) (f : LaneParams → LaneParams) : (s.modParams l f).allow = s.allow := rfl
@[simp] theorem modParams_tickets (l : Lane) (f : LaneParams → LaneParams) : (s.modParams l f).tickets = s.tickets := rfl
@[simp] theorem modParams_journal (l : Lane) (f : LaneParams → LaneParams) : (s.modParams l f).journal = s.journal := rfl
@[simp] theorem modParams_templates (l : Lane) (f : LaneParams → LaneParams) : (s.modParams l f).templates = s.templates := rfl
@[simp] theorem modParams_routes (l : Lane) (f : LaneParams → LaneParams) : (s.modParams l f).routes = s.routes := rfl
@[simp] theorem modParams_ports (l : Lane) (f : LaneParams → LaneParams) : (s.modParams l f).ports = s.ports := rfl
@[simp] theorem modParams_clock (l : Lane) (f : LaneParams → LaneParams) : (s.modParams l f).clock = s.clock := rfl
@[simp] theorem modParams_nv (l : Lane) (f : LaneParams → LaneParams) : (s.modParams l f).nv = s.nv := rfl
@[simp] theorem modParams_freeIx (l : Lane) (f : LaneParams → LaneParams) : (s.modParams l f).freeIx = s.freeIx := rfl
@[simp] theorem modParams_pending (l : Lane) (f : LaneParams → LaneParams) : (s.modParams l f).pending = s.pending := rfl

/-! ### State.modSensors -/

@[simp] theorem modSensors_power (l : Lane) (f : LaneSensors → LaneSensors) : (s.modSensors l f).power = s.power := rfl
@[simp] theorem modSensors_marker (l : Lane) (f : LaneSensors → LaneSensors) : (s.modSensors l f).marker = s.marker := rfl
@[simp] theorem modSensors_decks (l : Lane) (f : LaneSensors → LaneSensors) : (s.modSensors l f).decks = s.decks := rfl
@[simp] theorem modSensors_cal (l : Lane) (f : LaneSensors → LaneSensors) : (s.modSensors l f).cal = s.cal := rfl
@[simp] theorem modSensors_visits (l : Lane) (f : LaneSensors → LaneSensors) : (s.modSensors l f).visits = s.visits := rfl
@[simp] theorem modSensors_tares (l : Lane) (f : LaneSensors → LaneSensors) : (s.modSensors l f).tares = s.tares := rfl
@[simp] theorem modSensors_allow (l : Lane) (f : LaneSensors → LaneSensors) : (s.modSensors l f).allow = s.allow := rfl
@[simp] theorem modSensors_tickets (l : Lane) (f : LaneSensors → LaneSensors) : (s.modSensors l f).tickets = s.tickets := rfl
@[simp] theorem modSensors_journal (l : Lane) (f : LaneSensors → LaneSensors) : (s.modSensors l f).journal = s.journal := rfl
@[simp] theorem modSensors_templates (l : Lane) (f : LaneSensors → LaneSensors) : (s.modSensors l f).templates = s.templates := rfl
@[simp] theorem modSensors_routes (l : Lane) (f : LaneSensors → LaneSensors) : (s.modSensors l f).routes = s.routes := rfl
@[simp] theorem modSensors_ports (l : Lane) (f : LaneSensors → LaneSensors) : (s.modSensors l f).ports = s.ports := rfl
@[simp] theorem modSensors_clock (l : Lane) (f : LaneSensors → LaneSensors) : (s.modSensors l f).clock = s.clock := rfl
@[simp] theorem modSensors_nv (l : Lane) (f : LaneSensors → LaneSensors) : (s.modSensors l f).nv = s.nv := rfl
@[simp] theorem modSensors_freeIx (l : Lane) (f : LaneSensors → LaneSensors) : (s.modSensors l f).freeIx = s.freeIx := rfl
@[simp] theorem modSensors_pending (l : Lane) (f : LaneSensors → LaneSensors) : (s.modSensors l f).pending = s.pending := rfl

/-! ### State.modPort -/

@[simp] theorem modPort_power (p : PortId) (f : Port → Port) : (s.modPort p f).power = s.power := rfl
@[simp] theorem modPort_marker (p : PortId) (f : Port → Port) : (s.modPort p f).marker = s.marker := rfl
@[simp] theorem modPort_decks (p : PortId) (f : Port → Port) : (s.modPort p f).decks = s.decks := rfl
@[simp] theorem modPort_cal (p : PortId) (f : Port → Port) : (s.modPort p f).cal = s.cal := rfl
@[simp] theorem modPort_visits (p : PortId) (f : Port → Port) : (s.modPort p f).visits = s.visits := rfl
@[simp] theorem modPort_tares (p : PortId) (f : Port → Port) : (s.modPort p f).tares = s.tares := rfl
@[simp] theorem modPort_allow (p : PortId) (f : Port → Port) : (s.modPort p f).allow = s.allow := rfl
@[simp] theorem modPort_lanes (p : PortId) (f : Port → Port) : (s.modPort p f).lanes = s.lanes := rfl
@[simp] theorem modPort_tickets (p : PortId) (f : Port → Port) : (s.modPort p f).tickets = s.tickets := rfl
@[simp] theorem modPort_journal (p : PortId) (f : Port → Port) : (s.modPort p f).journal = s.journal := rfl
@[simp] theorem modPort_templates (p : PortId) (f : Port → Port) : (s.modPort p f).templates = s.templates := rfl
@[simp] theorem modPort_routes (p : PortId) (f : Port → Port) : (s.modPort p f).routes = s.routes := rfl
@[simp] theorem modPort_clock (p : PortId) (f : Port → Port) : (s.modPort p f).clock = s.clock := rfl
@[simp] theorem modPort_nv (p : PortId) (f : Port → Port) : (s.modPort p f).nv = s.nv := rfl
@[simp] theorem modPort_freeIx (p : PortId) (f : Port → Port) : (s.modPort p f).freeIx = s.freeIx := rfl
@[simp] theorem modPort_pending (p : PortId) (f : Port → Port) : (s.modPort p f).pending = s.pending := rfl

/-! ### State.modOutput -/

@[simp] theorem modOutput_power (n : Nat) (f : Output → Output) : (s.modOutput n f).power = s.power := rfl
@[simp] theorem modOutput_marker (n : Nat) (f : Output → Output) : (s.modOutput n f).marker = s.marker := rfl
@[simp] theorem modOutput_decks (n : Nat) (f : Output → Output) : (s.modOutput n f).decks = s.decks := rfl
@[simp] theorem modOutput_cal (n : Nat) (f : Output → Output) : (s.modOutput n f).cal = s.cal := rfl
@[simp] theorem modOutput_visits (n : Nat) (f : Output → Output) : (s.modOutput n f).visits = s.visits := rfl
@[simp] theorem modOutput_tares (n : Nat) (f : Output → Output) : (s.modOutput n f).tares = s.tares := rfl
@[simp] theorem modOutput_allow (n : Nat) (f : Output → Output) : (s.modOutput n f).allow = s.allow := rfl
@[simp] theorem modOutput_lanes (n : Nat) (f : Output → Output) : (s.modOutput n f).lanes = s.lanes := rfl
@[simp] theorem modOutput_tickets (n : Nat) (f : Output → Output) : (s.modOutput n f).tickets = s.tickets := rfl
@[simp] theorem modOutput_journal (n : Nat) (f : Output → Output) : (s.modOutput n f).journal = s.journal := rfl
@[simp] theorem modOutput_templates (n : Nat) (f : Output → Output) : (s.modOutput n f).templates = s.templates := rfl
@[simp] theorem modOutput_ports (n : Nat) (f : Output → Output) : (s.modOutput n f).ports = s.ports := rfl
@[simp] theorem modOutput_clock (n : Nat) (f : Output → Output) : (s.modOutput n f).clock = s.clock := rfl
@[simp] theorem modOutput_nv (n : Nat) (f : Output → Output) : (s.modOutput n f).nv = s.nv := rfl
@[simp] theorem modOutput_freeIx (n : Nat) (f : Output → Output) : (s.modOutput n f).freeIx = s.freeIx := rfl
@[simp] theorem modOutput_pending (n : Nat) (f : Output → Output) : (s.modOutput n f).pending = s.pending := rfl

/-! ### State.modQueue -/

@[simp] theorem modQueue_power (l : Lane) (f : LaneQueue → LaneQueue) : (s.modQueue l f).power = s.power := rfl
@[simp] theorem modQueue_marker (l : Lane) (f : LaneQueue → LaneQueue) : (s.modQueue l f).marker = s.marker := rfl
@[simp] theorem modQueue_decks (l : Lane) (f : LaneQueue → LaneQueue) : (s.modQueue l f).decks = s.decks := rfl
@[simp] theorem modQueue_cal (l : Lane) (f : LaneQueue → LaneQueue) : (s.modQueue l f).cal = s.cal := rfl
@[simp] theorem modQueue_tares (l : Lane) (f : LaneQueue → LaneQueue) : (s.modQueue l f).tares = s.tares := rfl
@[simp] theorem modQueue_allow (l : Lane) (f : LaneQueue → LaneQueue) : (s.modQueue l f).allow = s.allow := rfl
@[simp] theorem modQueue_lanes (l : Lane) (f : LaneQueue → LaneQueue) : (s.modQueue l f).lanes = s.lanes := rfl
@[simp] theorem modQueue_tickets (l : Lane) (f : LaneQueue → LaneQueue) : (s.modQueue l f).tickets = s.tickets := rfl
@[simp] theorem modQueue_journal (l : Lane) (f : LaneQueue → LaneQueue) : (s.modQueue l f).journal = s.journal := rfl
@[simp] theorem modQueue_templates (l : Lane) (f : LaneQueue → LaneQueue) : (s.modQueue l f).templates = s.templates := rfl
@[simp] theorem modQueue_routes (l : Lane) (f : LaneQueue → LaneQueue) : (s.modQueue l f).routes = s.routes := rfl
@[simp] theorem modQueue_ports (l : Lane) (f : LaneQueue → LaneQueue) : (s.modQueue l f).ports = s.ports := rfl
@[simp] theorem modQueue_clock (l : Lane) (f : LaneQueue → LaneQueue) : (s.modQueue l f).clock = s.clock := rfl
@[simp] theorem modQueue_nv (l : Lane) (f : LaneQueue → LaneQueue) : (s.modQueue l f).nv = s.nv := rfl
@[simp] theorem modQueue_freeIx (l : Lane) (f : LaneQueue → LaneQueue) : (s.modQueue l f).freeIx = s.freeIx := rfl
@[simp] theorem modQueue_pending (l : Lane) (f : LaneQueue → LaneQueue) : (s.modQueue l f).pending = s.pending := rfl

/-! ### modVisit -/

@[simp] theorem modVisit_power (n : Nat) (f : Visit → Visit) : (modVisit n f s).power = s.power := rfl
@[simp] theorem modVisit_marker (n : Nat) (f : Visit → Visit) : (modVisit n f s).marker = s.marker := rfl
@[simp] theorem modVisit_decks (n : Nat) (f : Visit → Visit) : (modVisit n f s).decks = s.decks := rfl
@[simp] theorem modVisit_cal (n : Nat) (f : Visit → Visit) : (modVisit n f s).cal = s.cal := rfl
@[simp] theorem modVisit_tares (n : Nat) (f : Visit → Visit) : (modVisit n f s).tares = s.tares := rfl
@[simp] theorem modVisit_allow (n : Nat) (f : Visit → Visit) : (modVisit n f s).allow = s.allow := rfl
@[simp] theorem modVisit_lanes (n : Nat) (f : Visit → Visit) : (modVisit n f s).lanes = s.lanes := rfl
@[simp] theorem modVisit_tickets (n : Nat) (f : Visit → Visit) : (modVisit n f s).tickets = s.tickets := rfl
@[simp] theorem modVisit_journal (n : Nat) (f : Visit → Visit) : (modVisit n f s).journal = s.journal := rfl
@[simp] theorem modVisit_templates (n : Nat) (f : Visit → Visit) : (modVisit n f s).templates = s.templates := rfl
@[simp] theorem modVisit_routes (n : Nat) (f : Visit → Visit) : (modVisit n f s).routes = s.routes := rfl
@[simp] theorem modVisit_ports (n : Nat) (f : Visit → Visit) : (modVisit n f s).ports = s.ports := rfl
@[simp] theorem modVisit_clock (n : Nat) (f : Visit → Visit) : (modVisit n f s).clock = s.clock := rfl
@[simp] theorem modVisit_nv (n : Nat) (f : Visit → Visit) : (modVisit n f s).nv = s.nv := rfl
@[simp] theorem modVisit_freeIx (n : Nat) (f : Visit → Visit) : (modVisit n f s).freeIx = s.freeIx := rfl
@[simp] theorem modVisit_pending (n : Nat) (f : Visit → Visit) : (modVisit n f s).pending = s.pending := rfl

/-! ### removeVisit -/

@[simp] theorem removeVisit_power (n : Nat) : (removeVisit n s).power = s.power := rfl
@[simp] theorem removeVisit_marker (n : Nat) : (removeVisit n s).marker = s.marker := rfl
@[simp] theorem removeVisit_decks (n : Nat) : (removeVisit n s).decks = s.decks := rfl
@[simp] theorem removeVisit_cal (n : Nat) : (removeVisit n s).cal = s.cal := rfl
@[simp] theorem removeVisit_tares (n : Nat) : (removeVisit n s).tares = s.tares := rfl
@[simp] theorem removeVisit_allow (n : Nat) : (removeVisit n s).allow = s.allow := rfl
@[simp] theorem removeVisit_lanes (n : Nat) : (removeVisit n s).lanes = s.lanes := rfl
@[simp] theorem removeVisit_tickets (n : Nat) : (removeVisit n s).tickets = s.tickets := rfl
@[simp] theorem removeVisit_journal (n : Nat) : (removeVisit n s).journal = s.journal := rfl
@[simp] theorem removeVisit_templates (n : Nat) : (removeVisit n s).templates = s.templates := rfl
@[simp] theorem removeVisit_routes (n : Nat) : (removeVisit n s).routes = s.routes := rfl
@[simp] theorem removeVisit_ports (n : Nat) : (removeVisit n s).ports = s.ports := rfl
@[simp] theorem removeVisit_clock (n : Nat) : (removeVisit n s).clock = s.clock := rfl
@[simp] theorem removeVisit_nv (n : Nat) : (removeVisit n s).nv = s.nv := rfl
@[simp] theorem removeVisit_freeIx (n : Nat) : (removeVisit n s).freeIx = s.freeIx := rfl
@[simp] theorem removeVisit_pending (n : Nat) : (removeVisit n s).pending = s.pending := rfl

/-! ### raiseNotice -/

@[simp] theorem raiseNotice_power (n : Notice) (p : PortId) : (raiseNotice n p s).power = s.power := rfl
@[simp] theorem raiseNotice_marker (n : Notice) (p : PortId) : (raiseNotice n p s).marker = s.marker := rfl
@[simp] theorem raiseNotice_decks (n : Notice) (p : PortId) : (raiseNotice n p s).decks = s.decks := rfl
@[simp] theorem raiseNotice_cal (n : Notice) (p : PortId) : (raiseNotice n p s).cal = s.cal := rfl
@[simp] theorem raiseNotice_visits (n : Notice) (p : PortId) : (raiseNotice n p s).visits = s.visits := rfl
@[simp] theorem raiseNotice_tares (n : Notice) (p : PortId) : (raiseNotice n p s).tares = s.tares := rfl
@[simp] theorem raiseNotice_allow (n : Notice) (p : PortId) : (raiseNotice n p s).allow = s.allow := rfl
@[simp] theorem raiseNotice_lanes (n : Notice) (p : PortId) : (raiseNotice n p s).lanes = s.lanes := rfl
@[simp] theorem raiseNotice_tickets (n : Notice) (p : PortId) : (raiseNotice n p s).tickets = s.tickets := rfl
@[simp] theorem raiseNotice_journal (n : Notice) (p : PortId) : (raiseNotice n p s).journal = s.journal := rfl
@[simp] theorem raiseNotice_templates (n : Notice) (p : PortId) : (raiseNotice n p s).templates = s.templates := rfl
@[simp] theorem raiseNotice_routes (n : Notice) (p : PortId) : (raiseNotice n p s).routes = s.routes := rfl
@[simp] theorem raiseNotice_clock (n : Notice) (p : PortId) : (raiseNotice n p s).clock = s.clock := rfl
@[simp] theorem raiseNotice_nv (n : Notice) (p : PortId) : (raiseNotice n p s).nv = s.nv := rfl
@[simp] theorem raiseNotice_freeIx (n : Notice) (p : PortId) : (raiseNotice n p s).freeIx = s.freeIx := rfl
@[simp] theorem raiseNotice_pending (n : Notice) (p : PortId) : (raiseNotice n p s).pending = s.pending := rfl

/-! ### setResult -/

@[simp] theorem setResult_power (p : PortId) (c : Byte) (r : Result) (x : ReplyData) : (setResult p c r x s).power = s.power := rfl
@[simp] theorem setResult_marker (p : PortId) (c : Byte) (r : Result) (x : ReplyData) : (setResult p c r x s).marker = s.marker := rfl
@[simp] theorem setResult_decks (p : PortId) (c : Byte) (r : Result) (x : ReplyData) : (setResult p c r x s).decks = s.decks := rfl
@[simp] theorem setResult_cal (p : PortId) (c : Byte) (r : Result) (x : ReplyData) : (setResult p c r x s).cal = s.cal := rfl
@[simp] theorem setResult_visits (p : PortId) (c : Byte) (r : Result) (x : ReplyData) : (setResult p c r x s).visits = s.visits := rfl
@[simp] theorem setResult_tares (p : PortId) (c : Byte) (r : Result) (x : ReplyData) : (setResult p c r x s).tares = s.tares := rfl
@[simp] theorem setResult_allow (p : PortId) (c : Byte) (r : Result) (x : ReplyData) : (setResult p c r x s).allow = s.allow := rfl
@[simp] theorem setResult_lanes (p : PortId) (c : Byte) (r : Result) (x : ReplyData) : (setResult p c r x s).lanes = s.lanes := rfl
@[simp] theorem setResult_tickets (p : PortId) (c : Byte) (r : Result) (x : ReplyData) : (setResult p c r x s).tickets = s.tickets := rfl
@[simp] theorem setResult_journal (p : PortId) (c : Byte) (r : Result) (x : ReplyData) : (setResult p c r x s).journal = s.journal := rfl
@[simp] theorem setResult_templates (p : PortId) (c : Byte) (r : Result) (x : ReplyData) : (setResult p c r x s).templates = s.templates := rfl
@[simp] theorem setResult_routes (p : PortId) (c : Byte) (r : Result) (x : ReplyData) : (setResult p c r x s).routes = s.routes := rfl
@[simp] theorem setResult_clock (p : PortId) (c : Byte) (r : Result) (x : ReplyData) : (setResult p c r x s).clock = s.clock := rfl
@[simp] theorem setResult_nv (p : PortId) (c : Byte) (r : Result) (x : ReplyData) : (setResult p c r x s).nv = s.nv := rfl
@[simp] theorem setResult_freeIx (p : PortId) (c : Byte) (r : Result) (x : ReplyData) : (setResult p c r x s).freeIx = s.freeIx := rfl
@[simp] theorem setResult_pending (p : PortId) (c : Byte) (r : Result) (x : ReplyData) : (setResult p c r x s).pending = s.pending := rfl

/-! ### beginExchange -/

@[simp] theorem beginExchange_power (p : PortId) : (beginExchange p s).power = s.power := rfl
@[simp] theorem beginExchange_marker (p : PortId) : (beginExchange p s).marker = s.marker := rfl
@[simp] theorem beginExchange_decks (p : PortId) : (beginExchange p s).decks = s.decks := rfl
@[simp] theorem beginExchange_cal (p : PortId) : (beginExchange p s).cal = s.cal := rfl
@[simp] theorem beginExchange_visits (p : PortId) : (beginExchange p s).visits = s.visits := rfl
@[simp] theorem beginExchange_tares (p : PortId) : (beginExchange p s).tares = s.tares := rfl
@[simp] theorem beginExchange_allow (p : PortId) : (beginExchange p s).allow = s.allow := rfl
@[simp] theorem beginExchange_lanes (p : PortId) : (beginExchange p s).lanes = s.lanes := rfl
@[simp] theorem beginExchange_tickets (p : PortId) : (beginExchange p s).tickets = s.tickets := rfl
@[simp] theorem beginExchange_journal (p : PortId) : (beginExchange p s).journal = s.journal := rfl
@[simp] theorem beginExchange_templates (p : PortId) : (beginExchange p s).templates = s.templates := rfl
@[simp] theorem beginExchange_routes (p : PortId) : (beginExchange p s).routes = s.routes := rfl
@[simp] theorem beginExchange_clock (p : PortId) : (beginExchange p s).clock = s.clock := rfl
@[simp] theorem beginExchange_nv (p : PortId) : (beginExchange p s).nv = s.nv := rfl
@[simp] theorem beginExchange_freeIx (p : PortId) : (beginExchange p s).freeIx = s.freeIx := rfl
@[simp] theorem beginExchange_pending (p : PortId) : (beginExchange p s).pending = s.pending := rfl

/-! ### setOutcome -/

@[simp] theorem setOutcome_power (i : Nat) (b : Bool) : (setOutcome i b s).power = s.power := rfl
@[simp] theorem setOutcome_marker (i : Nat) (b : Bool) : (setOutcome i b s).marker = s.marker := rfl
@[simp] theorem setOutcome_decks (i : Nat) (b : Bool) : (setOutcome i b s).decks = s.decks := rfl
@[simp] theorem setOutcome_cal (i : Nat) (b : Bool) : (setOutcome i b s).cal = s.cal := rfl
@[simp] theorem setOutcome_visits (i : Nat) (b : Bool) : (setOutcome i b s).visits = s.visits := rfl
@[simp] theorem setOutcome_tares (i : Nat) (b : Bool) : (setOutcome i b s).tares = s.tares := rfl
@[simp] theorem setOutcome_allow (i : Nat) (b : Bool) : (setOutcome i b s).allow = s.allow := rfl
@[simp] theorem setOutcome_lanes (i : Nat) (b : Bool) : (setOutcome i b s).lanes = s.lanes := rfl
@[simp] theorem setOutcome_tickets (i : Nat) (b : Bool) : (setOutcome i b s).tickets = s.tickets := rfl
@[simp] theorem setOutcome_journal (i : Nat) (b : Bool) : (setOutcome i b s).journal = s.journal := rfl
@[simp] theorem setOutcome_templates (i : Nat) (b : Bool) : (setOutcome i b s).templates = s.templates := rfl
@[simp] theorem setOutcome_ports (i : Nat) (b : Bool) : (setOutcome i b s).ports = s.ports := rfl
@[simp] theorem setOutcome_clock (i : Nat) (b : Bool) : (setOutcome i b s).clock = s.clock := rfl
@[simp] theorem setOutcome_nv (i : Nat) (b : Bool) : (setOutcome i b s).nv = s.nv := rfl
@[simp] theorem setOutcome_freeIx (i : Nat) (b : Bool) : (setOutcome i b s).freeIx = s.freeIx := rfl
@[simp] theorem setOutcome_pending (i : Nat) (b : Bool) : (setOutcome i b s).pending = s.pending := rfl

/-! ### setTare -/

@[simp] theorem setTare_power (i : Nat) (x : TareEntry) : (setTare i x s).power = s.power := rfl
@[simp] theorem setTare_marker (i : Nat) (x : TareEntry) : (setTare i x s).marker = s.marker := rfl
@[simp] theorem setTare_decks (i : Nat) (x : TareEntry) : (setTare i x s).decks = s.decks := rfl
@[simp] theorem setTare_cal (i : Nat) (x : TareEntry) : (setTare i x s).cal = s.cal := rfl
@[simp] theorem setTare_visits (i : Nat) (x : TareEntry) : (setTare i x s).visits = s.visits := rfl
@[simp] theorem setTare_allow (i : Nat) (x : TareEntry) : (setTare i x s).allow = s.allow := rfl
@[simp] theorem setTare_lanes (i : Nat) (x : TareEntry) : (setTare i x s).lanes = s.lanes := rfl
@[simp] theorem setTare_tickets (i : Nat) (x : TareEntry) : (setTare i x s).tickets = s.tickets := rfl
@[simp] theorem setTare_journal (i : Nat) (x : TareEntry) : (setTare i x s).journal = s.journal := rfl
@[simp] theorem setTare_templates (i : Nat) (x : TareEntry) : (setTare i x s).templates = s.templates := rfl
@[simp] theorem setTare_routes (i : Nat) (x : TareEntry) : (setTare i x s).routes = s.routes := rfl
@[simp] theorem setTare_ports (i : Nat) (x : TareEntry) : (setTare i x s).ports = s.ports := rfl
@[simp] theorem setTare_clock (i : Nat) (x : TareEntry) : (setTare i x s).clock = s.clock := rfl
@[simp] theorem setTare_nv (i : Nat) (x : TareEntry) : (setTare i x s).nv = s.nv := rfl
@[simp] theorem setTare_freeIx (i : Nat) (x : TareEntry) : (setTare i x s).freeIx = s.freeIx := rfl
@[simp] theorem setTare_pending (i : Nat) (x : TareEntry) : (setTare i x s).pending = s.pending := rfl

/-! ### setWait -/

@[simp] theorem setWait_power (w : IssueWait) : (setWait w s).power = s.power := rfl
@[simp] theorem setWait_marker (w : IssueWait) : (setWait w s).marker = s.marker := rfl
@[simp] theorem setWait_decks (w : IssueWait) : (setWait w s).decks = s.decks := rfl
@[simp] theorem setWait_cal (w : IssueWait) : (setWait w s).cal = s.cal := rfl
@[simp] theorem setWait_visits (w : IssueWait) : (setWait w s).visits = s.visits := rfl
@[simp] theorem setWait_tares (w : IssueWait) : (setWait w s).tares = s.tares := rfl
@[simp] theorem setWait_allow (w : IssueWait) : (setWait w s).allow = s.allow := rfl
@[simp] theorem setWait_lanes (w : IssueWait) : (setWait w s).lanes = s.lanes := rfl
@[simp] theorem setWait_journal (w : IssueWait) : (setWait w s).journal = s.journal := rfl
@[simp] theorem setWait_templates (w : IssueWait) : (setWait w s).templates = s.templates := rfl
@[simp] theorem setWait_routes (w : IssueWait) : (setWait w s).routes = s.routes := rfl
@[simp] theorem setWait_ports (w : IssueWait) : (setWait w s).ports = s.ports := rfl
@[simp] theorem setWait_clock (w : IssueWait) : (setWait w s).clock = s.clock := rfl
@[simp] theorem setWait_nv (w : IssueWait) : (setWait w s).nv = s.nv := rfl
@[simp] theorem setWait_freeIx (w : IssueWait) : (setWait w s).freeIx = s.freeIx := rfl
@[simp] theorem setWait_pending (w : IssueWait) : (setWait w s).pending = s.pending := rfl

/-! ### modRow -/

@[simp] theorem modRow_power (n c : Nat) (f : Amounts → Amounts) : (modRow n c f s).power = s.power := rfl
@[simp] theorem modRow_marker (n c : Nat) (f : Amounts → Amounts) : (modRow n c f s).marker = s.marker := rfl
@[simp] theorem modRow_decks (n c : Nat) (f : Amounts → Amounts) : (modRow n c f s).decks = s.decks := rfl
@[simp] theorem modRow_cal (n c : Nat) (f : Amounts → Amounts) : (modRow n c f s).cal = s.cal := rfl
@[simp] theorem modRow_visits (n c : Nat) (f : Amounts → Amounts) : (modRow n c f s).visits = s.visits := rfl
@[simp] theorem modRow_tares (n c : Nat) (f : Amounts → Amounts) : (modRow n c f s).tares = s.tares := rfl
@[simp] theorem modRow_lanes (n c : Nat) (f : Amounts → Amounts) : (modRow n c f s).lanes = s.lanes := rfl
@[simp] theorem modRow_tickets (n c : Nat) (f : Amounts → Amounts) : (modRow n c f s).tickets = s.tickets := rfl
@[simp] theorem modRow_journal (n c : Nat) (f : Amounts → Amounts) : (modRow n c f s).journal = s.journal := rfl
@[simp] theorem modRow_templates (n c : Nat) (f : Amounts → Amounts) : (modRow n c f s).templates = s.templates := rfl
@[simp] theorem modRow_routes (n c : Nat) (f : Amounts → Amounts) : (modRow n c f s).routes = s.routes := rfl
@[simp] theorem modRow_ports (n c : Nat) (f : Amounts → Amounts) : (modRow n c f s).ports = s.ports := rfl
@[simp] theorem modRow_clock (n c : Nat) (f : Amounts → Amounts) : (modRow n c f s).clock = s.clock := rfl
@[simp] theorem modRow_nv (n c : Nat) (f : Amounts → Amounts) : (modRow n c f s).nv = s.nv := rfl
@[simp] theorem modRow_freeIx (n c : Nat) (f : Amounts → Amounts) : (modRow n c f s).freeIx = s.freeIx := rfl
@[simp] theorem modRow_pending (n c : Nat) (f : Amounts → Amounts) : (modRow n c f s).pending = s.pending := rfl

/-! ### modCap -/

@[simp] theorem modCap_power (c : Nat) (f : Amounts → Amounts) : (modCap c f s).power = s.power := rfl
@[simp] theorem modCap_marker (c : Nat) (f : Amounts → Amounts) : (modCap c f s).marker = s.marker := rfl
@[simp] theorem modCap_decks (c : Nat) (f : Amounts → Amounts) : (modCap c f s).decks = s.decks := rfl
@[simp] theorem modCap_cal (c : Nat) (f : Amounts → Amounts) : (modCap c f s).cal = s.cal := rfl
@[simp] theorem modCap_visits (c : Nat) (f : Amounts → Amounts) : (modCap c f s).visits = s.visits := rfl
@[simp] theorem modCap_tares (c : Nat) (f : Amounts → Amounts) : (modCap c f s).tares = s.tares := rfl
@[simp] theorem modCap_lanes (c : Nat) (f : Amounts → Amounts) : (modCap c f s).lanes = s.lanes := rfl
@[simp] theorem modCap_tickets (c : Nat) (f : Amounts → Amounts) : (modCap c f s).tickets = s.tickets := rfl
@[simp] theorem modCap_journal (c : Nat) (f : Amounts → Amounts) : (modCap c f s).journal = s.journal := rfl
@[simp] theorem modCap_templates (c : Nat) (f : Amounts → Amounts) : (modCap c f s).templates = s.templates := rfl
@[simp] theorem modCap_routes (c : Nat) (f : Amounts → Amounts) : (modCap c f s).routes = s.routes := rfl
@[simp] theorem modCap_ports (c : Nat) (f : Amounts → Amounts) : (modCap c f s).ports = s.ports := rfl
@[simp] theorem modCap_clock (c : Nat) (f : Amounts → Amounts) : (modCap c f s).clock = s.clock := rfl
@[simp] theorem modCap_nv (c : Nat) (f : Amounts → Amounts) : (modCap c f s).nv = s.nv := rfl
@[simp] theorem modCap_freeIx (c : Nat) (f : Amounts → Amounts) : (modCap c f s).freeIx = s.freeIx := rfl
@[simp] theorem modCap_pending (c : Nat) (f : Amounts → Amounts) : (modCap c f s).pending = s.pending := rfl

/-! ### countTicket -/

@[simp] theorem countTicket_power (k : VisitKind) (c n : Nat) : (countTicket k c n s).power = s.power := rfl
@[simp] theorem countTicket_marker (k : VisitKind) (c n : Nat) : (countTicket k c n s).marker = s.marker := rfl
@[simp] theorem countTicket_decks (k : VisitKind) (c n : Nat) : (countTicket k c n s).decks = s.decks := rfl
@[simp] theorem countTicket_cal (k : VisitKind) (c n : Nat) : (countTicket k c n s).cal = s.cal := rfl
@[simp] theorem countTicket_visits (k : VisitKind) (c n : Nat) : (countTicket k c n s).visits = s.visits := rfl
@[simp] theorem countTicket_tares (k : VisitKind) (c n : Nat) : (countTicket k c n s).tares = s.tares := rfl
@[simp] theorem countTicket_lanes (k : VisitKind) (c n : Nat) : (countTicket k c n s).lanes = s.lanes := rfl
@[simp] theorem countTicket_tickets (k : VisitKind) (c n : Nat) : (countTicket k c n s).tickets = s.tickets := rfl
@[simp] theorem countTicket_journal (k : VisitKind) (c n : Nat) : (countTicket k c n s).journal = s.journal := rfl
@[simp] theorem countTicket_templates (k : VisitKind) (c n : Nat) : (countTicket k c n s).templates = s.templates := rfl
@[simp] theorem countTicket_routes (k : VisitKind) (c n : Nat) : (countTicket k c n s).routes = s.routes := rfl
@[simp] theorem countTicket_ports (k : VisitKind) (c n : Nat) : (countTicket k c n s).ports = s.ports := rfl
@[simp] theorem countTicket_clock (k : VisitKind) (c n : Nat) : (countTicket k c n s).clock = s.clock := rfl
@[simp] theorem countTicket_nv (k : VisitKind) (c n : Nat) : (countTicket k c n s).nv = s.nv := rfl
@[simp] theorem countTicket_freeIx (k : VisitKind) (c n : Nat) : (countTicket k c n s).freeIx = s.freeIx := rfl
@[simp] theorem countTicket_pending (k : VisitKind) (c n : Nat) : (countTicket k c n s).pending = s.pending := rfl

/-! ### beginYardDay -/

@[simp] theorem beginYardDay_power (d : Nat) : (beginYardDay d s).power = s.power := rfl
@[simp] theorem beginYardDay_marker (d : Nat) : (beginYardDay d s).marker = s.marker := rfl
@[simp] theorem beginYardDay_decks (d : Nat) : (beginYardDay d s).decks = s.decks := rfl
@[simp] theorem beginYardDay_cal (d : Nat) : (beginYardDay d s).cal = s.cal := rfl
@[simp] theorem beginYardDay_visits (d : Nat) : (beginYardDay d s).visits = s.visits := rfl
@[simp] theorem beginYardDay_tares (d : Nat) : (beginYardDay d s).tares = s.tares := rfl
@[simp] theorem beginYardDay_lanes (d : Nat) : (beginYardDay d s).lanes = s.lanes := rfl
@[simp] theorem beginYardDay_tickets (d : Nat) : (beginYardDay d s).tickets = s.tickets := rfl
@[simp] theorem beginYardDay_journal (d : Nat) : (beginYardDay d s).journal = s.journal := rfl
@[simp] theorem beginYardDay_templates (d : Nat) : (beginYardDay d s).templates = s.templates := rfl
@[simp] theorem beginYardDay_routes (d : Nat) : (beginYardDay d s).routes = s.routes := rfl
@[simp] theorem beginYardDay_ports (d : Nat) : (beginYardDay d s).ports = s.ports := rfl
@[simp] theorem beginYardDay_clock (d : Nat) : (beginYardDay d s).clock = s.clock := rfl
@[simp] theorem beginYardDay_nv (d : Nat) : (beginYardDay d s).nv = s.nv := rfl
@[simp] theorem beginYardDay_freeIx (d : Nat) : (beginYardDay d s).freeIx = s.freeIx := rfl
@[simp] theorem beginYardDay_pending (d : Nat) : (beginYardDay d s).pending = s.pending := rfl

/-! ### modInUse -/

@[simp] theorem modInUse_power (i : Nat) (f : Nat → Nat) : (modInUse i f s).power = s.power := rfl
@[simp] theorem modInUse_marker (i : Nat) (f : Nat → Nat) : (modInUse i f s).marker = s.marker := rfl
@[simp] theorem modInUse_decks (i : Nat) (f : Nat → Nat) : (modInUse i f s).decks = s.decks := rfl
@[simp] theorem modInUse_cal (i : Nat) (f : Nat → Nat) : (modInUse i f s).cal = s.cal := rfl
@[simp] theorem modInUse_visits (i : Nat) (f : Nat → Nat) : (modInUse i f s).visits = s.visits := rfl
@[simp] theorem modInUse_tares (i : Nat) (f : Nat → Nat) : (modInUse i f s).tares = s.tares := rfl
@[simp] theorem modInUse_allow (i : Nat) (f : Nat → Nat) : (modInUse i f s).allow = s.allow := rfl
@[simp] theorem modInUse_lanes (i : Nat) (f : Nat → Nat) : (modInUse i f s).lanes = s.lanes := rfl
@[simp] theorem modInUse_tickets (i : Nat) (f : Nat → Nat) : (modInUse i f s).tickets = s.tickets := rfl
@[simp] theorem modInUse_journal (i : Nat) (f : Nat → Nat) : (modInUse i f s).journal = s.journal := rfl
@[simp] theorem modInUse_routes (i : Nat) (f : Nat → Nat) : (modInUse i f s).routes = s.routes := rfl
@[simp] theorem modInUse_ports (i : Nat) (f : Nat → Nat) : (modInUse i f s).ports = s.ports := rfl
@[simp] theorem modInUse_clock (i : Nat) (f : Nat → Nat) : (modInUse i f s).clock = s.clock := rfl
@[simp] theorem modInUse_nv (i : Nat) (f : Nat → Nat) : (modInUse i f s).nv = s.nv := rfl
@[simp] theorem modInUse_freeIx (i : Nat) (f : Nat → Nat) : (modInUse i f s).freeIx = s.freeIx := rfl
@[simp] theorem modInUse_pending (i : Nat) (f : Nat → Nat) : (modInUse i f s).pending = s.pending := rfl

/-! ### setWalk -/

@[simp] theorem setWalk_power (l : Lane) (w : JobWalk) : (setWalk l w s).power = s.power := rfl
@[simp] theorem setWalk_marker (l : Lane) (w : JobWalk) : (setWalk l w s).marker = s.marker := rfl
@[simp] theorem setWalk_decks (l : Lane) (w : JobWalk) : (setWalk l w s).decks = s.decks := rfl
@[simp] theorem setWalk_cal (l : Lane) (w : JobWalk) : (setWalk l w s).cal = s.cal := rfl
@[simp] theorem setWalk_visits (l : Lane) (w : JobWalk) : (setWalk l w s).visits = s.visits := rfl
@[simp] theorem setWalk_tares (l : Lane) (w : JobWalk) : (setWalk l w s).tares = s.tares := rfl
@[simp] theorem setWalk_allow (l : Lane) (w : JobWalk) : (setWalk l w s).allow = s.allow := rfl
@[simp] theorem setWalk_tickets (l : Lane) (w : JobWalk) : (setWalk l w s).tickets = s.tickets := rfl
@[simp] theorem setWalk_journal (l : Lane) (w : JobWalk) : (setWalk l w s).journal = s.journal := rfl
@[simp] theorem setWalk_templates (l : Lane) (w : JobWalk) : (setWalk l w s).templates = s.templates := rfl
@[simp] theorem setWalk_routes (l : Lane) (w : JobWalk) : (setWalk l w s).routes = s.routes := rfl
@[simp] theorem setWalk_ports (l : Lane) (w : JobWalk) : (setWalk l w s).ports = s.ports := rfl
@[simp] theorem setWalk_clock (l : Lane) (w : JobWalk) : (setWalk l w s).clock = s.clock := rfl
@[simp] theorem setWalk_nv (l : Lane) (w : JobWalk) : (setWalk l w s).nv = s.nv := rfl
@[simp] theorem setWalk_freeIx (l : Lane) (w : JobWalk) : (setWalk l w s).freeIx = s.freeIx := rfl
@[simp] theorem setWalk_pending (l : Lane) (w : JobWalk) : (setWalk l w s).pending = s.pending := rfl

/-! ### setWorking -/

@[simp] theorem setWorking_power (d : Deck) (r : Option CalRecord) : (setWorking d r s).power = s.power := rfl
@[simp] theorem setWorking_marker (d : Deck) (r : Option CalRecord) : (setWorking d r s).marker = s.marker := rfl
@[simp] theorem setWorking_decks (d : Deck) (r : Option CalRecord) : (setWorking d r s).decks = s.decks := rfl
@[simp] theorem setWorking_visits (d : Deck) (r : Option CalRecord) : (setWorking d r s).visits = s.visits := rfl
@[simp] theorem setWorking_tares (d : Deck) (r : Option CalRecord) : (setWorking d r s).tares = s.tares := rfl
@[simp] theorem setWorking_allow (d : Deck) (r : Option CalRecord) : (setWorking d r s).allow = s.allow := rfl
@[simp] theorem setWorking_lanes (d : Deck) (r : Option CalRecord) : (setWorking d r s).lanes = s.lanes := rfl
@[simp] theorem setWorking_tickets (d : Deck) (r : Option CalRecord) : (setWorking d r s).tickets = s.tickets := rfl
@[simp] theorem setWorking_journal (d : Deck) (r : Option CalRecord) : (setWorking d r s).journal = s.journal := rfl
@[simp] theorem setWorking_templates (d : Deck) (r : Option CalRecord) : (setWorking d r s).templates = s.templates := rfl
@[simp] theorem setWorking_routes (d : Deck) (r : Option CalRecord) : (setWorking d r s).routes = s.routes := rfl
@[simp] theorem setWorking_ports (d : Deck) (r : Option CalRecord) : (setWorking d r s).ports = s.ports := rfl
@[simp] theorem setWorking_clock (d : Deck) (r : Option CalRecord) : (setWorking d r s).clock = s.clock := rfl
@[simp] theorem setWorking_nv (d : Deck) (r : Option CalRecord) : (setWorking d r s).nv = s.nv := rfl
@[simp] theorem setWorking_freeIx (d : Deck) (r : Option CalRecord) : (setWorking d r s).freeIx = s.freeIx := rfl
@[simp] theorem setWorking_pending (d : Deck) (r : Option CalRecord) : (setWorking d r s).pending = s.pending := rfl

/-! ### State.setCal -/

@[simp] theorem setCal_power (x : CalUnit) : (s.setCal x).power = s.power := rfl
@[simp] theorem setCal_marker (x : CalUnit) : (s.setCal x).marker = s.marker := rfl
@[simp] theorem setCal_decks (x : CalUnit) : (s.setCal x).decks = s.decks := rfl
@[simp] theorem setCal_visits (x : CalUnit) : (s.setCal x).visits = s.visits := rfl
@[simp] theorem setCal_tares (x : CalUnit) : (s.setCal x).tares = s.tares := rfl
@[simp] theorem setCal_allow (x : CalUnit) : (s.setCal x).allow = s.allow := rfl
@[simp] theorem setCal_lanes (x : CalUnit) : (s.setCal x).lanes = s.lanes := rfl
@[simp] theorem setCal_tickets (x : CalUnit) : (s.setCal x).tickets = s.tickets := rfl
@[simp] theorem setCal_journal (x : CalUnit) : (s.setCal x).journal = s.journal := rfl
@[simp] theorem setCal_templates (x : CalUnit) : (s.setCal x).templates = s.templates := rfl
@[simp] theorem setCal_routes (x : CalUnit) : (s.setCal x).routes = s.routes := rfl
@[simp] theorem setCal_ports (x : CalUnit) : (s.setCal x).ports = s.ports := rfl
@[simp] theorem setCal_clock (x : CalUnit) : (s.setCal x).clock = s.clock := rfl
@[simp] theorem setCal_nv (x : CalUnit) : (s.setCal x).nv = s.nv := rfl
@[simp] theorem setCal_freeIx (x : CalUnit) : (s.setCal x).freeIx = s.freeIx := rfl
@[simp] theorem setCal_pending (x : CalUnit) : (s.setCal x).pending = s.pending := rfl

/-! ### State.setVisits -/

@[simp] theorem setVisits_power (x : VisitTable) : (s.setVisits x).power = s.power := rfl
@[simp] theorem setVisits_marker (x : VisitTable) : (s.setVisits x).marker = s.marker := rfl
@[simp] theorem setVisits_decks (x : VisitTable) : (s.setVisits x).decks = s.decks := rfl
@[simp] theorem setVisits_cal (x : VisitTable) : (s.setVisits x).cal = s.cal := rfl
@[simp] theorem setVisits_tares (x : VisitTable) : (s.setVisits x).tares = s.tares := rfl
@[simp] theorem setVisits_allow (x : VisitTable) : (s.setVisits x).allow = s.allow := rfl
@[simp] theorem setVisits_lanes (x : VisitTable) : (s.setVisits x).lanes = s.lanes := rfl
@[simp] theorem setVisits_tickets (x : VisitTable) : (s.setVisits x).tickets = s.tickets := rfl
@[simp] theorem setVisits_journal (x : VisitTable) : (s.setVisits x).journal = s.journal := rfl
@[simp] theorem setVisits_templates (x : VisitTable) : (s.setVisits x).templates = s.templates := rfl
@[simp] theorem setVisits_routes (x : VisitTable) : (s.setVisits x).routes = s.routes := rfl
@[simp] theorem setVisits_ports (x : VisitTable) : (s.setVisits x).ports = s.ports := rfl
@[simp] theorem setVisits_clock (x : VisitTable) : (s.setVisits x).clock = s.clock := rfl
@[simp] theorem setVisits_nv (x : VisitTable) : (s.setVisits x).nv = s.nv := rfl
@[simp] theorem setVisits_freeIx (x : VisitTable) : (s.setVisits x).freeIx = s.freeIx := rfl
@[simp] theorem setVisits_pending (x : VisitTable) : (s.setVisits x).pending = s.pending := rfl

/-! ### State.setTares -/

@[simp] theorem setTares_power (x : TareStore) : (s.setTares x).power = s.power := rfl
@[simp] theorem setTares_marker (x : TareStore) : (s.setTares x).marker = s.marker := rfl
@[simp] theorem setTares_decks (x : TareStore) : (s.setTares x).decks = s.decks := rfl
@[simp] theorem setTares_cal (x : TareStore) : (s.setTares x).cal = s.cal := rfl
@[simp] theorem setTares_visits (x : TareStore) : (s.setTares x).visits = s.visits := rfl
@[simp] theorem setTares_allow (x : TareStore) : (s.setTares x).allow = s.allow := rfl
@[simp] theorem setTares_lanes (x : TareStore) : (s.setTares x).lanes = s.lanes := rfl
@[simp] theorem setTares_tickets (x : TareStore) : (s.setTares x).tickets = s.tickets := rfl
@[simp] theorem setTares_journal (x : TareStore) : (s.setTares x).journal = s.journal := rfl
@[simp] theorem setTares_templates (x : TareStore) : (s.setTares x).templates = s.templates := rfl
@[simp] theorem setTares_routes (x : TareStore) : (s.setTares x).routes = s.routes := rfl
@[simp] theorem setTares_ports (x : TareStore) : (s.setTares x).ports = s.ports := rfl
@[simp] theorem setTares_clock (x : TareStore) : (s.setTares x).clock = s.clock := rfl
@[simp] theorem setTares_nv (x : TareStore) : (s.setTares x).nv = s.nv := rfl
@[simp] theorem setTares_freeIx (x : TareStore) : (s.setTares x).freeIx = s.freeIx := rfl
@[simp] theorem setTares_pending (x : TareStore) : (s.setTares x).pending = s.pending := rfl

/-! ### State.setAllow -/

@[simp] theorem setAllow_power (x : AllowanceUnit) : (s.setAllow x).power = s.power := rfl
@[simp] theorem setAllow_marker (x : AllowanceUnit) : (s.setAllow x).marker = s.marker := rfl
@[simp] theorem setAllow_decks (x : AllowanceUnit) : (s.setAllow x).decks = s.decks := rfl
@[simp] theorem setAllow_cal (x : AllowanceUnit) : (s.setAllow x).cal = s.cal := rfl
@[simp] theorem setAllow_visits (x : AllowanceUnit) : (s.setAllow x).visits = s.visits := rfl
@[simp] theorem setAllow_tares (x : AllowanceUnit) : (s.setAllow x).tares = s.tares := rfl
@[simp] theorem setAllow_lanes (x : AllowanceUnit) : (s.setAllow x).lanes = s.lanes := rfl
@[simp] theorem setAllow_tickets (x : AllowanceUnit) : (s.setAllow x).tickets = s.tickets := rfl
@[simp] theorem setAllow_journal (x : AllowanceUnit) : (s.setAllow x).journal = s.journal := rfl
@[simp] theorem setAllow_templates (x : AllowanceUnit) : (s.setAllow x).templates = s.templates := rfl
@[simp] theorem setAllow_routes (x : AllowanceUnit) : (s.setAllow x).routes = s.routes := rfl
@[simp] theorem setAllow_ports (x : AllowanceUnit) : (s.setAllow x).ports = s.ports := rfl
@[simp] theorem setAllow_clock (x : AllowanceUnit) : (s.setAllow x).clock = s.clock := rfl
@[simp] theorem setAllow_nv (x : AllowanceUnit) : (s.setAllow x).nv = s.nv := rfl
@[simp] theorem setAllow_freeIx (x : AllowanceUnit) : (s.setAllow x).freeIx = s.freeIx := rfl
@[simp] theorem setAllow_pending (x : AllowanceUnit) : (s.setAllow x).pending = s.pending := rfl

/-! ### State.setTickets -/

@[simp] theorem setTickets_power (x : TicketUnit) : (s.setTickets x).power = s.power := rfl
@[simp] theorem setTickets_marker (x : TicketUnit) : (s.setTickets x).marker = s.marker := rfl
@[simp] theorem setTickets_decks (x : TicketUnit) : (s.setTickets x).decks = s.decks := rfl
@[simp] theorem setTickets_cal (x : TicketUnit) : (s.setTickets x).cal = s.cal := rfl
@[simp] theorem setTickets_visits (x : TicketUnit) : (s.setTickets x).visits = s.visits := rfl
@[simp] theorem setTickets_tares (x : TicketUnit) : (s.setTickets x).tares = s.tares := rfl
@[simp] theorem setTickets_allow (x : TicketUnit) : (s.setTickets x).allow = s.allow := rfl
@[simp] theorem setTickets_lanes (x : TicketUnit) : (s.setTickets x).lanes = s.lanes := rfl
@[simp] theorem setTickets_journal (x : TicketUnit) : (s.setTickets x).journal = s.journal := rfl
@[simp] theorem setTickets_templates (x : TicketUnit) : (s.setTickets x).templates = s.templates := rfl
@[simp] theorem setTickets_routes (x : TicketUnit) : (s.setTickets x).routes = s.routes := rfl
@[simp] theorem setTickets_ports (x : TicketUnit) : (s.setTickets x).ports = s.ports := rfl
@[simp] theorem setTickets_clock (x : TicketUnit) : (s.setTickets x).clock = s.clock := rfl
@[simp] theorem setTickets_nv (x : TicketUnit) : (s.setTickets x).nv = s.nv := rfl
@[simp] theorem setTickets_freeIx (x : TicketUnit) : (s.setTickets x).freeIx = s.freeIx := rfl
@[simp] theorem setTickets_pending (x : TicketUnit) : (s.setTickets x).pending = s.pending := rfl

/-! ### State.setJournal -/

@[simp] theorem setJournal_power (x : Journal) : (s.setJournal x).power = s.power := rfl
@[simp] theorem setJournal_marker (x : Journal) : (s.setJournal x).marker = s.marker := rfl
@[simp] theorem setJournal_decks (x : Journal) : (s.setJournal x).decks = s.decks := rfl
@[simp] theorem setJournal_cal (x : Journal) : (s.setJournal x).cal = s.cal := rfl
@[simp] theorem setJournal_visits (x : Journal) : (s.setJournal x).visits = s.visits := rfl
@[simp] theorem setJournal_tares (x : Journal) : (s.setJournal x).tares = s.tares := rfl
@[simp] theorem setJournal_allow (x : Journal) : (s.setJournal x).allow = s.allow := rfl
@[simp] theorem setJournal_lanes (x : Journal) : (s.setJournal x).lanes = s.lanes := rfl
@[simp] theorem setJournal_tickets (x : Journal) : (s.setJournal x).tickets = s.tickets := rfl
@[simp] theorem setJournal_templates (x : Journal) : (s.setJournal x).templates = s.templates := rfl
@[simp] theorem setJournal_routes (x : Journal) : (s.setJournal x).routes = s.routes := rfl
@[simp] theorem setJournal_ports (x : Journal) : (s.setJournal x).ports = s.ports := rfl
@[simp] theorem setJournal_clock (x : Journal) : (s.setJournal x).clock = s.clock := rfl
@[simp] theorem setJournal_nv (x : Journal) : (s.setJournal x).nv = s.nv := rfl
@[simp] theorem setJournal_freeIx (x : Journal) : (s.setJournal x).freeIx = s.freeIx := rfl
@[simp] theorem setJournal_pending (x : Journal) : (s.setJournal x).pending = s.pending := rfl

/-! ### State.setTemplates -/

@[simp] theorem setTemplates_power (x : TemplateStore) : (s.setTemplates x).power = s.power := rfl
@[simp] theorem setTemplates_marker (x : TemplateStore) : (s.setTemplates x).marker = s.marker := rfl
@[simp] theorem setTemplates_decks (x : TemplateStore) : (s.setTemplates x).decks = s.decks := rfl
@[simp] theorem setTemplates_cal (x : TemplateStore) : (s.setTemplates x).cal = s.cal := rfl
@[simp] theorem setTemplates_visits (x : TemplateStore) : (s.setTemplates x).visits = s.visits := rfl
@[simp] theorem setTemplates_tares (x : TemplateStore) : (s.setTemplates x).tares = s.tares := rfl
@[simp] theorem setTemplates_allow (x : TemplateStore) : (s.setTemplates x).allow = s.allow := rfl
@[simp] theorem setTemplates_lanes (x : TemplateStore) : (s.setTemplates x).lanes = s.lanes := rfl
@[simp] theorem setTemplates_tickets (x : TemplateStore) : (s.setTemplates x).tickets = s.tickets := rfl
@[simp] theorem setTemplates_journal (x : TemplateStore) : (s.setTemplates x).journal = s.journal := rfl
@[simp] theorem setTemplates_routes (x : TemplateStore) : (s.setTemplates x).routes = s.routes := rfl
@[simp] theorem setTemplates_ports (x : TemplateStore) : (s.setTemplates x).ports = s.ports := rfl
@[simp] theorem setTemplates_clock (x : TemplateStore) : (s.setTemplates x).clock = s.clock := rfl
@[simp] theorem setTemplates_nv (x : TemplateStore) : (s.setTemplates x).nv = s.nv := rfl
@[simp] theorem setTemplates_freeIx (x : TemplateStore) : (s.setTemplates x).freeIx = s.freeIx := rfl
@[simp] theorem setTemplates_pending (x : TemplateStore) : (s.setTemplates x).pending = s.pending := rfl

/-! ### State.setRoutes -/

@[simp] theorem setRoutes_power (x : RouteUnit) : (s.setRoutes x).power = s.power := rfl
@[simp] theorem setRoutes_marker (x : RouteUnit) : (s.setRoutes x).marker = s.marker := rfl
@[simp] theorem setRoutes_decks (x : RouteUnit) : (s.setRoutes x).decks = s.decks := rfl
@[simp] theorem setRoutes_cal (x : RouteUnit) : (s.setRoutes x).cal = s.cal := rfl
@[simp] theorem setRoutes_visits (x : RouteUnit) : (s.setRoutes x).visits = s.visits := rfl
@[simp] theorem setRoutes_tares (x : RouteUnit) : (s.setRoutes x).tares = s.tares := rfl
@[simp] theorem setRoutes_allow (x : RouteUnit) : (s.setRoutes x).allow = s.allow := rfl
@[simp] theorem setRoutes_lanes (x : RouteUnit) : (s.setRoutes x).lanes = s.lanes := rfl
@[simp] theorem setRoutes_tickets (x : RouteUnit) : (s.setRoutes x).tickets = s.tickets := rfl
@[simp] theorem setRoutes_journal (x : RouteUnit) : (s.setRoutes x).journal = s.journal := rfl
@[simp] theorem setRoutes_templates (x : RouteUnit) : (s.setRoutes x).templates = s.templates := rfl
@[simp] theorem setRoutes_ports (x : RouteUnit) : (s.setRoutes x).ports = s.ports := rfl
@[simp] theorem setRoutes_clock (x : RouteUnit) : (s.setRoutes x).clock = s.clock := rfl
@[simp] theorem setRoutes_nv (x : RouteUnit) : (s.setRoutes x).nv = s.nv := rfl
@[simp] theorem setRoutes_freeIx (x : RouteUnit) : (s.setRoutes x).freeIx = s.freeIx := rfl
@[simp] theorem setRoutes_pending (x : RouteUnit) : (s.setRoutes x).pending = s.pending := rfl

/-! ### State.setClock -/

@[simp] theorem setClock_power (x : Clock) : (s.setClock x).power = s.power := rfl
@[simp] theorem setClock_marker (x : Clock) : (s.setClock x).marker = s.marker := rfl
@[simp] theorem setClock_decks (x : Clock) : (s.setClock x).decks = s.decks := rfl
@[simp] theorem setClock_cal (x : Clock) : (s.setClock x).cal = s.cal := rfl
@[simp] theorem setClock_visits (x : Clock) : (s.setClock x).visits = s.visits := rfl
@[simp] theorem setClock_tares (x : Clock) : (s.setClock x).tares = s.tares := rfl
@[simp] theorem setClock_allow (x : Clock) : (s.setClock x).allow = s.allow := rfl
@[simp] theorem setClock_lanes (x : Clock) : (s.setClock x).lanes = s.lanes := rfl
@[simp] theorem setClock_tickets (x : Clock) : (s.setClock x).tickets = s.tickets := rfl
@[simp] theorem setClock_journal (x : Clock) : (s.setClock x).journal = s.journal := rfl
@[simp] theorem setClock_templates (x : Clock) : (s.setClock x).templates = s.templates := rfl
@[simp] theorem setClock_routes (x : Clock) : (s.setClock x).routes = s.routes := rfl
@[simp] theorem setClock_ports (x : Clock) : (s.setClock x).ports = s.ports := rfl
@[simp] theorem setClock_nv (x : Clock) : (s.setClock x).nv = s.nv := rfl
@[simp] theorem setClock_freeIx (x : Clock) : (s.setClock x).freeIx = s.freeIx := rfl
@[simp] theorem setClock_pending (x : Clock) : (s.setClock x).pending = s.pending := rfl

/-! ### State.setNv -/

@[simp] theorem setNv_power (x : NvUnit) : (s.setNv x).power = s.power := rfl
@[simp] theorem setNv_marker (x : NvUnit) : (s.setNv x).marker = s.marker := rfl
@[simp] theorem setNv_decks (x : NvUnit) : (s.setNv x).decks = s.decks := rfl
@[simp] theorem setNv_cal (x : NvUnit) : (s.setNv x).cal = s.cal := rfl
@[simp] theorem setNv_visits (x : NvUnit) : (s.setNv x).visits = s.visits := rfl
@[simp] theorem setNv_tares (x : NvUnit) : (s.setNv x).tares = s.tares := rfl
@[simp] theorem setNv_allow (x : NvUnit) : (s.setNv x).allow = s.allow := rfl
@[simp] theorem setNv_lanes (x : NvUnit) : (s.setNv x).lanes = s.lanes := rfl
@[simp] theorem setNv_tickets (x : NvUnit) : (s.setNv x).tickets = s.tickets := rfl
@[simp] theorem setNv_journal (x : NvUnit) : (s.setNv x).journal = s.journal := rfl
@[simp] theorem setNv_templates (x : NvUnit) : (s.setNv x).templates = s.templates := rfl
@[simp] theorem setNv_routes (x : NvUnit) : (s.setNv x).routes = s.routes := rfl
@[simp] theorem setNv_ports (x : NvUnit) : (s.setNv x).ports = s.ports := rfl
@[simp] theorem setNv_clock (x : NvUnit) : (s.setNv x).clock = s.clock := rfl
@[simp] theorem setNv_freeIx (x : NvUnit) : (s.setNv x).freeIx = s.freeIx := rfl
@[simp] theorem setNv_pending (x : NvUnit) : (s.setNv x).pending = s.pending := rfl

/-! ### What the numbered units read after an update -/

@[simp] theorem Four.get_put_self {α : Type} (x : Four α) (i : Idx) (y : α) : (x.put i y).get i = y := by cases i <;> rfl
theorem Four.get_put_of_ne {α : Type} (x : Four α) {i j : Idx} (y : α) (h : j ≠ i) : (x.put i y).get j = x.get j := by
  cases i <;> cases j <;> first | rfl | exact absurd rfl h
@[simp] theorem Four.get_map {α β : Type} (x : Four α) (f : Idx → α → β) (i : Idx) : (x.map f).get i = f i (x.get i) := by
  cases i <;> rfl
@[simp] theorem Four.get_all {α : Type} (x : α) (i : Idx) : (Four.all x).get i = x := by cases i <;> rfl
theorem Four.ext_get {α : Type} {x y : Four α} (h : ∀ i, x.get i = y.get i) : x = y := by
  cases x; cases y
  have a := h .i1; have b := h .i2; have c := h .i3; have d := h .i4
  simp only [Four.get] at a b c d
  subst a; subst b; subst c; subst d; rfl

@[simp] theorem modDeck_deck (d : Deck) (f : DeckUnit → DeckUnit) : (s.modDeck d f).deck d = f (s.deck d) := by
  cases d <;> rfl
theorem modDeck_deck_of_ne {d k : Deck} (f : DeckUnit → DeckUnit) (h : k ≠ d) : (s.modDeck d f).deck k = s.deck k :=
  Four.get_put_of_ne _ _ h
@[simp] theorem modLane_lane (l : Lane) (f : LaneUnit → LaneUnit) : (s.modLane l f).lane l = f (s.lane l) := by
  cases l <;> rfl
theorem modLane_lane_of_ne {l k : Lane} (f : LaneUnit → LaneUnit) (h : k ≠ l) : (s.modLane l f).lane k = s.lane k :=
  Four.get_put_of_ne _ _ h
@[simp] theorem modPort_port (p : PortId) (f : Port → Port) : (s.modPort p f).port p = f (s.port p) := by
  cases p with
  | office => rfl
  | lane l => cases l <;> rfl
theorem modPort_port_of_ne {p q : PortId} (f : Port → Port) (h : q ≠ p) : (s.modPort p f).port q = s.port q := by
  cases p with
  | office => cases q with
    | office => exact absurd rfl h
    | lane k => rfl
  | lane l => cases q with
    | office => rfl
    | lane k => exact Four.get_put_of_ne _ _ fun e => h (by rw [e])

@[simp] theorem modSeq_lane (l : Lane) (f : Sequencer → Sequencer) :
    (s.modSeq l f).lane l = { s.lane l with seqr := f (s.lane l).seqr } := modLane_lane s l _
@[simp] theorem modBarrier_lane (l : Lane) (f : Barrier → Barrier) :
    (s.modBarrier l f).lane l = { s.lane l with barrier := f (s.lane l).barrier } := modLane_lane s l _
@[simp] theorem modReport_lane (l : Lane) (f : LaneReport → LaneReport) :
    (s.modReport l f).lane l = { s.lane l with report := f (s.lane l).report } := modLane_lane s l _
@[simp] theorem modPrinter_lane (l : Lane) (f : PrintEngine → PrintEngine) :
    (s.modPrinter l f).lane l = { s.lane l with printer := f (s.lane l).printer } := modLane_lane s l _
@[simp] theorem modParams_lane (l : Lane) (f : LaneParams → LaneParams) :
    (s.modParams l f).lane l = { s.lane l with params := f (s.lane l).params } := modLane_lane s l _
@[simp] theorem modSensors_lane (l : Lane) (f : LaneSensors → LaneSensors) :
    (s.modSensors l f).lane l = { s.lane l with sensors := f (s.lane l).sensors } := modLane_lane s l _

@[simp] theorem modDeck_lane (d : Deck) (f : DeckUnit → DeckUnit) (l : Lane) : (s.modDeck d f).lane l = s.lane l := rfl
@[simp] theorem modDeck_port (d : Deck) (f : DeckUnit → DeckUnit) (p : PortId) : (s.modDeck d f).port p = s.port p := rfl
@[simp] theorem modLane_deck (l : Lane) (f : LaneUnit → LaneUnit) (d : Deck) : (s.modLane l f).deck d = s.deck d := rfl
@[simp] theorem modLane_port (l : Lane) (f : LaneUnit → LaneUnit) (p : PortId) : (s.modLane l f).port p = s.port p := rfl
@[simp] theorem modSeq_deck (l : Lane) (f : Sequencer → Sequencer) (d : Deck) : (s.modSeq l f).deck d = s.deck d := rfl
@[simp] theorem modSeq_port (l : Lane) (f : Sequencer → Sequencer) (p : PortId) : (s.modSeq l f).port p = s.port p := rfl
@[simp] theorem modBarrier_deck (l : Lane) (f : Barrier → Barrier) (d : Deck) : (s.modBarrier l f).deck d = s.deck d := rfl
@[simp] theorem modBarrier_port (l : Lane) (f : Barrier → Barrier) (p : PortId) : (s.modBarrier l f).port p = s.port p := rfl
@[simp] theorem modReport_deck (l : Lane) (f : LaneReport → LaneReport) (d : Deck) :
    (s.modReport l f).deck d = s.deck d := rfl
@[simp] theorem modReport_port (l : Lane) (f : LaneReport → LaneReport) (p : PortId) :
    (s.modReport l f).port p = s.port p := rfl
@[simp] theorem modPrinter_deck (l : Lane) (f : PrintEngine → PrintEngine) (d : Deck) :
    (s.modPrinter l f).deck d = s.deck d := rfl
@[simp] theorem modPrinter_port (l : Lane) (f : PrintEngine → PrintEngine) (p : PortId) :
    (s.modPrinter l f).port p = s.port p := rfl
@[simp] theorem modPort_deck (p : PortId) (f : Port → Port) (d : Deck) : (s.modPort p f).deck d = s.deck d := rfl
@[simp] theorem modPort_lane (p : PortId) (f : Port → Port) (l : Lane) : (s.modPort p f).lane l = s.lane l := rfl
@[simp] theorem modVisit_deck (n : Nat) (f : Visit → Visit) (d : Deck) : (modVisit n f s).deck d = s.deck d := rfl
@[simp] theorem modVisit_lane (n : Nat) (f : Visit → Visit) (l : Lane) : (modVisit n f s).lane l = s.lane l := rfl
@[simp] theorem modVisit_port (n : Nat) (f : Visit → Visit) (p : PortId) : (modVisit n f s).port p = s.port p := rfl

@[simp] theorem modVisit_queueOf (n : Nat) (f : Visit → Visit) (l : Lane) : queueOf (modVisit n f s) l = queueOf s l := rfl
@[simp] theorem removeVisit_queueOf (n : Nat) (l : Lane) : queueOf (removeVisit n s) l = queueOf s l := rfl
@[simp] theorem modDeck_queueOf (d : Deck) (f : DeckUnit → DeckUnit) (l : Lane) :
    queueOf (s.modDeck d f) l = queueOf s l := rfl
@[simp] theorem modLane_queueOf (k : Lane) (f : LaneUnit → LaneUnit) (l : Lane) :
    queueOf (s.modLane k f) l = queueOf s l := rfl
@[simp] theorem modPort_queueOf (p : PortId) (f : Port → Port) (l : Lane) : queueOf (s.modPort p f) l = queueOf s l := rfl
@[simp] theorem modDeck_findVisit (d : Deck) (f : DeckUnit → DeckUnit) (n : Nat) :
    findVisit (s.modDeck d f) n = findVisit s n := rfl
@[simp] theorem modLane_findVisit (l : Lane) (f : LaneUnit → LaneUnit) (n : Nat) :
    findVisit (s.modLane l f) n = findVisit s n := rfl
@[simp] theorem modPort_findVisit (p : PortId) (f : Port → Port) (n : Nat) :
    findVisit (s.modPort p f) n = findVisit s n := rfl

/-! ### Timers (R184, log 51) -/

@[simp] theorem Timer.running_eq (t : Timer) : t.running = t.deadline.isSome := rfl
@[simp] theorem Timer.stop_deadline (n : Nat) (t : Timer) : (t.stop n).deadline = none := rfl
@[simp] theorem Timer.stop_late (n : Nat) (t : Timer) : (t.stop n).late = if t.deadline.isSome then n else t.late := rfl
@[simp] theorem Timer.start_deadline (n d : Nat) (t : Timer) : (t.start n d).deadline = some d := rfl
@[simp] theorem Timer.start_late (n d : Nat) (t : Timer) :
    (t.start n d).late = if t.deadline.isSome then n else t.late := rfl
@[simp] theorem Timer.forget_deadline (t : Timer) : t.forget.deadline = t.deadline := rfl
@[simp] theorem Timer.forget_late (t : Timer) : t.forget.late = t.late - 1 := rfl
@[simp] theorem lateAfter_false (n k : Nat) : lateAfter false n k = k := rfl
@[simp] theorem lateAfter_true (n k : Nat) : lateAfter true n k = n := rfl

@[simp] theorem modDeck_waiting (d : Deck) (f : DeckUnit → DeckUnit) (c : Instr) :
    (s.modDeck d f).waiting c = s.waiting c := rfl
@[simp] theorem modLane_waiting (l : Lane) (f : LaneUnit → LaneUnit) (c : Instr) :
    (s.modLane l f).waiting c = s.waiting c := rfl
@[simp] theorem modSeq_waiting (l : Lane) (f : Sequencer → Sequencer) (c : Instr) :
    (s.modSeq l f).waiting c = s.waiting c := rfl
@[simp] theorem modBarrier_waiting (l : Lane) (f : Barrier → Barrier) (c : Instr) :
    (s.modBarrier l f).waiting c = s.waiting c := rfl
@[simp] theorem modPrinter_waiting (l : Lane) (f : PrintEngine → PrintEngine) (c : Instr) :
    (s.modPrinter l f).waiting c = s.waiting c := rfl
@[simp] theorem modPort_waiting (p : PortId) (f : Port → Port) (c : Instr) :
    (s.modPort p f).waiting c = s.waiting c := rfl
@[simp] theorem modOutput_waiting (n : Nat) (f : Output → Output) (c : Instr) :
    (s.modOutput n f).waiting c = s.waiting c := rfl

/-- A late expiry is forgotten, with power or without. -/
theorem whenDue_of_late {late : Nat} (h : 0 < late) (f g : State → State) : whenDue late f g s = .next (f s) := by
  simp [whenDue, h]

/-- Any other expiry is taken as an event of a running part. -/
theorem whenDue_of_due (f g : State → State) : whenDue 0 f g s = whenRunning s g := rfl

end Sys2Proof.Machine
end

