-- ==== Sys2Proof/Laws/Effects.lean ====
section
/-! SUPPORT. What the shared operations can do, once each: raising an event changes nothing outside what fired routes reach;
the sequencer at work changes nothing outside the yard's moving parts. A lemma `op_outsideRoutes` or `op_outsideYard` says
that `op` keeps all of a state that `State.outsideRoutes` or `State.outsideYard` shows. At the end, the monotonic second, the
byte of ANY, and what a print engine reads. -/

namespace Sys2Proof.Machine
open Sys2Proof

variable (s : State)

/-! ### Updates -/

theorem modDeck_outsideRoutes (d : Deck) (f : DeckUnit → DeckUnit) (h : ∀ u, (f u).outsideRoutes = u.outsideRoutes) :
    (s.modDeck d f).outsideRoutes = s.outsideRoutes := by
  cases d <;> simp only [State.outsideRoutes, State.modDeck, Four.put, Four.get, Four.map, h]

theorem modDeck_outsideYard (d : Deck) (f : DeckUnit → DeckUnit) (h : ∀ u, (f u).outsideRoutes = u.outsideRoutes) :
    (s.modDeck d f).outsideYard = s.outsideYard := by
  cases d <;> simp only [State.outsideYard, State.modDeck, Four.put, Four.get, Four.map, h]

theorem modLane_outsideRoutes (l : Lane) (f : LaneUnit → LaneUnit)
    (h : (f (s.lane l)).outsideRoutes = (s.lane l).outsideRoutes) : (s.modLane l f).outsideRoutes = s.outsideRoutes := by
  cases l <;> simp only [State.lane, Four.get] at h <;>
    simp only [State.outsideRoutes, State.modLane, Four.put, Four.get, Four.map, h]

theorem modLane_outsideYard (l : Lane) (f : LaneUnit → LaneUnit)
    (h : (f (s.lane l)).outsideYard = (s.lane l).outsideYard) : (s.modLane l f).outsideYard = s.outsideYard := by
  cases l <;> simp only [State.lane, Four.get] at h <;>
    simp only [State.outsideYard, State.modLane, Four.put, Four.get, Four.map, h]

theorem modPort_outsideRoutes (p : PortId) (f : Port → Port) (h : ∀ x, (f x).outsideRoutes = x.outsideRoutes) :
    (s.modPort p f).outsideRoutes = s.outsideRoutes := by
  cases p with
  | office => simp only [State.outsideRoutes, State.modPort, Ports.put, Ports.get, h]
  | lane l => cases l <;> simp only [State.outsideRoutes, State.modPort, Ports.put, Ports.get, Four.put, Four.get,
      Four.map, h]

/-- What is unchanged outside the routes' reach is unchanged outside the yard's. -/
theorem outsideYard_of_outsideRoutes {s t : State} (h : t.outsideRoutes = s.outsideRoutes) :
    t.outsideYard = s.outsideYard := by
  have e : ∀ x : State, x.outsideYard =
      { x.outsideRoutes with lanes := x.outsideRoutes.lanes.map fun _ u => u.outsideYard } := fun x => rfl
  rw [e, e, h]

/-- What is unchanged outside the yard's reach is unchanged in every part but the yard's four. -/
theorem hide_of_outsideYard {s t : State} (ps : List Part) (hp : ∀ p ∈ yardParts, p ∈ ps)
    (h : t.outsideYard = s.outsideYard) : t.hide ps = s.hide ps := by
  have e : ∀ x : State, x.hide ps = x.outsideYard.hide ps := fun x => by
    have a := hp .decks (by decide); have b := hp .lanes (by decide)
    have c := hp .routes (by decide); have d := hp .ports (by decide)
    simp only [State.hide, State.outsideYard, a, b, c, d, if_true]
  rw [e, e s, h]

theorem SameOutsideYard.keepsAllBut {s t : State} {ps : List Part} (hp : ∀ p ∈ yardParts, p ∈ ps)
    (h : SameOutsideYard s t) : KeepsAllBut ps s t := hide_of_outsideYard ps hp h

/-! ### Frames compose -/

theorem KeepsAllBut.refl (ps : List Part) : KeepsAllBut ps s s := rfl

theorem KeepsAllBut.trans {ps : List Part} {s t u : State} (h : KeepsAllBut ps s t) (k : KeepsAllBut ps t u) :
    KeepsAllBut ps s u := Eq.trans k h

theorem KeepsAllBut.mono {ps qs : List Part} {s t : State} (hq : ∀ p ∈ ps, p ∈ qs) (h : KeepsAllBut ps s t) :
    KeepsAllBut qs s t := by
  have e : ∀ x : State, x.hide qs = (x.hide ps).hide qs := fun x => by
    have k : ∀ (p : Part) {α : Type} (a b : α), (if p ∈ qs then a else b) = if p ∈ qs then a else (if p ∈ ps then a else b) := by
      intro p α a b
      by_cases hp : p ∈ qs
      · simp [hp]
      · have hn : p ∉ ps := fun m => hp (hq p m)
        simp [hp, hn]
    simp only [State.hide]
    congr 1 <;> exact k _ _ _
  unfold KeepsAllBut
  rw [e t, e s, h]

/-! ### Events and the routes they fire (R158 to R161) -/

@[simp] theorem raiseNotice_outsideRoutes (n : Notice) (p : PortId) : (raiseNotice n p s).outsideRoutes = s.outsideRoutes :=
  modPort_outsideRoutes s p _ fun _ => rfl

@[simp] theorem raiseLaneOffice_outsideRoutes (n : Notice) (l : Lane) :
    (raiseLaneOffice n l s).outsideRoutes = s.outsideRoutes := by
  simp [raiseLaneOffice]

@[simp] theorem modOutput_outsideRoutes (n : Nat) (f : Output → Output) :
    (s.modOutput n f).outsideRoutes = s.outsideRoutes := rfl

@[simp] theorem raiseRequest_outsideRoutes (l : Lane) : (raiseRequest l s).outsideRoutes = s.outsideRoutes := by
  refine modLane_outsideRoutes s l _ ?_
  dsimp only
  split <;> rfl

@[simp] theorem lowerRequest_outsideRoutes (l : Lane) : (lowerRequest l s).outsideRoutes = s.outsideRoutes := by
  refine modLane_outsideRoutes s l _ ?_
  dsimp only
  split
  · split <;> rfl
  · split <;> rfl
  all_goals rfl

@[simp] theorem lowerUnlessDown_outsideRoutes (l : Lane) : (lowerUnlessDown l s).outsideRoutes = s.outsideRoutes := by
  unfold lowerUnlessDown; split <;> simp

@[simp] theorem acceptStart_outsideRoutes (l : Lane) (n : Nat) : (acceptStart l n s).outsideRoutes = s.outsideRoutes := by
  unfold acceptStart
  dsimp only
  split
  · exact (modLane_outsideRoutes _ l _ rfl).trans (modDeck_outsideRoutes s l _ fun _ => rfl)
  · exact modDeck_outsideRoutes s l _ fun _ => rfl

@[simp] theorem reportNotStarted_outsideRoutes (l : Lane) (r : Result) :
    (reportNotStarted l r s).outsideRoutes = s.outsideRoutes := modLane_outsideRoutes s l _ rfl

theorem lightTask_outsideRoutes (x : Light) (l : Lane) : (lightTask x l s).2.outsideRoutes = s.outsideRoutes := by
  unfold lightTask
  split
  · rfl
  · exact modLane_outsideRoutes s l _ rfl
  · exact modLane_outsideRoutes s l _ rfl

theorem barrierTask_outsideRoutes (f : Lane → State → State) (hf : ∀ l s, (f l s).outsideRoutes = s.outsideRoutes)
    (l : Lane) : (barrierTask f l s).2.outsideRoutes = s.outsideRoutes := by
  unfold barrierTask
  split
  · exact hf l s
  · rfl

@[simp] theorem startForHead_outsideRoutes (l : Lane) (n : Nat) :
    (startForHead l n s).2.outsideRoutes = s.outsideRoutes := by
  unfold startForHead; split <;> simp

theorem startCaptureTask_outsideRoutes (l : Lane) : (startCaptureTask l s).2.outsideRoutes = s.outsideRoutes := by
  unfold startCaptureTask
  split
  · split
    · rfl
    · split <;> simp
  · rfl

theorem onTaskLane_outsideRoutes (i : Nat) (f : Lane → State → Bool × State)
    (hf : ∀ l, (f l s).2.outsideRoutes = s.outsideRoutes) : (onTaskLane i s f).2.outsideRoutes = s.outsideRoutes := by
  unfold onTaskLane
  split
  · rfl
  · exact hf _

theorem takeTask_outsideRoutes (t : TaskKind) (i : Nat) : (takeTask t i s).2.outsideRoutes = s.outsideRoutes := by
  cases t <;> simp only [takeTask, outputSet, outputClear, outputLevel, outputPulse, modOutput_outsideRoutes]
  · exact onTaskLane_outsideRoutes s i _ fun l => lightTask_outsideRoutes s _ l
  · exact onTaskLane_outsideRoutes s i _ fun l => lightTask_outsideRoutes s _ l
  · exact onTaskLane_outsideRoutes s i _ fun l => barrierTask_outsideRoutes s _ (fun l s => raiseRequest_outsideRoutes s l) l
  · exact onTaskLane_outsideRoutes s i _ fun l => barrierTask_outsideRoutes s _ (fun l s => lowerRequest_outsideRoutes s l) l
  · exact onTaskLane_outsideRoutes s i _ fun l => startCaptureTask_outsideRoutes s l
  · split <;> simp

theorem setOutcome_outsideRoutes (i : Nat) (b : Bool) : (setOutcome i b s).outsideRoutes = s.outsideRoutes := by
  simp only [State.outsideRoutes, setOutcome, RouteUnit.outsideRoutes, Table.mapVals, List.map_map]
  congr 2
  refine List.map_congr_left fun p _ => ?_
  simp only [Function.comp]
  split <;> rfl

theorem fireRoute_outsideRoutes (k : EventKind) (x : Option Nat) (p : Nat × Route) :
    (fireRoute k x s p).outsideRoutes = s.outsideRoutes := by
  unfold fireRoute
  split
  · exact (setOutcome_outsideRoutes _ _ _).trans (takeTask_outsideRoutes s _ _)
  · rfl

/-- An event changes nothing but what its routes reach. -/
@[simp] theorem raiseEvent_outsideRoutes (k : EventKind) (x : Option Nat) :
    (raiseEvent k x s).outsideRoutes = s.outsideRoutes := by
  unfold raiseEvent
  generalize s.routes.routes = t
  induction t generalizing s with
  | nil => rfl
  | cons p t ih => exact (ih _).trans (fireRoute_outsideRoutes s k x p)

@[simp] theorem raiseAt_outsideRoutes (k : EventKind) (l : Lane) : (raiseAt k l s).outsideRoutes = s.outsideRoutes :=
  raiseEvent_outsideRoutes s k _

/-- An event raised while a head leaves reaches no more than any other. -/
@[simp] theorem raiseLeaving_outsideRoutes (k : EventKind) (l : Lane) :
    (raiseLeaving k l s).outsideRoutes = s.outsideRoutes := by
  unfold raiseLeaving
  generalize s.routes.routes = t
  induction t generalizing s with
  | nil => rfl
  | cons p t ih =>
    refine (ih _).trans ?_
    unfold fireRouteLeaving
    split
    · exact setOutcome_outsideRoutes s _ _
    · exact fireRoute_outsideRoutes s k _ p

/-- `Route.fires` answers whether the route matches the event (R157). -/
theorem Route.fires_iff (r : Route) (k : EventKind) (x : Option Nat) : r.fires k x = true ↔ r.Matches k x := by
  unfold Route.fires Route.Matches
  cases r.eventIndex <;> simp [@eq_comm _ x, and_assoc]

/-- What one record does with an event: a route that matches hands its task on and keeps whether it was taken, and another
does nothing (R158). -/
theorem fireRoute_eq (k : EventKind) (x : Option Nat) (p : Nat × Route) : fireRoute k x s p =
    if p.2.Matches k x then
      setOutcome p.1 (takeTask p.2.task p.2.taskIndex s).1 (takeTask p.2.task p.2.taskIndex s).2
    else s := by
  simp only [fireRoute, Route.fires_iff]

/-- An event that matches no route changes nothing. -/
theorem raiseEvent_of_none (k : EventKind) (x : Option Nat) (h : ∀ p ∈ s.routes.routes, p.2.fires k x = false) :
    raiseEvent k x s = s := by
  unfold raiseEvent
  generalize s.routes.routes = t at h
  induction t with
  | nil => rfl
  | cons p t ih =>
    have e : fireRoute k x s p = s := by simp [fireRoute, h p List.mem_cons_self]
    rw [List.foldl_cons, e]
    exact ih fun q hq => h q (List.mem_cons_of_mem _ hq)

/-! ### The sequencer at work (R99 to R120) -/

theorem modSeq_outsideYard (l : Lane) (f : Sequencer → Sequencer)
    (h : (f (s.lane l).seqr).occupied = (s.lane l).seqr.occupied) : (s.modSeq l f).outsideYard = s.outsideYard := by
  refine modLane_outsideYard s l _ ?_
  simp only [LaneUnit.outsideYard, h]

@[simp] theorem modReport_outsideYard (l : Lane) (f : LaneReport → LaneReport) :
    (s.modReport l f).outsideYard = s.outsideYard := modLane_outsideYard s l _ rfl

@[simp] theorem raiseNotice_outsideYard (n : Notice) (p : PortId) : (raiseNotice n p s).outsideYard = s.outsideYard :=
  outsideYard_of_outsideRoutes (by simp)
@[simp] theorem raiseLaneOffice_outsideYard (n : Notice) (l : Lane) :
    (raiseLaneOffice n l s).outsideYard = s.outsideYard := outsideYard_of_outsideRoutes (by simp)
@[simp] theorem raiseEvent_outsideYard (k : EventKind) (x : Option Nat) :
    (raiseEvent k x s).outsideYard = s.outsideYard := outsideYard_of_outsideRoutes (by simp)
@[simp] theorem raiseAt_outsideYard (k : EventKind) (l : Lane) : (raiseAt k l s).outsideYard = s.outsideYard :=
  outsideYard_of_outsideRoutes (by simp)
@[simp] theorem raiseLeaving_outsideYard (k : EventKind) (l : Lane) :
    (raiseLeaving k l s).outsideYard = s.outsideYard := outsideYard_of_outsideRoutes (by simp)
@[simp] theorem startForHead_outsideYard (l : Lane) (n : Nat) : (startForHead l n s).2.outsideYard = s.outsideYard :=
  outsideYard_of_outsideRoutes (by simp)
@[simp] theorem raiseRequest_outsideYard (l : Lane) : (raiseRequest l s).outsideYard = s.outsideYard :=
  outsideYard_of_outsideRoutes (by simp)
@[simp] theorem lowerRequest_outsideYard (l : Lane) : (lowerRequest l s).outsideYard = s.outsideYard :=
  outsideYard_of_outsideRoutes (by simp)
@[simp] theorem lowerUnlessDown_outsideYard (l : Lane) : (lowerUnlessDown l s).outsideYard = s.outsideYard :=
  outsideYard_of_outsideRoutes (by simp)
@[simp] theorem acceptStart_outsideYard (l : Lane) (n : Nat) : (acceptStart l n s).outsideYard = s.outsideYard :=
  outsideYard_of_outsideRoutes (by simp)
@[simp] theorem reportNotStarted_outsideYard (l : Lane) (r : Result) :
    (reportNotStarted l r s).outsideYard = s.outsideYard := outsideYard_of_outsideRoutes (by simp)

@[simp] theorem setUnannounced_outsideYard (l : Lane) (f : Sequencer → UnannouncedTimer) :
    (setUnannounced l f s).outsideYard = s.outsideYard := modSeq_outsideYard s l _ rfl

@[simp] theorem syncUnannounced_outsideYard (l : Lane) : (syncUnannounced l s).outsideYard = s.outsideYard :=
  setUnannounced_outsideYard s l _

@[simp] theorem enterOpen_outsideYard (l : Lane) : (enterOpen l s).outsideYard = s.outsideYard := by
  unfold enterOpen; split <;> exact modSeq_outsideYard s l _ rfl

@[simp] theorem enterReleasing_outsideYard (l : Lane) : (enterReleasing l s).outsideYard = s.outsideYard := by
  unfold enterReleasing
  dsimp only
  split <;> simp only [enterOpen_outsideYard, raiseRequest_outsideYard] <;> exact modSeq_outsideYard s l _ rfl

@[simp] theorem enterHeld_outsideYard (l : Lane) : (enterHeld l s).outsideYard = s.outsideYard :=
  (lowerUnlessDown_outsideYard _ l).trans (modSeq_outsideYard s l _ rfl)

@[simp] theorem autoStart_outsideYard (l : Lane) : (autoStart l s).outsideYard = s.outsideYard := by
  unfold autoStart; split <;> simp

@[simp] theorem actInOccupied_outsideYard (l : Lane) (b : Bool) : (actInOccupied l b s).outsideYard = s.outsideYard := by
  unfold actInOccupied
  split
  · split <;> simp
  all_goals simp

@[simp] theorem enterOccupied_outsideYard (l : Lane) : (enterOccupied l s).outsideYard = s.outsideYard :=
  (actInOccupied_outsideYard _ l true).trans (modSeq_outsideYard s l _ rfl)

@[simp] theorem enterIdle_outsideYard (l : Lane) : (enterIdle l s).outsideYard = s.outsideYard :=
  modSeq_outsideYard s l _ rfl

@[simp] theorem closingDone_outsideYard (l : Lane) : (closingDone l s).outsideYard = s.outsideYard := by
  unfold closingDone; split <;> simp

@[simp] theorem enterClosing_outsideYard (l : Lane) : (enterClosing l s).outsideYard = s.outsideYard := by
  unfold enterClosing
  dsimp only
  split <;> simp only [closingDone_outsideYard, lowerRequest_outsideYard] <;> exact modSeq_outsideYard s l _ rfl

@[simp] theorem enterFaultHeld_outsideYard (l : Lane) : (enterFaultHeld l s).outsideYard = s.outsideYard :=
  modSeq_outsideYard s l _ rfl

@[simp] theorem settle_outsideYard (l : Lane) : (settle l s).outsideYard = s.outsideYard := by
  unfold settle
  dsimp only
  have h : ∀ x : State, (x.modSeq l fun q => { q with released := none }).outsideYard = x.outsideYard :=
    fun x => modSeq_outsideYard x l _ rfl
  have k : (s.modSeq l fun q => { q with passageArmed := false }).outsideYard = s.outsideYard :=
    modSeq_outsideYard s l _ rfl
  split
  · exact modSeq_outsideYard s l _ rfl
  · split
    · simp [k]
    · split
      · simp [k]
      · split <;> simp [h, k]
    all_goals
      split
      · simp [k]
      · split <;> simp [h, k]

@[simp] theorem handHeadAuto_outsideYard (l : Lane) (b : Bool) : (handHeadAuto l b s).outsideYard = s.outsideYard := by
  unfold handHeadAuto
  split
  · simp
  · split <;> simp
  · simp
  all_goals first
    | rfl
    | (split <;> first | simp | (split <;> simp))

/-- Handing a lane its head moves nothing but its sequencer, its barrier, its report and a capture start. -/
@[simp] theorem handHead_outsideYard (l : Lane) (b : Bool) : (handHead l b s).outsideYard = s.outsideYard := by
  have h : (keepHead l s).outsideYard = s.outsideYard := modSeq_outsideYard s l _ rfl
  unfold handHead
  dsimp only
  split <;> simp [h]

@[simp] theorem enterClosed_outsideYard (l : Lane) : (enterClosed l s).outsideYard = s.outsideYard :=
  (lowerRequest_outsideYard _ l).trans (modSeq_outsideYard s l _ rfl)

@[simp] theorem enterManual_outsideYard (l : Lane) : (enterManual l s).outsideYard = s.outsideYard :=
  modSeq_outsideYard s l _ rfl

@[simp] theorem stopLane_outsideYard (l : Lane) : (stopLane l s).outsideYard = s.outsideYard :=
  (setUnannounced_outsideYard _ l _).trans (modSeq_outsideYard s l _ rfl)

@[simp] theorem cancelRaiseWait_outsideYard (l : Lane) : (cancelRaiseWait l s).outsideYard = s.outsideYard :=
  modSeq_outsideYard s l _ rfl

@[simp] theorem captureFailed_outsideYard (l : Lane) : (captureFailed l s).outsideYard = s.outsideYard := by
  unfold captureFailed
  split
  · split
    · exact (actInOccupied_outsideYard _ l false).trans (modSeq_outsideYard s l _ rfl)
    · simp
  · rfl

@[simp] theorem reportUp_outsideYard (l : Lane) : (reportUp l s).outsideYard = s.outsideYard := by
  unfold reportUp
  split
  · split <;> simp
  · split
    · exact modSeq_outsideYard s l _ rfl
    · rfl
  · rfl

@[simp] theorem reportDown_outsideYard (l : Lane) : (reportDown l s).outsideYard = s.outsideYard := by
  unfold reportDown; split <;> simp

@[simp] theorem enterFault_outsideYard (l : Lane) : (enterFault l s).outsideYard = s.outsideYard := by
  have h : (s.modBarrier l fun b => { b with
      state := .fault, pendingLower := false, travelTimer := travelStopped s l b.travelTimer }).outsideYard
      = s.outsideYard := modLane_outsideYard s l _ rfl
  unfold enterFault
  dsimp only
  split <;> simp [h]

theorem endCaptureBy_outsideYard {raise : EventKind → Lane → State → State}
    (hr : ∀ k l x, (raise k l x).outsideYard = x.outsideYard) (l : Lane) (r : CaptureReason) :
    (endCaptureBy raise l r s).outsideYard = s.outsideYard := by
  unfold endCaptureBy
  split
  · rfl
  · simp only [raiseLaneOffice_outsideYard, hr, modReport_outsideYard, captureFailed_outsideYard]
    exact modDeck_outsideYard s l _ fun _ => rfl

/-- A capture that ends FAILED changes its record, the lane and what the event reaches. -/
@[simp] theorem endCapture_outsideYard (l : Lane) (r : CaptureReason) : (endCapture l r s).outsideYard = s.outsideYard :=
  endCaptureBy_outsideYard s (fun k l x => raiseAt_outsideYard x k l) l r
@[simp] theorem endCaptureLeaving_outsideYard (l : Lane) (r : CaptureReason) :
    (endCaptureLeaving l r s).outsideYard = s.outsideYard :=
  endCaptureBy_outsideYard s (fun k l x => raiseLeaving_outsideYard x k l) l r

/-- No capture starts at a lane whose head is leaving: the routes of its own ending find START_CAPTURE there refused (R52,
log 28). -/
theorem fireRouteLeaving_of_start {l : Lane} {k : EventKind} {x : Option Nat} {p : Nat × Route}
    (hf : p.2.fires k x = true) (h : p.2.startsCapture l = true) :
    fireRouteLeaving l k x s p = setOutcome p.1 false s := by simp [fireRouteLeaving, hf, h]

/-! ### The monotonic second and the byte of ANY -/

@[simp] theorem markMono_power (m : MonoSecond) : (markMono m s).power = s.power := rfl
@[simp] theorem markMono_mono (m : MonoSecond) : (markMono m s).clock.mono = s.clock.mono := rfl
@[simp] theorem markMono_monoSecond (m : MonoSecond) : (markMono m s).clock.monoSecond = m := rfl

/-- What the next monotonic second can do: move the count and, beyond its range, take a free value (R184, log 24). -/
theorem monoAdvance_eq : ∃ n ix, monoAdvance s = { s with clock := { s.clock with mono := n }, freeIx := ix }
    ∧ (s.clock.mono < 4294967295 → n = s.clock.mono + 1 ∧ ix = s.freeIx) := by
  unfold monoAdvance
  split
  · exact ⟨_, s.freeIx, rfl, fun _ => ⟨rfl, rfl⟩⟩
  · rename_i h
    exact ⟨_, _, rfl, fun k => absurd k h⟩

/-- Time leaves a part alone that has no power, or has counted the second already (log 2). -/
theorem monoTick_of_counted (h : s.power = false ∨ s.clock.monoSecond = .counted) : monoTick s = s := by
  unfold monoTick
  rcases h with h | h <;> simp [h]

/-- Elsewhere it counts the monotonic second of the clock's present second (log 2). -/
theorem monoTick_of_due (hp : s.power = true) (h : s.clock.monoSecond ≠ .counted) :
    monoTick s = monoAdvance (markMono .counted s) := by simp [monoTick, hp, h]

/-- Time moves the clock's monotonic seconds and the free value they may take, and nothing else. -/
theorem monoTick_keeps : KeepsAllBut [.clock, .freeIx] s (monoTick s) := by
  unfold monoTick
  split
  · obtain ⟨n, ix, h, -⟩ := monoAdvance_eq (markMono .counted s)
    rw [h]; rfl
  · rfl

/-- An advance does the same to them, whatever the second that ends still owes. -/
theorem monoAtAdvance_keeps : KeepsAllBut [.clock, .freeIx] s (monoAtAdvance s) := by
  unfold monoAtAdvance
  split
  · split
    · obtain ⟨n, ix, h, -⟩ := monoAdvance_eq s
      rw [h]; rfl
    · rfl
  · rfl

/-- An absorbed advance moves no more than that, and no second of the clock (R183). -/
theorem absorbAdvance_keeps : KeepsAllBut [.clock, .freeIx] s (absorbAdvance s) := monoAtAdvance_keeps _

theorem absorbAdvance_second : (absorbAdvance s).clock.day = s.clock.day ∧ (absorbAdvance s).clock.second = s.clock.second
    ∧ (absorbAdvance s).clock.absorbs = false := by
  unfold absorbAdvance monoAtAdvance
  split
  · split
    · obtain ⟨n, ix, h, -⟩ := monoAdvance_eq { s with clock := { s.clock with absorbs := false } }
      rw [h]; exact ⟨rfl, rfl, rfl⟩
    · exact ⟨rfl, rfl, rfl⟩
  · exact ⟨rfl, rfl, rfl⟩

/-- An event index is sent as its own byte (R162, R179). -/
theorem eventIndexOf_index (b : Byte) (h : 1 ≤ b.toNat ∧ b.toNat ≤ 8) : eventIndexOf b = some b := by
  have k : b ≠ anyIndexByte := fun e => by
    have c := Config.anyIndexCode.isLt
    rw [e, anyIndexByte, BitVec.toNat_ofNat] at h
    omega
  simp [eventIndexOf, k]

@[simp] theorem eventIndexOf_any : eventIndexOf anyIndexByte = none := by simp [eventIndexOf]

/-! ### What a print engine reads -/

/-- All that a lane's print engine reads: its printer, the template store, the categories, the clock and the queue. -/
def SameForEngine (l : Lane) (a b : State) : Prop :=
  (a.lane l).printer = (b.lane l).printer ∧ a.templates = b.templates ∧ a.allow.categories = b.allow.categories
    ∧ a.clock = b.clock ∧ a.pending = b.pending

variable {a b : State}

theorem SameForEngine.symm {l : Lane} (h : SameForEngine l a b) : SameForEngine l b a :=
  ⟨h.1.symm, h.2.1.symm, h.2.2.1.symm, h.2.2.2.1.symm, h.2.2.2.2.symm⟩

theorem SameForEngine.trans {l : Lane} {c : State} (h : SameForEngine l a b) (k : SameForEngine l b c) :
    SameForEngine l a c := ⟨h.1.trans k.1, h.2.1.trans k.2.1, h.2.2.1.trans k.2.2.1, h.2.2.2.1.trans k.2.2.2.1,
    h.2.2.2.2.trans k.2.2.2.2⟩

/-- What keeps all outside the routes' reach keeps what the engine reads. -/
theorem SameForEngine.of_outsideRoutes (l : Lane) (h : a.outsideRoutes = b.outsideRoutes) : SameForEngine l a b := by
  have hl : (a.outsideRoutes.lane l).printer = (b.outsideRoutes.lane l).printer := by rw [h]
  have ht : a.outsideRoutes.templates = b.outsideRoutes.templates := by rw [h]
  have ha : a.outsideRoutes.allow.categories = b.outsideRoutes.allow.categories := by rw [h]
  have hc : a.outsideRoutes.clock = b.outsideRoutes.clock := by rw [h]
  have hq : a.outsideRoutes.pending = b.outsideRoutes.pending := by rw [h]
  refine ⟨?_, ht, ha, hc, hq⟩
  cases l <;> exact hl

theorem SameForEngine.waiting {l : Lane} (h : SameForEngine l a b) (c : Instr) : a.waiting c = b.waiting c := by
  rw [State.waiting, State.waiting, h.2.2.2.2]

theorem SameForEngine.modPrinter {l : Lane} (h : SameForEngine l a b) {f g : PrintEngine → PrintEngine}
    (hf : f (a.lane l).printer = g (b.lane l).printer) : SameForEngine l (a.modPrinter l f) (b.modPrinter l g) :=
  ⟨by simp [hf], h.2.1, h.2.2.1, h.2.2.2⟩

theorem SameForEngine.modInUse {l : Lane} (h : SameForEngine l a b) (t : Nat) (f : Nat → Nat) :
    SameForEngine l (modInUse t f a) (modInUse t f b) :=
  ⟨h.1, by simp only [Machine.modInUse, inUseOf, h.2.1], h.2.2.1, h.2.2.2⟩

theorem renderLine_same {l : Lane} (h : SameForEngine l a b) (j : PrintJob) (r : LineRecord) :
    renderLine a j r = renderLine b j r := by
  have k : ∀ f, renderField a j f = renderField b j f := fun f => by cases f <;> simp only [renderField, h.2.2.1]
  have m : ∀ (rs : List FieldRef) line, renderRefs a j rs line = renderRefs b j rs line := fun rs => by
    induction rs with
    | nil => intro line; rfl
    | cons f rs ih => intro line; simp only [renderRefs, k, ih]
  simp only [renderLine, m]

theorem closeJob_same {l : Lane} (h : SameForEngine l a b) (r : PrintResult) :
    SameForEngine l (closeJob l r a) (closeJob l r b) := by
  unfold closeJob
  rw [h.1]
  cases (b.lane l).printer.jobs with
  | nil => exact h
  | cons j rest =>
    have e : ∀ (x : State), SameForEngine l (match r with
        | .failed _ => raiseLaneOffice .print l (raiseAt .printFailed l x)
        | .done | .none => raiseAt .printDone l x) x := fun x => by
      refine SameForEngine.of_outsideRoutes l ?_
      cases r <;> simp
    have w : SameForEngine l (uncountJob j a) (uncountJob j b) := by
      unfold uncountJob
      cases j.walk with
      | none => exact h
      | some w => exact h.modInUse _ _
    have p := w.modPrinter
      (f := fun e => { e with
        fifo := [], byteInProgress := false, pauseTimer := pauseStopped (uncountJob j a) l e.pauseTimer, lastResult := r })
      (g := fun e => { e with
        fifo := [], byteInProgress := false, pauseTimer := pauseStopped (uncountJob j b) l e.pauseTimer, lastResult := r })
      (by simp only [w.1, pauseStopped, w.waiting])
    have q := (e _).trans (p.trans (e _).symm)
    exact q.modPrinter (by rw [q.1])

theorem enterPaused_same {l : Lane} (h : SameForEngine l a b) : SameForEngine l (enterPaused l a) (enterPaused l b) := by
  have e : ∀ x, SameForEngine l (raiseLaneOffice .paper l x) x := fun x => SameForEngine.of_outsideRoutes l (by simp)
  refine (e _).trans (SameForEngine.trans (h.modPrinter ?_) (e _).symm)
  simp only [inSec, inMs, h.1, h.2.2.2.1, h.waiting]

theorem setWalk_same {l : Lane} (h : SameForEngine l a b) (w : JobWalk) :
    SameForEngine l (setWalk l w a) (setWalk l w b) := h.modPrinter (by rw [h.1])

theorem startJob_same {l : Lane} (h : SameForEngine l a b) : SameForEngine l (startJob l a) (startJob l b) := by
  unfold startJob
  rw [h.1, h.2.1]
  dsimp only
  cases (b.lane l).printer.jobs with
  | nil => exact h
  | cons j rest =>
    dsimp only
    cases Table.find b.templates.templates (templateFor (b.lane l).printer j.ticket) with
    | none => exact closeJob_same h _
    | some tpl =>
      have k := setWalk_same (h.modInUse (templateFor (b.lane l).printer j.ticket) (· + 1))
        { template := templateFor (b.lane l).printer j.ticket, position := tpl.head, rendered := 0, finished := false }
      have m := k.modPrinter (f := fun e => { e with state := .printing }) (g := fun e => { e with state := .printing })
        (by rw [k.1])
      dsimp only
      split
      · exact enterPaused_same m
      · exact m

/-- Two states that an engine reads alike make its moves alike. -/
theorem engineMove_same {l : Lane} (h : SameForEngine l a b) :
    (engineMove l a = none ∧ engineMove l b = none)
      ∨ ∃ x y, engineMove l a = some x ∧ engineMove l b = some y ∧ SameForEngine l x y := by
  unfold engineMove
  rw [h.1, h.2.1]
  simp only [renderLine_same h]
  split
  · exact .inl ⟨rfl, rfl⟩
  · split
    · exact .inr ⟨_, _, rfl, rfl, startJob_same h⟩
    · split
      · exact .inl ⟨rfl, rfl⟩
      · split
        · split
          · exact .inr ⟨_, _, rfl, rfl, closeJob_same h _⟩
          · exact .inl ⟨rfl, rfl⟩
        · split
          · split
            · exact .inr ⟨_, _, rfl, rfl, closeJob_same h _⟩
            · split
              · exact .inr ⟨_, _, rfl, rfl, closeJob_same h _⟩
              · exact .inr ⟨_, _, rfl, rfl, setWalk_same (h.modPrinter (by rw [h.1])) _⟩
          · exact .inl ⟨rfl, rfl⟩

/-- The engine at work reads nothing else: what it leaves of that is the same from both. -/
theorem pumpEngine_same {l : Lane} (h : SameForEngine l a b) : SameForEngine l (pumpEngine l a) (pumpEngine l b) := by
  unfold pumpEngine
  generalize 32 = n
  induction n generalizing a b with
  | zero => exact h
  | succ n ih =>
    unfold runEngine
    rcases engineMove_same h with ⟨ha, hb⟩ | ⟨x, y, ha, hb, k⟩
    · simp only [ha, hb]; exact h
    · simp only [ha, hb]; exact ih k

end Sys2Proof.Machine
end

