-- ==== Sys2Proof/Laws/Frames.lean ====
section
/-! SUPPORT. Which parts of the state each shared operation leaves alone: for every list of parts that holds the parts an
operation works on, the state with those hidden is the same after it. -/

namespace Sys2Proof.Machine
open Sys2Proof

variable {s : State} {ps : List Part}

/-- Every part of the yard is among the hidden ones. -/
def HidesYard (ps : List Part) : Prop := ∀ p ∈ yardParts, p ∈ ps

/-! ### One part -/

theorem modDeck_hide (h : .decks ∈ ps) (d : Deck) (f : DeckUnit → DeckUnit) : (s.modDeck d f).hide ps = s.hide ps := by
  simp [State.hide, State.modDeck, h]
theorem modLane_hide (h : .lanes ∈ ps) (l : Lane) (f : LaneUnit → LaneUnit) : (s.modLane l f).hide ps = s.hide ps := by
  simp [State.hide, State.modLane, h]
theorem modPort_hide (h : .ports ∈ ps) (p : PortId) (f : Port → Port) : (s.modPort p f).hide ps = s.hide ps := by
  simp [State.hide, State.modPort, h]
theorem modVisit_hide (h : .visits ∈ ps) (n : Nat) (f : Visit → Visit) : (modVisit n f s).hide ps = s.hide ps := by
  simp [State.hide, modVisit, h]
theorem removeVisit_hide (h : .visits ∈ ps) (n : Nat) : (removeVisit n s).hide ps = s.hide ps := by
  simp [State.hide, removeVisit, h]
theorem modQueue_hide (h : .visits ∈ ps) (l : Lane) (f : LaneQueue → LaneQueue) :
    (s.modQueue l f).hide ps = s.hide ps := by simp [State.hide, State.modQueue, h]
theorem modBothRows_hide (h : .allow ∈ ps) (n c : Nat) (f : Amounts → Amounts) :
    (modBothRows n c f s).hide ps = s.hide ps := by simp [State.hide, modBothRows, modCap, modRow, h]
theorem countTicket_hide (h : .allow ∈ ps) (k : VisitKind) (c n : Nat) : (countTicket k c n s).hide ps = s.hide ps := by
  simp [State.hide, countTicket, h]
theorem beginYardDay_hide (h : .allow ∈ ps) (d : Nat) : (beginYardDay d s).hide ps = s.hide ps := by
  simp [State.hide, beginYardDay, h]
theorem setTare_hide (h : .tares ∈ ps) (i : Nat) (x : TareEntry) : (setTare i x s).hide ps = s.hide ps := by
  simp [State.hide, setTare, h]
theorem setWait_hide (h : .tickets ∈ ps) (w : IssueWait) : (setWait w s).hide ps = s.hide ps := by
  simp [State.hide, setWait, h]
theorem modInUse_hide (h : .templates ∈ ps) (i : Nat) (f : Nat → Nat) : (modInUse i f s).hide ps = s.hide ps := by
  simp [State.hide, modInUse, h]

/-- What happens to the yard's parts alone is hidden with them. -/
theorem hide_of_yard (hy : HidesYard ps) {t : State} (h : t.outsideYard = s.outsideYard) : t.hide ps = s.hide ps :=
  hide_of_outsideYard ps hy h

theorem HidesYard.lanes (hy : HidesYard ps) : .lanes ∈ ps := hy _ (by decide)
theorem HidesYard.ports (hy : HidesYard ps) : .ports ∈ ps := hy _ (by decide)
theorem HidesYard.decks (hy : HidesYard ps) : .decks ∈ ps := hy _ (by decide)

theorem raiseEvent_hide (hy : HidesYard ps) (k : EventKind) (x : Option Nat) : (raiseEvent k x s).hide ps = s.hide ps :=
  hide_of_yard hy (raiseEvent_outsideYard _ k x)
theorem raiseAt_hide (hy : HidesYard ps) (k : EventKind) (l : Lane) : (raiseAt k l s).hide ps = s.hide ps :=
  hide_of_yard hy (raiseAt_outsideYard _ k l)
theorem raiseLaneOffice_hide (hy : HidesYard ps) (n : Notice) (l : Lane) : (raiseLaneOffice n l s).hide ps = s.hide ps :=
  hide_of_yard hy (raiseLaneOffice_outsideYard _ n l)
theorem modReport_hide (hy : HidesYard ps) (l : Lane) (f : LaneReport → LaneReport) :
    (s.modReport l f).hide ps = s.hide ps := hide_of_yard hy (modReport_outsideYard _ l f)

/-! ### The writer and the ticket unit (R122 to R126, R186) -/

theorem nvRequest_hide (h : .nv ∈ ps) (r : NvRequest) : (nvRequest r s).hide ps = s.hide ps := by
  unfold nvRequest
  split
  · simp [State.hide, h]
  · split <;> simp [State.hide, h]

theorem nvServe_hide (h : .nv ∈ ps) : (nvServe s).hide ps = s.hide ps := by
  unfold nvServe
  split
  · rfl
  · split
    · simp [State.hide, h]
    · split <;> simp [State.hide, h]

theorem nvEnd_hide (h : .nv ∈ ps) (ok : Bool) : (nvEnd ok s).hide ps = s.hide ps := by
  unfold nvEnd
  split
  · rfl
  · split <;> simp [State.hide, h]

theorem requestFloorWrite_hide (hn : .nv ∈ ps) (ht : .tickets ∈ ps) (b : Bool) :
    (requestFloorWrite b s).hide ps = s.hide ps := by
  refine (nvRequest_hide hn _).trans ?_
  simp [State.hide, ht]

/-- Trying the head moves the issue wait and may request a floor write; nothing is issued. -/
theorem tryHead_hide (hn : .nv ∈ ps) (ht : .tickets ∈ ps) : (tryHead s).hide ps = s.hide ps := by
  unfold tryHead
  split
  · exact setWait_hide ht _
  · dsimp only
    split
    · exact (requestFloorWrite_hide hn ht _).trans (setWait_hide ht _)
    · exact setWait_hide ht _

/-- Trying the head keeps the numbering, the queue and the pending records. -/
theorem tryHead_tickets : (tryHead s).tickets.next = s.tickets.next ∧ (tryHead s).tickets.floor = s.tickets.floor
    ∧ (tryHead s).tickets.queue = s.tickets.queue
    ∧ (tryHead s).tickets.pendingRestart = s.tickets.pendingRestart
    ∧ (tryHead s).tickets.pendingRollover = s.tickets.pendingRollover := by
  have e : ∀ (r : NvRequest) (x : State), (nvRequest r x).tickets = x.tickets := fun r x => by
    unfold nvRequest; split
    · rfl
    · split <;> rfl
  unfold tryHead
  split
  · exact ⟨rfl, rfl, rfl, rfl, rfl⟩
  · dsimp only
    split
    · simp only [requestFloorWrite, e]; exact ⟨rfl, rfl, rfl, rfl, rfl⟩
    · exact ⟨rfl, rfl, rfl, rfl, rfl⟩

theorem requestTicket_hide (hn : .nv ∈ ps) (ht : .tickets ∈ ps) (n : Nat) : (requestTicket n s).hide ps = s.hide ps := by
  unfold requestTicket
  dsimp only
  split
  · exact (tryHead_hide hn ht).trans (by simp [State.hide, ht])
  · simp [State.hide, ht]

/-! ### The journal (R131 to R137) -/

theorem countEvents_hide (hy : HidesYard ps) (n : Nat) : (countEvents n s).hide ps = s.hide ps := by
  refine hide_of_yard hy ?_
  unfold countEvents
  split
  · simp
  · split <;> simp

theorem appendEntry_hide (hy : HidesYard ps) (hj : .journal ∈ ps) (b : JournalBody) :
    (appendEntry b s).hide ps = s.hide ps := by
  refine (countEvents_hide hy _).trans ?_
  simp [State.hide, hj]

/-- An append leaves the journal with the entry pushed, whatever its events do. -/
@[simp] theorem appendEntry_journal (b : JournalBody) (s : State) : (appendEntry b s).journal = s.journal.push b := by
  have e : ∀ (x : State) (n : Nat), (countEvents n x).journal = x.journal := fun x n => by
    have h : (countEvents n x).outsideYard = x.outsideYard := by
      unfold countEvents
      split
      · simp
      · split <;> simp
    have k : (countEvents n x).outsideYard.journal = x.outsideYard.journal := by rw [h]
    exact k
  unfold appendEntry
  rw [e]

theorem appendReserved_hide (hy : HidesYard ps) (hj : .journal ∈ ps) (b : JournalBody) :
    (appendReserved b s).hide ps = s.hide ps := by
  unfold appendReserved
  exact (appendEntry_hide hy hj b).trans (by simp [State.hide, hj])

theorem appendRollover_hide (hy : HidesYard ps) (hj : .journal ∈ ps) (ha : .allow ∈ ps) (d : Nat) :
    (appendRollover d s).hide ps = s.hide ps :=
  (raiseEvent_hide hy _ _).trans ((beginYardDay_hide ha d).trans (appendEntry_hide hy hj _))

theorem rolloverEvent_hide (hy : HidesYard ps) (hj : .journal ∈ ps) (ha : .allow ∈ ps) (ht : .tickets ∈ ps) :
    (rolloverEvent s).hide ps = s.hide ps := by
  unfold rolloverEvent
  split
  · simp [State.hide, ht]
  · split
    · exact appendRollover_hide hy hj ha _
    · exact (modPort_hide hy.ports _ _).trans (by simp [State.hide, ht])

theorem drain_hide (hy : HidesYard ps) (hj : .journal ∈ ps) (ha : .allow ∈ ps) (ht : .tickets ∈ ps) (hn : .nv ∈ ps) :
    (drain s).hide ps = s.hide ps := by
  have h1 : ∀ x : State, (drainRestart x).hide ps = x.hide ps := fun x => by
    unfold drainRestart
    split
    · rfl
    · split
      · exact (appendEntry_hide hy hj _).trans (by simp [State.hide, ht])
      · rfl
  have h2 : ∀ x : State, (drainRollover x).hide ps = x.hide ps := fun x => by
    unfold drainRollover
    split
    · rfl
    · split
      · exact (appendRollover_hide hy hj ha _).trans (by simp [State.hide, ht])
      · rfl
  unfold drain
  dsimp only
  split
  · exact h1 s
  · split
    · exact (h2 _).trans (h1 s)
    · exact (tryHead_hide hn ht).trans ((h2 _).trans (h1 s))

/-! ### Queues (R46) -/

theorem joinQueue_hide (hy : HidesYard ps) (hv : .visits ∈ ps) (l : Lane) (n : Nat) (k : PassKind) :
    (joinQueue l n k s).hide ps = s.hide ps := by
  have e : ∀ (slot : Slot), (modVisit n (fun v => { v with place := some { lane := l, slot := slot, pass := k } })
      (s.modQueue l fun q => { q with members := q.members ++ [(slot, n)] })).hide ps = s.hide ps := fun slot =>
    (modVisit_hide hv n _).trans (modQueue_hide hv l _)
  unfold joinQueue
  split
  · rfl
  · dsimp only
    refine (hide_of_yard hy (syncUnannounced_outsideYard _ l)).trans ?_
    split
    · exact (hide_of_yard hy (handHead_outsideYard _ l true)).trans (e _)
    · exact e _

theorem depart_hide (hy : HidesYard ps) (hv : .visits ∈ ps) (n : Nat) (f : State → State)
    (hf : ∀ x, (f x).hide ps = x.hide ps) : (depart n f s).hide ps = s.hide ps := by
  unfold depart
  split
  · rfl
  · split
    · exact hf s
    · rename_i pl _
      have e : (f (freePlace pl n s)).hide ps = s.hide ps :=
        (hf _).trans ((modVisit_hide hv n _).trans (modQueue_hide hv _ _))
      dsimp only
      refine (hide_of_yard hy (syncUnannounced_outsideYard _ _)).trans ?_
      split
      · exact (hide_of_yard hy (handHead_outsideYard _ _ true)).trans e
      · exact e

theorem endCapture_hide (hy : HidesYard ps) (l : Lane) (r : CaptureReason) : (endCapture l r s).hide ps = s.hide ps :=
  hide_of_yard hy (by simp)

theorem endCaptureLeaving_hide (hy : HidesYard ps) (l : Lane) (r : CaptureReason) :
    (endCaptureLeaving l r s).hide ps = s.hide ps := hide_of_yard hy (by simp)

theorem vehiclePassed_hide (hy : HidesYard ps) (hv : .visits ∈ ps) (l : Lane) : (vehiclePassed l s).hide ps = s.hide ps := by
  unfold vehiclePassed
  split
  · rfl
  · split
    · rfl
    · split
      · rfl
      · exact (depart_hide hy hv _ _ fun _ => rfl).trans (endCaptureLeaving_hide hy l _)
      · exact (depart_hide hy hv _ _ fun _ => removeVisit_hide hv _).trans (endCaptureLeaving_hide hy l _)
      · exact (depart_hide hy hv _ _ fun _ => modVisit_hide hv _ _).trans (endCaptureLeaving_hide hy l _)

/-! ### Passages and occupancy (R98 to R106) -/

theorem modSeq_hide (hy : HidesYard ps) (l : Lane) (f : Sequencer → Sequencer) : (s.modSeq l f).hide ps = s.hide ps :=
  modLane_hide hy.lanes l _

theorem handReleased_hide (hy : HidesYard ps) (hv : .visits ∈ ps) (l : Lane) : (handReleased l s).hide ps = s.hide ps := by
  unfold handReleased
  dsimp only
  refine (modSeq_hide hy l _).trans ?_
  split
  · exact vehiclePassed_hide hy hv l
  · rfl

theorem checkPassage_hide (hy : HidesYard ps) (hv : .visits ∈ ps) (l : Lane) : (checkPassage l s).hide ps = s.hide ps := by
  unfold checkPassage
  dsimp only
  split
  · split
    · exact (hide_of_yard hy (enterClosing_outsideYard _ l)).trans ((handReleased_hide hy hv l).trans (modSeq_hide hy l _))
    · exact handReleased_hide hy hv l
    · exact (modSeq_hide hy l _).trans (vehiclePassed_hide hy hv l)
    · rfl
  · rfl

theorem laneOccupied_hide (hy : HidesYard ps) (l : Lane) : (laneOccupied l s).hide ps = s.hide ps := by
  unfold laneOccupied
  dsimp only
  refine (hide_of_yard hy (syncUnannounced_outsideYard _ l)).trans ?_
  split
  · exact (hide_of_yard hy (enterOccupied_outsideYard _ l)).trans (modSeq_hide hy l _)
  · exact modSeq_hide hy l _

theorem laneClear_hide (hy : HidesYard ps) (hv : .visits ∈ ps) (l : Lane) : (laneClear l s).hide ps = s.hide ps := by
  unfold laneClear
  dsimp only
  refine (hide_of_yard hy (syncUnannounced_outsideYard _ l)).trans ?_
  split
  · exact (hide_of_yard hy (enterIdle_outsideYard _ l)).trans (modSeq_hide hy l _)
  · exact (checkPassage_hide hy hv l).trans (modSeq_hide hy l _)

/-! ### Decisions (R53 to R58, R81, R82) -/

theorem handOut_hide (hy : HidesYard ps) (l : Lane) (n : Nat) : (handOut l n s).hide ps = s.hide ps := by
  refine hide_of_yard hy ?_
  unfold handOut
  split
  · rfl
  · dsimp only
    split <;> simp

theorem awaitTicket_hide (hv : .visits ∈ ps) (hn : .nv ∈ ps) (ht : .tickets ∈ ps) (n : Nat) :
    (awaitTicket n s).hide ps = s.hide ps := (requestTicket_hide hn ht n).trans (modVisit_hide hv n _)

theorem checkAndHold_hide (hv : .visits ∈ ps) (ha : .allow ∈ ps) (v : Visit) (k : Nat) (f : State → State)
    (hf : ∀ x, (f x).hide ps = x.hide ps) : (checkAndHold v k f s).hide ps = s.hide ps := by
  unfold checkAndHold
  split
  · exact modVisit_hide hv _ _
  · exact (hf _).trans ((modVisit_hide hv _ _).trans (modBothRows_hide ha _ _ _))

theorem twoPass_hide (hv : .visits ∈ ps) (ha : .allow ∈ ps) (v : Visit) (d : Deck) :
    (twoPass v d s).hide ps = s.hide ps := checkAndHold_hide hv ha v _ _ fun _ => modVisit_hide hv _ _

theorem useStoredTare_hide (hv : .visits ∈ ps) (ha : .allow ∈ ps) (hn : .nv ∈ ps) (ht : .tickets ∈ ps) (v : Visit)
    (w : CapturedWeight) (x : Nat) (m : Bool) : (useStoredTare v w x m s).hide ps = s.hide ps := by
  unfold useStoredTare
  dsimp only
  split
  · exact (modVisit_hide hv _ _).trans (modVisit_hide hv _ _)
  · exact (checkAndHold_hide hv ha v _ _ fun _ => awaitTicket_hide hv hn ht _).trans (modVisit_hide hv _ _)

theorem tareLookup_hide (hr : .tares ∈ ps) (v : Text) : (tareLookup v s).2.hide ps = s.hide ps := by
  unfold tareLookup
  split
  · rfl
  · split
    · simp [State.hide, hr]
    · rfl

theorem firstDelivery_hide (hv : .visits ∈ ps) (ha : .allow ∈ ps) (hn : .nv ∈ ps) (ht : .tickets ∈ ps) (hr : .tares ∈ ps)
    (v : Visit) (w : CapturedWeight) : (firstDelivery v w s).hide ps = s.hide ps := by
  have e := tareLookup_hide (s := s) hr v.vehicle
  unfold firstDelivery
  split
  · split <;> rename_i h <;> rw [h] at e
    · exact (useStoredTare_hide hv ha hn ht _ _ _ _).trans e
    · exact (twoPass_hide hv ha _ _).trans e
  · exact twoPass_hide hv ha _ _

theorem firstCapture_hide (hv : .visits ∈ ps) (ha : .allow ∈ ps) (hn : .nv ∈ ps) (ht : .tickets ∈ ps) (hr : .tares ∈ ps)
    (v : Visit) (w : CapturedWeight) : (firstCapture v w s).hide ps = s.hide ps := by
  unfold firstCapture
  dsimp only
  split
  · exact (firstDelivery_hide hv ha hn ht hr _ _).trans (modVisit_hide hv _ _)
  · refine Eq.trans ?_ (modVisit_hide hv v.number fun v => { v with first := some w })
    unfold firstCollection
    split <;> exact modVisit_hide hv _ _

theorem secondCapture_hide (hv : .visits ∈ ps) (hn : .nv ∈ ps) (ht : .tickets ∈ ps) (v : Visit) (w : CapturedWeight) :
    (secondCapture v w s).hide ps = s.hide ps := by
  unfold secondCapture
  split
  · rfl
  · dsimp only
    split
    · exact (modVisit_hide hv _ _).trans (modVisit_hide hv _ _)
    · exact (awaitTicket_hide hv hn ht _).trans (modVisit_hide hv _ _)

/-- A completed capture changes the visit, the rows it holds against, the tare it uses, the ticket queue and the yard. -/
theorem completeCapture_hide (hy : HidesYard ps) (hv : .visits ∈ ps) (ha : .allow ∈ ps) (hn : .nv ∈ ps)
    (ht : .tickets ∈ ps) (hr : .tares ∈ ps) (d : Deck) : (completeCapture d s).hide ps = s.hide ps := by
  have e : ∀ (x : State) (n : Nat) (w : CapturedWeight), (decideVisit d n w x).hide ps = x.hide ps := fun x n w => by
    unfold decideVisit
    split
    · rfl
    · split
      · exact (handOut_hide hy d n).trans (firstCapture_hide hv ha hn ht hr _ _)
      · exact (handOut_hide hy d n).trans (secondCapture_hide hv hn ht _ _)
      · rfl
  unfold completeCapture
  split
  · rfl
  · dsimp only
    exact (raiseLaneOffice_hide hy _ _).trans ((raiseAt_hide hy _ _).trans ((modReport_hide hy _ _).trans
      ((e _ _ _).trans (modDeck_hide hy.decks _ _))))

/-! ### Printing (R145 to R155) -/

theorem modPrinter_hide (hy : HidesYard ps) (l : Lane) (f : PrintEngine → PrintEngine) :
    (s.modPrinter l f).hide ps = s.hide ps := modLane_hide hy.lanes l _

theorem closeJob_hide (hy : HidesYard ps) (ht : .templates ∈ ps) (l : Lane) (r : PrintResult) :
    (closeJob l r s).hide ps = s.hide ps := by
  unfold closeJob
  split
  · rfl
  · dsimp only
    refine (modPrinter_hide hy l _).trans ?_
    have e : ∀ x : State, (x.modPrinter l fun e => { e with
        fifo := [], byteInProgress := false, pauseTimer := pauseStopped x l e.pauseTimer,
        lastResult := r }).hide ps = x.hide ps := fun x =>
      modPrinter_hide hy l _
    have u : ∀ j, (uncountJob j s).hide ps = s.hide ps := fun j => by
      unfold uncountJob
      split
      · rfl
      · exact modInUse_hide ht _ _
    split
    · exact (raiseLaneOffice_hide hy _ _).trans ((raiseAt_hide hy _ _).trans ((e _).trans (u _)))
    all_goals exact (raiseAt_hide hy _ _).trans ((e _).trans (u _))

theorem enterPaused_hide (hy : HidesYard ps) (l : Lane) : (enterPaused l s).hide ps = s.hide ps :=
  (hide_of_yard hy (raiseLaneOffice_outsideYard _ _ l)).trans (modPrinter_hide hy l _)

theorem startJob_hide (hy : HidesYard ps) (ht : .templates ∈ ps) (l : Lane) : (startJob l s).hide ps = s.hide ps := by
  unfold startJob
  dsimp only
  split
  · rfl
  · split
    · exact closeJob_hide hy ht l _
    · split
      · exact (enterPaused_hide hy l).trans ((modPrinter_hide hy l _).trans ((modPrinter_hide hy l _).trans
          (modInUse_hide ht _ _)))
      · exact (modPrinter_hide hy l _).trans ((modPrinter_hide hy l _).trans (modInUse_hide ht _ _))

theorem engineMove_hide (hy : HidesYard ps) (ht : .templates ∈ ps) (l : Lane) {t : State} (h : engineMove l s = some t) :
    t.hide ps = s.hide ps := by
  unfold engineMove at h
  dsimp only at h
  split at h
  · cases h
  · split at h
    · cases h; exact startJob_hide hy ht l
    · split at h
      · cases h
      · split at h
        · split at h
          · cases h; exact closeJob_hide hy ht l _
          · cases h
        · split at h
          · split at h
            · cases h; exact closeJob_hide hy ht l _
            · split at h
              · cases h; exact closeJob_hide hy ht l _
              · cases h; exact (modPrinter_hide hy l _).trans (modPrinter_hide hy l _)
          · cases h

/-- The engine at work changes the lane's printer, the in-use counts and what its events reach. -/
theorem pumpEngine_hide (hy : HidesYard ps) (ht : .templates ∈ ps) (l : Lane) : (pumpEngine l s).hide ps = s.hide ps := by
  unfold pumpEngine
  generalize 32 = n
  induction n generalizing s with
  | zero => rfl
  | succ n ih =>
    unfold runEngine
    split
    · rfl
    · rename_i h
      exact ih.trans (engineMove_hide hy ht l h)

theorem queueJob_hide (hy : HidesYard ps) (ht : .templates ∈ ps) (l : Lane) (k : TicketRecord) (b : Bool) :
    (queueJob l k b s).2.hide ps = s.hide ps := by
  unfold queueJob
  dsimp only
  split
  · rfl
  · exact (pumpEngine_hide hy ht l).trans (modPrinter_hide hy l _)

theorem reprint_hide (hy : HidesYard ps) (ht : .templates ∈ ps) (l : Lane) (n : Nat) :
    (reprint l n s).2.hide ps = s.hide ps := by
  unfold reprint
  split
  · rfl
  · rename_i k _
    have e := queueJob_hide (s := s) hy ht l k true
    split <;> rename_i h <;> rw [h] at e <;> exact e

theorem endJob_hide (hy : HidesYard ps) (ht : .templates ∈ ps) (l : Lane) (r : PrintResult) :
    (endJob l r s).hide ps = s.hide ps := (pumpEngine_hide hy ht l).trans (closeJob_hide hy ht l r)

end Sys2Proof.Machine
end

