-- ==== Sys2Proof/Laws/PerInstr.lean ====
section
/-! SUPPORT. The family `Codes`: which code of the command summary a command of a port is (R178), and that the summary holds
it. -/

namespace Sys2Proof.Laws.Codes
open Sys2Proof Sys2Proof.Machine

/-- The code of the exchange that carries a command, for the commands the summary names (R178): an event has none, nor have
the rows that describe an exchange's form. -/
def codeOf : Instr → Option Byte
  | .readStatus _ => some 0x01#8
  | .clearNotices _ _ => some 0x02#8
  | .setNoticeEnable _ _ => some 0x03#8
  | .readParameter _ _ _ => some 0x10#8
  | .writeParameter _ _ _ _ => some 0x11#8
  | .writeLaneMode _ _ _ => some 0x11#8
  | .writeLanePortEnable _ _ _ => some 0x11#8
  | .selectTable _ _ _ => some 0x18#8
  | .readRecord _ => some 0x19#8
  | .writeRecord _ _ => some 0x1A#8
  | .writeCategory _ _ _ => some 0x1A#8
  | .removeCategory _ => some 0x1A#8
  | .writeAccount _ _ => some 0x1A#8
  | .deleteAccount _ => some 0x1A#8
  | .writeSiteCap _ _ => some 0x1A#8
  | .emptySiteCap _ => some 0x1A#8
  | .writeTare _ _ _ _ => some 0x1A#8
  | .deleteTare _ => some 0x1A#8
  | .writeTemplate _ _ _ => some 0x1A#8
  | .emptyTemplate _ => some 0x1A#8
  | .writeLine _ _ => some 0x1A#8
  | .writeRoute _ _ => some 0x1A#8
  | .readWeight _ _ => some 0x20#8
  | .followJournal _ => some 0x28#8
  | .leaveFollow _ => some 0x29#8
  | .readJournal _ => some 0x2A#8
  | .announce _ _ _ _ _ _ _ => some 0x30#8
  | .attach _ _ _ => some 0x31#8
  | .release _ _ _ => some 0x32#8
  | .capture _ _ _ => some 0x33#8
  | .manualRaise _ _ => some 0x34#8
  | .manualLower _ _ => some 0x35#8
  | .reprintLast _ _ => some 0x36#8
  | .reprintTicket _ _ _ => some 0x49#8
  | .abortPrint _ _ => some 0x37#8
  | .zeroDeck _ _ => some 0x38#8
  | .voidVisit _ _ => some 0x40#8
  | .resolve _ _ _ => some 0x41#8
  | .archiveUpTo _ _ => some 0x48#8
  | .setClock _ _ _ => some 0x50#8
  | .forceRollover _ => some 0x51#8
  | .setOutput _ _ _ => some 0x58#8
  | .restartLanes _ => some 0x60#8
  | .clearLaneFault _ _ => some 0x61#8
  | .calBegin _ _ => some 0x70#8
  | .calSet _ _ _ => some 0x71#8
  | .calZero _ _ => some 0x72#8
  | .calSpan _ _ _ => some 0x73#8
  | .calEnd _ _ => some 0x74#8
  | .calAbandon _ _ => some 0x75#8
  | .lockCalibration _ => some 0x78#8
  | .writeSiteNumber _ _ => some 0x7C#8
  | .retryStore _ => some 0x7D#8
  | .followExchange _ | .readCursorMove _ | .framingDiscard _ _ _ _ | .unknownCommand _ _ | .sampleOk _ _
  | .sampleCellError _ _ | .linkSilenceTimeout _ | .captureTimeout _ | .zeroTrackingStep _ | .ticketIssue
  | .floorWriteEnd _ | .calWriteEnd _ | .siteNumberWriteEnd _ | .clockAdvance | .overstay _
  | .loopFilterChange _ _ | .beamFilterChange _ _ _ | .barrierLimitChange _ _ _ | .travelTimeout _
  | .passTimeout _ | .unannouncedOccupancyTimeout _ | .metrologySwitchChange _ | .printByteSent _
  | .printerReadyChange _ _ | .paperOutChange _ _ | .pauseTimeout _ | .inputFilterChange _ _
  | .outputPulseExpiry _ | .powerOn _ | .externalReset _ | .powerLoss _ => none

/-- A command's code is in the summary. -/
def Statement (i : Instr) : Prop := ∀ c, codeOf i = some c → formOf c ≠ .unknown

theorem mem (c : Byte) (h : formOf c ≠ .unknown) : ∀ k, some c = some k → formOf k ≠ .unknown := by
  rintro k ⟨⟩
  exact h

theorem event : ∀ k : Byte, (none : Option Byte) = some k → formOf k ≠ .unknown := by
  rintro k ⟨⟩

theorem readStatus (p : PortId) : Statement (.readStatus p) := mem _ (by decide)
theorem clearNotices (p : PortId) (set : BitVec 16) : Statement (.clearNotices p set) := mem _ (by decide)
theorem setNoticeEnable (p : PortId) (set : BitVec 16) : Statement (.setNoticeEnable p set) := mem _ (by decide)
theorem readParameter (p : PortId) (code : Byte) (inst : Byte) :
    Statement (.readParameter p code inst) := mem _ (by decide)
theorem writeParameter (p : PortId) (code : Byte) (inst : Byte) (value : BitVec 32) :
    Statement (.writeParameter p code inst value) := mem _ (by decide)
theorem writeLaneMode (p : PortId) (inst : Byte) (value : BitVec 32) :
    Statement (.writeLaneMode p inst value) := mem _ (by decide)
theorem writeLanePortEnable (p : PortId) (inst : Byte) (value : BitVec 32) :
    Statement (.writeLanePortEnable p inst value) := mem _ (by decide)
theorem selectTable (p : PortId) (table : Byte) (index : BitVec 32) :
    Statement (.selectTable p table index) := mem _ (by decide)
theorem readRecord (p : PortId) : Statement (.readRecord p) := mem _ (by decide)
theorem writeRecord (p : PortId) (args : List Byte) : Statement (.writeRecord p args) := mem _ (by decide)
theorem writeCategory (p : PortId) (name : Text) (reserve : BitVec 32) :
    Statement (.writeCategory p name reserve) := mem _ (by decide)
theorem removeCategory (p : PortId) : Statement (.removeCategory p) := mem _ (by decide)
theorem writeAccount (p : PortId) (w : AccountWrite) : Statement (.writeAccount p w) := mem _ (by decide)
theorem deleteAccount (p : PortId) : Statement (.deleteAccount p) := mem _ (by decide)
theorem writeSiteCap (p : PortId) (cap : BitVec 32) : Statement (.writeSiteCap p cap) := mem _ (by decide)
theorem emptySiteCap (p : PortId) : Statement (.emptySiteCap p) := mem _ (by decide)
theorem writeTare (p : PortId) (vehicle : List Byte) (tare : BitVec 32) (deck : Byte) :
    Statement (.writeTare p vehicle tare deck) := mem _ (by decide)
theorem deleteTare (p : PortId) : Statement (.deleteTare p) := mem _ (by decide)
theorem writeTemplate (p : PortId) (name : Text) (head : Byte) :
    Statement (.writeTemplate p name head) := mem _ (by decide)
theorem emptyTemplate (p : PortId) : Statement (.emptyTemplate p) := mem _ (by decide)
theorem writeLine (p : PortId) (w : LineWrite) : Statement (.writeLine p w) := mem _ (by decide)
theorem writeRoute (p : PortId) (w : RouteWrite) : Statement (.writeRoute p w) := mem _ (by decide)
theorem readWeight (p : PortId) (deck : Byte) : Statement (.readWeight p deck) := mem _ (by decide)
theorem followJournal (p : PortId) : Statement (.followJournal p) := mem _ (by decide)
theorem leaveFollow (p : PortId) : Statement (.leaveFollow p) := mem _ (by decide)
theorem followExchange (p : PortId) : Statement (.followExchange p) := event
theorem readJournal (p : PortId) : Statement (.readJournal p) := mem _ (by decide)
theorem readCursorMove (p : PortId) : Statement (.readCursorMove p) := event
theorem framingDiscard (p : PortId) (code : Byte) (argBytes : Nat) (replyBytes : Nat) :
    Statement (.framingDiscard p code argBytes replyBytes) := event
theorem unknownCommand (p : PortId) (code : Byte) : Statement (.unknownCommand p code) := event
theorem announce (p : PortId) (lane : Byte) (vehicle : List Byte) (account : BitVec 16) (category : Byte) (kind : Byte) (payload : BitVec 32) :
    Statement (.announce p lane vehicle account category kind payload) := mem _ (by decide)
theorem attach (p : PortId) (lane : Byte) (vehicle : List Byte) :
    Statement (.attach p lane vehicle) := mem _ (by decide)
theorem release (p : PortId) (lane : Byte) (ref : BitVec 16) : Statement (.release p lane ref) := mem _ (by decide)
theorem capture (p : PortId) (lane : Byte) (ref : BitVec 16) : Statement (.capture p lane ref) := mem _ (by decide)
theorem manualRaise (p : PortId) (lane : Byte) : Statement (.manualRaise p lane) := mem _ (by decide)
theorem manualLower (p : PortId) (lane : Byte) : Statement (.manualLower p lane) := mem _ (by decide)
theorem reprintLast (p : PortId) (lane : Byte) : Statement (.reprintLast p lane) := mem _ (by decide)
theorem reprintTicket (p : PortId) (ticket : BitVec 32) (lane : Byte) :
    Statement (.reprintTicket p ticket lane) := mem _ (by decide)
theorem abortPrint (p : PortId) (lane : Byte) : Statement (.abortPrint p lane) := mem _ (by decide)
theorem zeroDeck (p : PortId) (deck : Byte) : Statement (.zeroDeck p deck) := mem _ (by decide)
theorem voidVisit (p : PortId) (visit : BitVec 16) : Statement (.voidVisit p visit) := mem _ (by decide)
theorem resolve (p : PortId) (visit : BitVec 16) (choice : Byte) :
    Statement (.resolve p visit choice) := mem _ (by decide)
theorem archiveUpTo (p : PortId) (seq : BitVec 32) : Statement (.archiveUpTo p seq) := mem _ (by decide)
theorem setClock (p : PortId) (day : BitVec 16) (second : BitVec 24) :
    Statement (.setClock p day second) := mem _ (by decide)
theorem forceRollover (p : PortId) : Statement (.forceRollover p) := mem _ (by decide)
theorem setOutput (p : PortId) (output : Byte) (action : Byte) :
    Statement (.setOutput p output action) := mem _ (by decide)
theorem restartLanes (p : PortId) : Statement (.restartLanes p) := mem _ (by decide)
theorem clearLaneFault (p : PortId) (lane : Byte) : Statement (.clearLaneFault p lane) := mem _ (by decide)
theorem calBegin (p : PortId) (deck : Byte) : Statement (.calBegin p deck) := mem _ (by decide)
theorem calSet (p : PortId) (deck : Byte) (fields : CalFields) : Statement (.calSet p deck fields) := mem _ (by decide)
theorem calZero (p : PortId) (deck : Byte) : Statement (.calZero p deck) := mem _ (by decide)
theorem calSpan (p : PortId) (deck : Byte) (load : BitVec 32) : Statement (.calSpan p deck load) := mem _ (by decide)
theorem calEnd (p : PortId) (deck : Byte) : Statement (.calEnd p deck) := mem _ (by decide)
theorem calAbandon (p : PortId) (deck : Byte) : Statement (.calAbandon p deck) := mem _ (by decide)
theorem lockCalibration (p : PortId) : Statement (.lockCalibration p) := mem _ (by decide)
theorem writeSiteNumber (p : PortId) (value : BitVec 16) : Statement (.writeSiteNumber p value) := mem _ (by decide)
theorem retryStore (p : PortId) : Statement (.retryStore p) := mem _ (by decide)
theorem sampleOk (d : Deck) (count : BitVec 24) : Statement (.sampleOk d count) := event
theorem sampleCellError (d : Deck) (count : BitVec 24) : Statement (.sampleCellError d count) := event
theorem linkSilenceTimeout (d : Deck) : Statement (.linkSilenceTimeout d) := event
theorem captureTimeout (d : Deck) : Statement (.captureTimeout d) := event
theorem zeroTrackingStep (d : Deck) : Statement (.zeroTrackingStep d) := event
theorem ticketIssue : Statement (.ticketIssue) := event
theorem floorWriteEnd (ok : Bool) : Statement (.floorWriteEnd ok) := event
theorem calWriteEnd (ok : Bool) : Statement (.calWriteEnd ok) := event
theorem siteNumberWriteEnd (ok : Bool) : Statement (.siteNumberWriteEnd ok) := event
theorem clockAdvance : Statement (.clockAdvance) := event
theorem overstay (visit : BitVec 16) : Statement (.overstay visit) := event
theorem loopFilterChange (l : Lane) (occupied : Bool) : Statement (.loopFilterChange l occupied) := event
theorem beamFilterChange (l : Lane) (beam : Beam) (broken : Bool) : Statement (.beamFilterChange l beam broken) := event
theorem barrierLimitChange (l : Lane) (limit : Limit) (active : Bool) :
    Statement (.barrierLimitChange l limit active) := event
theorem travelTimeout (l : Lane) : Statement (.travelTimeout l) := event
theorem passTimeout (l : Lane) : Statement (.passTimeout l) := event
theorem unannouncedOccupancyTimeout (l : Lane) : Statement (.unannouncedOccupancyTimeout l) := event
theorem metrologySwitchChange (closed : Bool) : Statement (.metrologySwitchChange closed) := event
theorem printByteSent (l : Lane) : Statement (.printByteSent l) := event
theorem printerReadyChange (l : Lane) (ready : Bool) : Statement (.printerReadyChange l ready) := event
theorem paperOutChange (l : Lane) (active : Bool) : Statement (.paperOutChange l active) := event
theorem pauseTimeout (l : Lane) : Statement (.pauseTimeout l) := event
theorem inputFilterChange (input : Nat) (high : Bool) : Statement (.inputFilterChange input high) := event
theorem outputPulseExpiry (output : Nat) : Statement (.outputPulseExpiry output) := event
theorem powerOn (x : StartInputs) : Statement (.powerOn x) := event
theorem externalReset (x : StartInputs) : Statement (.externalReset x) := event
theorem powerLoss (writeLanded : Bool) : Statement (.powerLoss writeLanded) := event

end Sys2Proof.Laws.Codes
end

