-- ==== Sys2Proof/Laws/Tables.lean ====
section
/-! SUPPORT. The numbered tables: what is read after an insertion, an erasure and a change of every record, and that each
keeps the indices rising. -/

namespace Sys2Proof
variable {α : Type}

/-! ### Reading after a write -/

@[simp] theorem Table.find_insert_self (t : Table α) (i : Nat) (x : α) : Table.find (Table.insert t i x) i = some x := by
  induction t with
  | nil => simp [Table.insert, Table.find]
  | cons p t ih =>
    obtain ⟨j, y⟩ := p
    simp only [Table.insert]
    split
    · simp [Table.find]
    · split
      · simp [Table.find]
      · rename_i h1 h2
        simp only [Table.find]
        rw [if_neg fun h => h2 h.symm, ih]

theorem Table.find_insert_of_ne (t : Table α) {i k : Nat} (x : α) (h : k ≠ i) :
    Table.find (Table.insert t i x) k = Table.find t k := by
  induction t with
  | nil => simp [Table.insert, Table.find, Ne.symm h]
  | cons p t ih =>
    obtain ⟨j, y⟩ := p
    simp only [Table.insert]
    split
    · simp [Table.find, Ne.symm h]
    · split
      · rename_i h1 h2
        subst h2
        simp [Table.find, Ne.symm h]
      · simp only [Table.find, ih]

@[simp] theorem Table.find_erase_self (t : Table α) (i : Nat) : Table.find (Table.erase t i) i = none := by
  induction t with
  | nil => rfl
  | cons p t ih =>
    obtain ⟨j, y⟩ := p
    simp only [Table.erase]
    split
    · exact ih
    · rename_i h
      simp only [Table.find]
      rw [if_neg h, ih]

theorem Table.find_erase_of_ne (t : Table α) {i k : Nat} (h : k ≠ i) :
    Table.find (Table.erase t i) k = Table.find t k := by
  induction t with
  | nil => rfl
  | cons p t ih =>
    obtain ⟨j, y⟩ := p
    simp only [Table.erase]
    split
    · rename_i e
      subst e
      simp only [Table.find]
      rw [if_neg (Ne.symm h), ih]
    · simp only [Table.find, ih]

/-- The record a table holds at an index after a write of `x` at `i`. -/
theorem Table.getD_put [DecidableEq α] (t : Table α) (d : α) (i : Nat) (x : α) (k : Nat) :
    Table.getD (Table.put t d i x) d k = if k = i then x else Table.getD t d k := by
  unfold Table.put Table.getD
  split <;> rename_i h
  · split <;> rename_i e
    · subst e; simp [h]
    · rw [Table.find_erase_of_ne t e]
  · split <;> rename_i e
    · subst e; simp
    · rw [Table.find_insert_of_ne t x e]

theorem Table.find_mapVals (t : Table α) (f : α → α) (i : Nat) :
    Table.find (Table.mapVals t f) i = (Table.find t i).map f := by
  induction t with
  | nil => rfl
  | cons p t ih =>
    obtain ⟨j, y⟩ := p
    simp only [Table.mapVals, List.map_cons, Table.find]
    split
    · rfl
    · exact ih

/-! ### Rising indices -/

/-- Rising indices, as a relation between any two entries. -/
theorem Table.rising_iff (t : Table α) : Table.rising t = true ↔ t.Pairwise fun p q => p.1 < q.1 := by
  induction t with
  | nil => simp [Table.rising]
  | cons p t ih =>
    cases t with
    | nil => simp [Table.rising]
    | cons q t =>
      obtain ⟨i, x⟩ := p
      obtain ⟨j, y⟩ := q
      rw [List.pairwise_cons, Table.rising, Bool.and_eq_true, decide_eq_true_iff, ih]
      constructor
      · rintro ⟨h, hp⟩
        refine ⟨fun r hr => ?_, hp⟩
        rcases List.mem_cons.1 hr with rfl | hr
        · exact h
        · exact lt_trans h ((List.pairwise_cons.1 hp).1 r hr)
      · rintro ⟨h, hp⟩
        exact ⟨h (j, y) List.mem_cons_self, hp⟩

theorem Table.mem_insert {t : Table α} {i : Nat} {x : α} {p : Nat × α} (h : p ∈ Table.insert t i x) :
    p = (i, x) ∨ p ∈ t := by
  induction t with
  | nil => simpa [Table.insert] using h
  | cons q t ih =>
    obtain ⟨j, y⟩ := q
    simp only [Table.insert] at h
    split at h
    · exact List.mem_cons.1 h
    · split at h
      · rcases List.mem_cons.1 h with h | h
        · exact .inl h
        · exact .inr (List.mem_cons_of_mem _ h)
      · rcases List.mem_cons.1 h with h | h
        · exact .inr (h ▸ List.mem_cons_self)
        · exact (ih h).imp_right (List.mem_cons_of_mem _)

theorem Table.rising_insert {t : Table α} (h : Table.rising t = true) (i : Nat) (x : α) :
    Table.rising (Table.insert t i x) = true := by
  rw [Table.rising_iff] at *
  induction t with
  | nil => simp [Table.insert]
  | cons p t ih =>
    obtain ⟨j, y⟩ := p
    have hp := List.pairwise_cons.1 h
    simp only [Table.insert]
    split <;> rename_i h1
    · refine List.pairwise_cons.2 ⟨fun q hq => ?_, h⟩
      rcases List.mem_cons.1 hq with rfl | hq
      · exact h1
      · exact lt_trans h1 (hp.1 q hq)
    · split <;> rename_i h2
      · subst h2
        exact List.pairwise_cons.2 ⟨hp.1, hp.2⟩
      · refine List.pairwise_cons.2 ⟨fun q hq => ?_, ih hp.2⟩
        rcases Table.mem_insert hq with rfl | hq
        · exact Nat.lt_of_le_of_ne (Nat.le_of_not_lt h1) (Ne.symm h2)
        · exact hp.1 q hq

theorem Table.erase_sublist (t : Table α) (i : Nat) : (Table.erase t i).Sublist t := by
  induction t with
  | nil => exact List.Sublist.refl _
  | cons p t ih =>
    obtain ⟨j, y⟩ := p
    simp only [Table.erase]
    split
    · exact ih.cons _
    · exact ih.cons_cons _

theorem Table.rising_erase {t : Table α} (h : Table.rising t = true) (i : Nat) : Table.rising (Table.erase t i) = true := by
  rw [Table.rising_iff] at *
  exact h.sublist (Table.erase_sublist t i)

theorem Table.rising_put [DecidableEq α] {t : Table α} (h : Table.rising t = true) (d : α) (i : Nat) (x : α) :
    Table.rising (Table.put t d i x) = true := by
  unfold Table.put
  split
  · exact Table.rising_erase h i
  · exact Table.rising_insert h i x

/-- A change of the records that keeps every index keeps the indices rising. -/
theorem Table.rising_map {β : Type} {t : Table α} (h : Table.rising t = true) (f : Nat × α → Nat × β)
    (hf : ∀ p, (f p).1 = p.1) : Table.rising (t.map f : Table β) = true := by
  rw [Table.rising_iff] at *
  exact List.pairwise_map.2 (h.imp fun {a b} e => by rw [hf, hf]; exact e)

theorem Table.rising_mapVals {t : Table α} (h : Table.rising t = true) (f : α → α) :
    Table.rising (Table.mapVals t f) = true := Table.rising_map h _ fun _ => rfl

theorem Table.rising_filter {t : Table α} (h : Table.rising t = true) (f : Nat × α → Bool) :
    Table.rising (t.filter f : Table α) = true := by
  rw [Table.rising_iff] at *
  exact h.sublist List.filter_sublist

end Sys2Proof
end

