-- ==== Sys2Proof/Tests/Slice0.lean ====
section
/-! SUPPORT. Small tests: the refusals of WellFormed, worked figures of the spec, and for every statement with hypotheses a
state and operands that meet them. Expected figures are the spec's own. -/

namespace Sys2Proof.Tests
open Sys2Proof Sys2Proof.Machine

/-! ### WellFormed refuses -/

theorem test_wf_announce_short_vehicle : (Instr.announce .office 1#8 [65#8] 3150#16 2#8 1#8 0#32).wellFormed = false := by
  decide
theorem test_wf_attach_short_vehicle : (Instr.attach .office 1#8 []).wellFormed = false := by decide
theorem test_wf_tare_short_vehicle : (Instr.writeTare .office [65#8] 1#32 0#8).wellFormed = false := by decide
theorem test_wf_known_code : (Instr.unknownCommand .office 0x33#8).wellFormed = false := by decide
theorem test_wf_visit_zero : (Instr.overstay 0#16).wellFormed = false := by decide
theorem test_wf_input_nine : (Instr.inputFilterChange 9 true).wellFormed = false := by decide
theorem test_wf_output_zero : (Instr.outputPulseExpiry 0).wellFormed = false := by decide
theorem test_wf_accepts : (Instr.unknownCommand .office 0x04#8).wellFormed = true := by decide

/-! ### Exchanges (R166, R167, R178): bytes written out from the command summary -/

theorem test_decode_release : decodeExchange (State.reset.port (.lane .i2)) (.lane .i2) [0x32#8, 0x00#8, 0x03#8, 0x05#8]
    = [.release (.lane .i2) 0#8 0x0305#16] := by decide
theorem test_decode_set_clock :
    decodeExchange (State.reset.port .office) .office [0x50#8, 0x09#8, 0x6B#8, 0x00#8, 0x93#8, 0xA8#8]
      = [.setClock .office 2411#16 37800#24] := by decide
theorem test_decode_short_announce : decodeExchange (State.reset.port .office) .office [0x30#8, 0x01#8]
    = [.framingDiscard .office 0x30#8 1 0] := by decide
theorem test_decode_unknown : decodeExchange (State.reset.port .office) .office [0x7F#8] = [.unknownCommand .office 0x7F#8] := by
  decide

/-! ### Worked arithmetic (01 section 1.4) and a check word (R130) -/

/-- The calibration the four worked cases share. -/
def workedRecord : CalRecord :=
  { max := 60000, e := 20, n := 16, w := 10, mf := 100, tracking := true, zc := 120000, k := 6554 }

theorem test_loaded_fine : fineWeight workedRecord (16 * 1963700) = 184381 := by decide
theorem test_loaded_gross : grossWeight workedRecord (184381 + 30) = 18440 := by decide
theorem test_half_away_from_zero : grossWeight workedRecord (-100) = -20 ∧ grossWeight workedRecord 99 = 0 := by decide

/-- R130, the first three words of its worked ticket: number 48 213, visit 305, site number 1 207. -/
theorem test_check_word_steps : turned 1207 0 = 38624 ∧ turned 38624 48213 = 1204309 ∧ turned 1204309 305 = 38538129
    ∧ checkWord 1207 [0, 48213, 305] = 38538129#32 := by decide

/-! ### Small states -/

/-- The office port's cursor at an index of a table. -/
def atRecord (t : TableId) (i : Nat) (s : State) : State := s.modPort .office fun x => { x with cursor := some (t, i) }

/-- The clock set to day 5, second 100. -/
def clockOn (s : State) : State := { s with clock := { s.clock with isSet := true, day := 5, second := 100 } }

def amounts (a d h : Nat) : Amounts := { allow := a, debited := d, held := h, overrun := false }

/-- Account 3 150 with a row for category 2, the category and its cap. -/
def shop (s : State) : State :=
  let account : Account := { number := 3150, status := .active, keepTares := true, storedTareAllowed := false,
                             rows := [{ category := 2, amounts := amounts 40000 0 0 }] }
  { s with allow := { s.allow with
      categories := [(2, { name := [65#8], reserve := 15000 })], accounts := [(0, account)],
      caps := [(2, amounts 900000 0 0)] } }

def weighed (w : Int) : CapturedWeight := { weight := w, deck := .i1, time := { day := 5, second := 90 }, audit := 0 }

/-- Visit 7 of vehicle A, at slot 1 of lane 1. -/
def visitIn (st : VisitState) : Visit :=
  { number := 7, vehicle := [65#8], account := 3150, category := 2, kind := .delivery, payload := 9000,
    announceLane := .i1, announceTime := { day := 5, second := 80 }, announceSecond := 0, first := some (weighed 25420),
    second := none, tareSource := .none, storedTare := none, manualTare := false, net := some 9000, reserve := 9000,
    state := st, place := some { lane := .i1, slot := .i1, pass := .entry }, ticket := none, reason := none,
    overstayNoticed := false, calChanged := false, negativeNet := false }

/-- One open visit, in its place's queue, whose head the sequencer of lane 1 keeps. -/
def holdVisit (v : Visit) (s : State) : State :=
  let q : LaneQueue := { members := if v.place.isSome then [(.i1, v.number)] else [], generations := Four.all 3 }
  { s.modSeq .i1 fun x => { x with head := v.place.map fun _ => (v.number, v.state) } with
    visits := { s.visits with records := [(0, v)], queues := s.visits.queues.put .i1 q } }

/-- A tare of vehicle A weighed on day 5. -/
def tareA : TareEntry :=
  { vehicle := [65#8], tare := 9000, deck := 1, taken := { day := 5, second := 0 }, manual := false, uses := 0 }

/-- That tare at index 5. -/
def stored (s : State) : State := { s with tares := { s.tares with entries := [(5, tareA)] } }

def inMode (m : LaneMode) (st : SeqState) (s : State) : State :=
  (s.modParams .i1 fun x => { x with mode := m }).modSeq .i1 fun q => { q with state := st }

def withBarrier (st : BarrierState) (s : State) : State :=
  s.modBarrier .i1 fun b =>
    { b with state := st, travelTimer := if st = .raising ∨ st = .lowering then .until 6000 else .stopped }

/-- The queue of commands holds one. -/
def queued (i : Instr) (s : State) : State := { s with pending := [i] }

/-- An active deck 1 with this last fine weight, stable and valid. -/
def activeDeck (w : Int) (s : State) : State :=
  s.modDeck .i1 fun u => { u with phase := .active, valid := true, stable := true, fine := w, netFine := w }

/-- Deck 1 with an open session on `r`, its window full and stable at the count `c`. -/
def session (r : CalRecord) (c : Int) (s : State) : State :=
  { s.modDeck .i1 fun u => { u with phase := .calibrating, window := [c, c, c, c], sum := 4 * c, valid := true, stable := true }
    with cal := { s.cal with working := s.cal.working.put .i1 (some r), switchClosed := true } }

def shortRecord : CalRecord := { workedRecord with n := 4, w := 2 }

/-- A ticket of lane 1. -/
def ticket9 : TicketRecord :=
  { number := 9, visit := 7, issued := { day := 5, second := 95 }, lane := .i1, vehicle := [65#8], account := 3150,
    category := 2, kind := .delivery, first := weighed 25420, second := none, tareSource := .stored, tare := 16420,
    net := 9000, negativeNet := false, overrun := false, calChanged := false, manualTare := false, audit := 0,
    check := 0#32, site := 1207 }

def entry (n : Nat) (b : JournalBody) : Nat × JournalEntry := (n, { seq := n, body := b })

/-- A journal of two entries, the second the ticket, which is lane 1's last. -/
def ticketed (s : State) : State :=
  { s.modReport .i1 fun r => { r with lastTicket := some 9 } with
      journal := { s.journal with ring := s.journal.ring ++ [entry 2 (.ticket ticket9)], last := 2 } }

def job (w : Option JobWalk) : PrintJob := { ticket := ticket9, copy := false, walk := w }
def walked : JobWalk := { template := 0, position := 0, rendered := 1, finished := true }

/-- Lane 1's printer in a state, its walk done, with some bytes to send. -/
def printing (st : EngineState) (fifo : List Byte) (s : State) : State :=
  s.modPrinter .i1 fun e =>
    { e with state := st, jobs := [job (some walked)], fifo := fifo, ready := true, paperOut := decide (st = .paused),
             pauseTimer := if st = .paused then .until 9 else .stopped }

/-- A ticket can be issued: room, site number and floor are there and visit 7 is first to wait. -/
def issuing : State :=
  let s := shop (clockOn (holdVisit (visitIn .awaitingTicket) State.reset))
  { s with cal := { s.cal with site := some 1207 }, tickets := { s.tickets with next := 48214, floor := 48384, queue := [7] } }

def stagedOne : StagedCal :=
  { deck := .i1, audit := 1, oldZc := 0, newZc := 120000, oldK := 6554, newK := 6554, max := 60000, e := 20 }

/-- A calibration write of deck 1 is in flight. -/
def calibrationWrite : State :=
  let s := (session shortRecord 120000 State.reset).modPort .office fun x => { x with busy := true }
  { s with cal := { s.cal with staged := some stagedOne }, journal := { s.journal with reservations := 1 },
           nv := { s.nv with inFlight := some (.cal .i1 shortRecord 1) } }

/-- A journal at the ticket limit, its last entry 1 016. -/
def fullJournal (s : State) : State := { s with journal := { s.journal with last := 1016 } }

/-- What fails first in the dark: the part without power. -/
def dark (s : State) : State := { s with power := false }

def start (dropout : Bool) : StartInputs :=
  { writeLanded := false, dropout := dropout, cutShort := false,
    cells := { cal := Four.all true, audit := true, site := true, floor := true } }

/-! ### Small steps of single commands -/

/-- 12.1: a ticket issue leaves a one-weight visit TICKETED_ON_SITE and settles its row to the net. -/
theorem test_issue_ticketed : (match exec .ticketIssue issuing with
    | .next t => decide ((findVisit t 7).map (·.state) = some .ticketedOnSite ∧ t.tickets.next = 48215
        ∧ (t.lane .i1).seqr.state = .closed)
    | _ => false) = true := by decide
theorem test_release_frees_slot :
    (match exec (.release (.lane .i1) 0#8 0x0103#16) (holdVisit (visitIn .announced) State.reset) with
      | .next t => decide (t.visits.records.length = 0 ∧ (t.visits.queues.get .i1).generations.one = 4)
      | _ => false) = true := by decide
theorem test_old_handle_is_gone :
    (match exec (.release (.lane .i1) 0#8 0x0102#16) (holdVisit (visitIn .announced) State.reset) with
      | .next t => decide ((t.port (.lane .i1)).lastResult = .gone)
      | _ => false) = true := by decide
theorem test_lower_waits_for_loop :
    (match exec (.manualLower (.lane .i1) 1#8) (withBarrier .up (inMode .manual .manual State.reset)) with
      | .next t => decide ((t.lane .i1).barrier.pendingLower = true ∧ (t.lane .i1).barrier.state = .up)
      | _ => false) = true := by decide
/-- R164, a pulse and the expiry arriving together, the pulse first: ON until the new end. -/
theorem test_pulse_before_its_expiry :
    (let s := { outputPulse 3 State.reset with pending := [.setOutput .office 3#8 3#8, .outputPulseExpiry 3] }
     match step s with
      | .next t => (match step t with
        | .next u => decide ((u.output 3).on = true ∧ (u.output 3).pulseTimer.deadline = some 1000 ∧ u.pending = [])
        | _ => false)
      | _ => false) = true := by decide
/-- R2, a sample and the silence timer's expiry arriving together, the sample first: no fault. -/
theorem test_sample_before_silence :
    (match step { State.reset with pending := [.sampleOk .i2 0#24, .linkSilenceTimeout .i2] } with
      | .next t => (match step t with
        | .next u => decide ((u.deck .i2).linkLost = false ∧ (u.deck .i2).linkTimer = .until 100)
        | _ => false)
      | _ => false) = true := by decide
theorem test_loop_clear_lowers :
    (match exec (.loopFilterChange .i1 false)
        ((withBarrier .up State.reset).modBarrier .i1 fun b => { b with pendingLower := true }) with
      | .next t => decide ((t.lane .i1).barrier.state = .lowering ∧ (t.lane .i1).barrier.travelTimer.deadline = some 6000)
      | _ => false) = true := by decide
theorem test_last_midnight :
    (let night := { State.reset.clock with day := 65535, second := 86399, monoSecond := .owed }
     match exec .clockAdvance { State.reset with clock := night } with
      | .next t => decide (t.clock.day = 0 ∧ t.clock.second = 0 ∧ t.clock.mono = 1)
      | _ => false) = true := by decide

/-- R183, R184: a monotonic second counted while no command waits is counted once, and SET CLOCK leaves it. -/
theorem test_set_clock_keeps_mono :
    (match step State.reset with
      | .next t =>
        match exec (.setClock .office 5#16 100#24) t with
        | .next u => decide (t.clock.mono = 1 ∧ monoTick t = t ∧ u.clock.mono = 1 ∧ (monoTick u).clock.mono = 2)
        | _ => false
      | _ => false) = true := by decide

/-- R183: an advance that waits behind a SET CLOCK is absorbed, raises nothing and leaves the second, and the one after counts. -/
theorem test_advance_absorbed :
    (match step { State.reset with pending := [.setClock .office 5#16 119#24, .clockAdvance] } with
      | .next t =>
        match step t with
        | .next u =>
          match exec .clockAdvance u with
          | .next v => decide (t.clock.absorbs = true ∧ u.clock.second = 119 ∧ u.clock.absorbs = false
              ∧ u.routes = t.routes ∧ v.clock.second = 120)
          | _ => false
        | _ => false
      | _ => false) = true := by decide

/-- R166, R179: SET CLOCK shifts out the status byte (a notice pending, attention asserted, DONE) and zeros. -/
theorem test_data_out_write : dataOut State.reset .office [0x50#8, 0#8, 5#8, 0#8, 0#8, 0#8] = 0x50#8 :: zeros 5 := by decide
/-- R166, R179: zeros over READ PARAMETER's two arguments, then DONE and the store fault, which is clear, then a zero. -/
theorem test_data_out_read : dataOut State.reset .office [0x10#8, 77#8, 0#8, 1#8, 1#8, 1#8, 1#8, 1#8, 1#8]
    = 0x50#8 :: zeros 8 := by decide
/-- R175, R179: a TARES payload shows vehicle, tare, deck, day and second of the entry, most significant byte first. -/
theorem test_tare_payload : (recordPayload .tares (recordView (stored State.reset) .office .tares 5)).take 21
    = [1#8, 65#8] ++ zeros 9 ++ [0#8, 0#8, 0x23#8, 0x28#8, 1#8, 0#8, 5#8] ++ zeros 3 := by decide
/-- R52: a RELEASE leaves no capture in flight, though its CAPTURE_FAILED is routed to START_CAPTURE of the lane. -/
theorem test_no_capture_as_the_head_leaves :
    (let route : Route := { enabled := true, event := .captureFailed, eventIndex := none, task := .startCapture,
                            taskIndex := 1, outcome := .none }
     let s := inMode .auto .capturing (holdVisit (visitIn .announced) State.reset)
     let s := s.modDeck .i1 fun u => { u with phase := .active, capture := some { visit := 7, deadline := 9 } }
     match exec (.release .office 1#8 7#16) { s with routes := { s.routes with routes := [(0, route)] } } with
      | .next t => decide ((t.deck .i1).capture = none ∧ findVisit t 7 = none
          ∧ t.routes.routes.map (fun p => p.2.outcome) = [.refused])
      | _ => false) = true := by decide
/-- R110: an expired timer stops once both its conditions have ended, one after the other. -/
theorem test_spent_timer : (UnannouncedTimer.spent false false).sync true false 9 = .spent false true
    ∧ (UnannouncedTimer.spent false true).sync false true 9 = .stopped := by decide
/-- R126: a rollover that must wait makes the waiting ticket wait for the system record. -/
theorem test_rollover_makes_tickets_wait :
    (match exec (.forceRollover .office) { issuing with journal := { issuing.journal with last := 1024 } } with
      | .next t => decide (t.tickets.wait = .systemRecord ∧ t.tickets.pendingRollover = some 1)
      | _ => false) = true := by decide
/-- R64: an overstay before its second is none. -/
theorem test_no_early_overstay :
    (match exec (.overstay 7#16) (holdVisit (visitIn .announced) State.reset) with
      | .next t => decide ((findVisit t 7).map (·.overstayNoticed) = some false)
      | _ => false) = true := by decide

/-! ### Witnesses: states that meet the hypotheses of the statements

One theorem for each statement with hypotheses, a clause of it in its own conjunct, at a boundary of its range where it has
one. -/

theorem witness_StepTakesTheFrontCommand :
    let last := { State.reset.clock with mono := 4294967294 }
    let told := { State.reset.clock with monoSecond := .counted }
    State.reset.pending = [] ∧ (queued .ticketIssue State.reset).pending = .ticketIssue :: []
    ∧ (dark State.reset).power = false ∧ { State.reset with clock := told }.clock.monoSecond = .counted
    ∧ { State.reset with clock := last }.power = true ∧ { State.reset with clock := last }.clock.monoSecond ≠ .counted
    ∧ { State.reset with clock := last }.clock.mono < 4294967295 :=
  ⟨rfl, rfl, rfl, rfl, rfl, by decide, by decide⟩

theorem witness_StepKeepsBarriersSafe : let s := queued (.loopFilterChange .i1 false) (withBarrier .raising State.reset)
    BarriersOk s ∧ ∃ t, step s = .next t := by
  refine ⟨fun l => ?_, _, rfl⟩
  cases l <;> (unfold BarrierOk; decide)

theorem witness_StepKeepsSequencersInMode :
    let s := queued (.loopFilterChange .i1 false) (inMode .auto .idle State.reset)
    SequencersOk s ∧ ∃ t, step s = .next t := by
  refine ⟨fun l => ?_, _, rfl⟩
  cases l <;> (unfold SequencerOk; decide)

theorem witness_StepKeepsDecksConsistent : let s := queued (.sampleOk .i1 0#24) (session shortRecord 120000 State.reset)
    DecksOk s ∧ ∃ t, step s = .next t := by
  refine ⟨fun d => ?_, _, rfl⟩
  cases d <;> (unfold DeckOk; decide)

theorem journalOk_one (s : State) (h : s.journal = State.reset.journal) (hs : s.cal.staged = none) : JournalOk s := by
  unfold JournalOk
  rw [h, hs]
  refine ⟨fun n h1 h2 => ?_, by decide, by decide, by decide, by decide⟩
  have h1' : 1 ≤ n := h1
  have h2' : n ≤ 1 := h2
  obtain rfl : n = 1 := by omega
  decide

theorem writerOk_reset : WriterOk State.reset := by
  unfold WriterOk
  exact ⟨by decide, by decide, by decide, by decide, nofun, by decide⟩

theorem witness_StepKeepsJournalAndWriter : let s := queued (.forceRollover .office) State.reset
    StoreOk s ∧ ∃ t, step s = .next t := ⟨⟨journalOk_one _ rfl rfl, writerOk_reset⟩, _, rfl⟩

/-- A lane with one visit at its slot 1 and nothing else: the table and the queues agree. -/
theorem visitsOk_held (st : VisitState) (s : State) (h : s.visits = (holdVisit (visitIn st) State.reset).visits) :
    VisitsOk s := by
  unfold VisitsOk queueOf
  rw [h]
  refine ⟨rfl, fun p hp => ?_, List.nodup_singleton _, List.nodup_singleton _, fun l => ?_, fun l slot n => ?_,
    fun l slot => ?_⟩
  · cases List.mem_singleton.1 hp; exact (by decide : 0 < 64)
  · cases l <;> first | exact List.nodup_nil | exact List.nodup_singleton _
  · cases l <;> simp [holdVisit, visitIn, State.reset, Four.all, Four.get, Four.put]
    constructor
    · rintro ⟨rfl, rfl⟩; exact ⟨rfl, rfl⟩
    · rintro ⟨rfl, rfl⟩; exact ⟨rfl, rfl⟩
  · cases l <;> cases slot <;> first | exact (by decide : 3 < 16) | exact (by decide : 0 < 16)

theorem witness_StepKeepsVisitsAndQueuesAgreed :
    let s := queued (.release .office 1#8 7#16) (holdVisit (visitIn .announced) State.reset)
    VisitsOk s ∧ ∃ t, step s = .next t := ⟨visitsOk_held .announced _ rfl, _, rfl⟩

theorem witness_StepKeepsTablesRising : let s := queued (.removeCategory .office) (shop State.reset)
    TablesOk s ∧ ∃ t, step s = .next t := by
  refine ⟨?_, _, rfl⟩
  unfold TablesOk
  refine ⟨rfl, rfl, rfl, rfl, rfl, rfl, rfl, rfl, rfl, rfl, rfl, rfl, rfl, fun l => ?_⟩
  cases l <;> decide

theorem witness_TicketNumbersMoveOnlyByIssue :
    (∃ t, exec .ticketIssue issuing = .next t ∧ t.tickets.next ≠ issuing.tickets.next)
    ∧ ∃ t, exec (.powerOn (start true)) (dark issuing) = .next t ∧ t.tickets.next ≠ issuing.tickets.next :=
  ⟨⟨_, rfl, by decide⟩, ⟨_, rfl, by decide⟩⟩

theorem writerOk_write : WriterOk calibrationWrite := by
  unfold WriterOk
  refine ⟨by decide, by decide, by decide, by decide, fun c h => ?_, by decide⟩
  cases h
  rfl

theorem witness_CalibrationChangesOnlyByAStoredWrite :
    WriterOk calibrationWrite ∧ ∃ t, exec (.calWriteEnd true) calibrationWrite = .next t
      ∧ (t.cal.stored ≠ calibrationWrite.cal.stored ∨ t.cal.audit ≠ calibrationWrite.cal.audit) :=
  ⟨writerOk_write, _, rfl, .inr (by decide)⟩

theorem witness_OfficeCommandsAreDeniedAtLanePorts :
    let off := State.reset.modPort (.lane .i4) fun x => { x with enabled := false }
    officeOnly (.retryStore (.lane .i4)) = some (.lane .i4, 0x7D#8) ∧ State.reset.power = true
    ∧ (State.reset.port (.lane .i4)).follow = false
    ∧ writeRecordFramed (State.reset.port (.lane .i4)) [0#8].length = true
    ∧ recordTable (.deleteTare (.lane .i4)) = some (.lane .i4, .tares)
    ∧ writeRecordFramed (State.reset.port (.lane .i4)) (TableId.tares.writeLength.getD 0) = true
    ∧ portCommand (.capture (.lane .i4) 5#8 0#16) = some (.lane .i4, 0x33#8, some 5#8)
    ∧ (5#8).toNat ≠ Idx.i4.num ∧ (5#8).toNat ≠ 0
    ∧ portCommand (.zeroDeck (.lane .i4) 0#8) = some (.lane .i4, 0x38#8, some 0#8) ∧ (0#8).toNat ≠ Idx.i4.num
    ∧ (off.port (.lane .i4)).enabled = false ∧ (off.port (.lane .i4)).follow = false
    ∧ portCommand (.leaveFollow (.lane .i4)) = some (.lane .i4, 0x29#8, none) :=
  ⟨rfl, rfl, rfl, rfl, rfl, rfl, rfl, by decide, by decide, rfl, by decide, rfl, rfl, rfl⟩

theorem witness_BusyOfficePortRefusesBusy :
    officeOnly (.forceRollover .office) = some (.office, 0x51#8) ∧ Serves calibrationWrite .office
      ∧ (calibrationWrite.port .office).busy = true
      ∧ portCommand (.clearNotices .office 0#16) = some (.office, 0x02#8, none)
      ∧ 0x02#8 ≠ 0x18#8 ∧ 0x02#8 ≠ 0x28#8 ∧ 0x02#8 ≠ 0x29#8
      ∧ writeRecordFramed (calibrationWrite.port .office) [0#8].length = true
      ∧ recordTable (.removeCategory .office) = some (.office, .categories)
      ∧ writeRecordFramed (calibrationWrite.port .office) (TableId.categories.writeLength.getD 0) = true :=
  ⟨rfl, ⟨rfl, rfl, rfl⟩, rfl, rfl, by decide, by decide, by decide, rfl, rfl, rfl⟩

theorem takes_reset (p : PortId) : Takes State.reset p := by
  cases p with
  | office => exact ⟨rfl, rfl, rfl, rfl⟩
  | lane l => cases l <;> exact ⟨rfl, rfl, rfl, rfl⟩

theorem witness_ReadStatusIsServedInEveryCondition :
    State.reset.power = true ∧ (State.reset.port (.lane .i1)).follow = false := ⟨rfl, rfl⟩

theorem witness_NoticeSetsAreClearedAndEnabled :
    Takes State.reset (.lane .i1) ∧ 0x3FFF#16 &&& 0xC000#16 = 0#16 ∧ 0x4000#16 &&& 0xC000#16 ≠ 0#16 :=
  ⟨takes_reset _, by decide, by decide⟩

/-- The office port in follow mode. -/
def following (s : State) : State := s.modPort .office fun x => { x with follow := true, move := some (.journal 2) }

theorem witness_WrongCountsAndUnknownCodesAreNotTaken :
    State.reset.power = true ∧ framingWrong (State.reset.port .office) 0x50#8 4 0 = true
      ∧ (State.reset.port .office).follow = false ∧ formOf 0x50#8 = .write 5 ∧ formOf 0x04#8 = .unknown
      ∧ ((following State.reset).port .office).follow = true ∧ formOf 0x10#8 = .read 2 5 ∧ formOf 0x19#8 = .readRecord
      ∧ (State.reset.port .office).cursor = none
      ∧ ((atRecord .routes 31 State.reset).port .office).cursor = some (.routes, 31)
      ∧ ((atRecord .routes 31 State.reset).port .office).follow = false ∧ formOf 0x1A#8 = .writeRecord :=
  ⟨rfl, by decide, rfl, by decide, by decide, rfl, by decide, by decide, rfl, rfl, rfl, by decide⟩

/-- R167, R177, R178: the counts at their limits, in follow mode (78 bytes), of a read and of a record read and write. -/
theorem test_counts_at_their_limits :
    let f := (following State.reset).port .office
    let x := (atRecord .routes 31 State.reset).port .office
    framingWrong f 0x19#8 0 77 = true ∧ framingWrong f 0x19#8 0 78 = false ∧ framingWrong f 0x29#8 3 0 = false
    ∧ framingWrong x 0x10#8 2 4 = true ∧ framingWrong x 0x10#8 2 5 = false
    ∧ framingWrong x 0x19#8 0 6 = true ∧ framingWrong x 0x19#8 0 7 = false
    ∧ framingWrong x 0x1A#8 5 0 = true ∧ framingWrong x 0x1A#8 6 0 = false
    ∧ framingWrong State.reset.ports.office 0x19#8 0 0 = true ∧ framingWrong State.reset.ports.office 0x19#8 0 1 = false := by
  decide

theorem witness_FollowModeStartsReadsAndEnds :
    Serves State.reset .office ∧ (following State.reset).power = true ∧ ((following State.reset).port .office).follow = true
    ∧ (State.reset.port .office).move = none ∧ ((following State.reset).port .office).move = some (.journal 2)
    ∧ (∃ s : State, s.power = true ∧ (s.port .office).move = some (.table 0) ∧ (s.port .office).cursor = some (.routes, 31))
    ∧ 0x19#8 ≠ 0x29#8 ∧ (State.reset.port .office).follow = false ∧ formOf 0x28#8 = .write 0
    ∧ formOf 0x1A#8 = .writeRecord ∧ formOf 0x04#8 = .unknown ∧ formOf 0x10#8 = .read 2 5 ∧ [1#8, 4#8].length = 2
    ∧ (∃ t r, exec (commandOf .office 0x10#8 [1#8, 4#8]) State.reset = .next t ∧ (t.port .office).reply = some r)
    ∧ ∃ t r, exec (.readRecord .office) State.reset = .next t ∧ (t.port .office).reply = some r :=
  ⟨⟨rfl, rfl, rfl⟩, rfl, rfl, rfl, rfl,
    ⟨(atRecord .routes 31 State.reset).modPort .office fun x => { x with move := some (.table 0) }, rfl, rfl, rfl⟩, by decide,
    rfl, by decide, by decide, by decide, by decide, rfl, ⟨_, _, rfl, rfl⟩, _, _, rfl, rfl⟩

theorem witness_JournalReadFindsTheFirstSeenEntry :
    JournalOk State.reset ∧ (State.reset.port (.lane .i1)).journalCursor ≤ State.reset.journal.last + 1
      ∧ (∃ e, (journalRead State.reset (.lane .i1)).2.1 = some e)
      ∧ ∃ s : State, JournalOk s ∧ (s.port .office).journalCursor = s.journal.last + 1
        ∧ (journalRead s .office).2.1 = none :=
  ⟨journalOk_one _ rfl rfl, by decide, ⟨_, rfl⟩, State.reset.modPort .office fun x => { x with journalCursor := 2 },
    journalOk_one _ rfl rfl, rfl, rfl⟩

theorem witness_LanePortsSeeTheirOwnEntries :
    (State.reset.port .office).journalCursor = (State.reset.port (.lane .i3)).journalCursor := rfl

theorem serves_reset (p : PortId) : Serves State.reset p := ⟨(takes_reset p).1, (takes_reset p).2.1, (takes_reset p).2.2.2⟩

theorem witness_TablesAreSelectedAndRead :
    let lost := State.reset.modPort (.lane .i2) fun x => { x with cursor := some (.counters, 7) }
    Serves State.reset .office ∧ Serves State.reset (.lane .i2)
    ∧ TableId.ofCode? (12#8).toNat = some .journal ∧ tablePermitted State.reset .office .journal 4294967295 = true
    ∧ (4294967295#32).toNat ≤ TableId.lastIndex .journal ∧ tablePermitted State.reset (.lane .i2) .journal 0 = false
    ∧ TableId.lastIndex .routes < (32#32).toNat ∧ TableId.ofCode? (13#8).toNat = none
    ∧ ((atRecord .lines 95 State.reset).port .office).cursor = some (.lines, 95)
    ∧ (State.reset.port .office).cursor = none
    ∧ Serves lost (.lane .i2) ∧ (lost.port (.lane .i2)).cursor = some (.counters, 7)
    ∧ tablePermitted lost (.lane .i2) .counters 7 = false ∧ (RecordView.category 8 none).isEmpty = true :=
  ⟨serves_reset _, serves_reset _, rfl, rfl, by decide, rfl, by decide, rfl, rfl, rfl, ⟨rfl, rfl, rfl⟩, rfl, rfl, rfl⟩

theorem witness_ParametersAndWeightsAreRead :
    Serves State.reset (.lane .i1) ∧ paramOf 1#8 4#8 = some (.threshold .i4) ∧ paramOf 1#8 5#8 = none
    ∧ Idx.ofNat? (4#8).toNat = some .i4 ∧ Idx.ofNat? (5#8).toNat = none := ⟨serves_reset _, rfl, rfl, rfl, rfl⟩

theorem witness_WrittenParametersReadBack :
    Takes State.reset .office ∧ paramOf 27#8 1#8 = some (.passTimeout .i1)
    ∧ (Param.passTimeout .i1).refusal (300#32).toNat = none := ⟨takes_reset _, rfl, by decide⟩

theorem witness_RefusedParameterWritesChangeNothing :
    Takes State.reset .office ∧ paramOf 4#8 0#8 = none ∧ paramOf 77#8 0#8 = some .storeFault
    ∧ Param.storeFault.access = .readOnly ∧ paramOf 1#8 1#8 = some (.threshold .i1)
    ∧ (Param.threshold .i1).access = .numeric 100 5000 ∧ (99#32).toNat < 100 ∧ 5000 < (5001#32).toNat
    ∧ paramOf 25#8 1#8 = some (.direction .i1) ∧ (Param.direction .i1).access = .enumerated 2 ∧ 2 < (3#32).toNat :=
  ⟨takes_reset _, rfl, rfl, rfl, rfl, rfl, by decide, by decide, rfl, rfl, by decide⟩

theorem witness_LaneModeAndPortEnableAreWritten :
    Takes State.reset .office ∧ Idx.ofNat? (1#8).toNat = some .i1 ∧ (State.reset.lane .i1).params.mode.number = (0#32).toNat
    ∧ LaneMode.auto.number = (1#32).toNat ∧ LaneMode.manual.number = (2#32).toNat
    ∧ (State.reset.lane .i1).params.mode ≠ .auto ∧ (State.reset.deck .i1).capture = none
    ∧ (inMode .auto .idle State.reset).power = true ∧ ((inMode .auto .idle State.reset).lane .i1).params.mode ≠ .closed
    ∧ (1#32).toNat ≤ 1 := ⟨takes_reset _, rfl, rfl, rfl, rfl, by decide, rfl, rfl, by decide, by decide⟩

theorem takes_at (x : TableId) (i : Nat) (s : State) (h : Takes s .office) :
    Takes (atRecord x i s) .office ∧ ((atRecord x i s).port .office).cursor = some (x, i) := ⟨h, rfl⟩

theorem takes_shop : Takes (shop (clockOn State.reset)) .office := ⟨rfl, rfl, rfl, rfl⟩

theorem witness_WriteRecordIsTestedAndHandedOver :
    Takes State.reset .office ∧ (State.reset.port .office).cursor = none
    ∧ Takes (atRecord .tares 511 State.reset) .office
    ∧ ((atRecord .tares 511 State.reset).port .office).cursor = some (.tares, 511)
    ∧ TableId.writeLength .visits = none ∧ TableId.writeLength .siteCaps = some 5 ∧ [0#8, 0#8, 0#8, 0#8].length ≠ 5
    ∧ TableId.writeLength .siteCaps = some [1#8, 0#8, 0#8, 0#8, 0#8].length
    ∧ tableWriteOf .siteCaps [1#8, 0#8, 0#8, 0#8, 0#8] = some .siteCapEmpty
    ∧ (List.replicate 15 0#8).length = 15 :=
  ⟨takes_reset _, rfl, takes_reset _, rfl, rfl, rfl, by decide, rfl, by decide, rfl⟩

theorem witness_CategoriesAreStoredAndRemoved :
    let s := atRecord .categories 1 (shop (clockOn State.reset))
    let e := atRecord .categories 7 (shop (clockOn State.reset))
    Takes s .office ∧ (s.port .office).cursor = some (.categories, 1) ∧ legalName [65#8] = true
    ∧ (150000#32).toNat ≤ 150000 ∧ legalName [97#8] = false ∧ 150000 < (150001#32).toNat
    ∧ (Table.find s.allow.caps (1 + 1)).isSome = true ∧ Takes e .office ∧ (e.port .office).cursor = some (.categories, 7)
    ∧ ¬ ((∃ p ∈ e.allow.accounts, ∃ r ∈ p.2.rows, r.category = 7 + 1)
          ∨ (∃ p ∈ e.visits.records, p.2.category = 7 + 1) ∨ (Table.find e.allow.caps (7 + 1)).isSome = true) :=
  ⟨takes_shop, rfl, by decide, by decide, by decide, by decide, by decide, takes_shop, rfl, by decide⟩

/-- Account 3 150 written again with a smaller allowance. -/
def rewrite : AccountWrite :=
  { number := 3150#16, status := some .active, keepTares := true, storedTareAllowed := false, rows := [(2#8, 0#32)] }

/-- The clauses of an account write: a legal one that stays on its record, with a row that was there and one that is new, and
one for each refusal. -/
theorem witness_AccountsAreStoredKeepingDebitsAndHolds :
    let s := atRecord .accounts 0 (shop (clockOn State.reset))
    let second := atRecord .accounts 1 (shop (clockOn State.reset))
    let nameless := { rewrite with number := 0#16 }
    let strange := { rewrite with rows := [(8#8, 0#32)] }
    Takes s .office ∧ (s.port .office).cursor = some (.accounts, 0)
    ∧ (rewrite.number.toNat ≠ 0 ∧ rewrite.status ≠ none ∧ rewrite.rows.length ≤ 8 ∧ (rewrite.rows.map Prod.fst).Nodup
      ∧ ∀ r ∈ rewrite.rows, 1 ≤ r.1.toNat ∧ r.1.toNat ≤ 8 ∧ r.2.toNat ≤ 4000000000)
    ∧ (∀ r ∈ rewrite.rows, (Table.find s.allow.categories r.1.toNat).isSome = true)
    ∧ (∀ p ∈ s.allow.accounts, p.1 = 0) ∧ (∃ a, Table.find s.allow.accounts 0 = some a ∧ a.number = rewrite.number.toNat
      ∧ (∀ r ∈ a.rows, ∃ x ∈ rewrite.rows, x.1.toNat = r.category) ∧ (a.row 2).isSome = true ∧ a.row 3 = none)
    ∧ rewrite.status = some .active ∧ nameless.number.toNat = 0
    ∧ (∀ r ∈ strange.rows, 1 ≤ r.1.toNat ∧ r.1.toNat ≤ 8)
    ∧ (∃ r ∈ strange.rows, Table.find s.allow.categories r.1.toNat = none)
    ∧ Takes second .office ∧ (second.port .office).cursor = some (.accounts, 1)
    ∧ ∃ p ∈ second.allow.accounts, p.1 ≠ 1 ∧ p.2.number = rewrite.number.toNat :=
  ⟨takes_shop, rfl,
    ⟨by decide, by decide, by decide, List.nodup_singleton _, fun _ h => by cases List.mem_singleton.1 h; decide⟩,
    fun _ h => by cases List.mem_singleton.1 h; rfl, fun _ h => by cases List.mem_singleton.1 h; rfl,
    ⟨_, rfl, rfl, fun _ h => by cases List.mem_singleton.1 h; exact ⟨_, List.mem_singleton_self _, rfl⟩, rfl, rfl⟩, rfl, rfl,
    fun _ h => by cases List.mem_singleton.1 h; decide, ⟨_, List.mem_singleton_self _, rfl⟩, takes_shop, rfl, _,
    List.mem_singleton_self _, by decide, rfl⟩

theorem witness_AccountsDeletedAndCapsWritten :
    let s := shop (clockOn State.reset)
    let v := holdVisit (visitIn .announced) s
    Takes (atRecord .accounts 255 s) .office ∧ Table.find s.allow.accounts 255 = none
    ∧ (∃ a, Table.find s.allow.accounts 0 = some a ∧ ∀ p ∈ s.visits.records, p.2.account ≠ a.number)
    ∧ (∃ a, Table.find v.allow.accounts 0 = some a ∧ ∃ p ∈ v.visits.records, p.2.account = a.number)
    ∧ (let w := { rewrite with number := 65535#16 }
       (∀ p ∈ s.allow.accounts, p.2.number ≠ w.number.toNat) ∧ w.status = some .active ∧ accountLegal w = true
       ∧ ∀ r ∈ w.rows, (Table.find s.allow.categories r.1.toNat).isSome = true)
    ∧ Takes (atRecord .siteCaps 1 v) .office ∧ (4000000000#32).toNat ≤ 4000000000
    ∧ (Table.find v.allow.categories (1 + 1)).isSome = true
    ∧ 4000000000 < (4000000001#32).toNat ∧ Takes (atRecord .siteCaps 7 s) .office
    ∧ Table.find s.allow.categories (7 + 1) = none :=
  ⟨takes_shop, rfl, ⟨_, rfl, by decide⟩, ⟨_, rfl, by decide⟩,
    ⟨by decide, rfl, by decide, fun _ h => by cases List.mem_singleton.1 h; rfl⟩, takes_shop, by decide, by decide, by decide,
    takes_shop, by decide⟩

/-- The clauses on an emptied cap: not needed, held against, a delivery weighed in; and a cap write with and without a new
mark. -/
theorem witness_AccountsDeletedAndCapsWritten_caps :
    let s := shop (clockOn State.reset)
    let needed := fun u : State => (∃ a, Table.find u.allow.caps (1 + 1) = some a ∧ 0 < a.held)
      ∨ ∃ p ∈ u.visits.records, p.2.category = 1 + 1 ∧ p.2.kind = .delivery ∧ p.2.state ≠ .announced ∧ p.2.state ≠ .refused
    let held := { s with allow := { s.allow with caps := [(2, amounts 900000 0 1)] } }
    ¬ needed (holdVisit (visitIn .announced) s) ∧ needed held ∧ needed (holdVisit (visitIn .firstWeighed) s)
    ∧ Takes (atRecord .siteCaps 1 held) .office
    ∧ decide ((0 : Int) - 0 - 1 < 0) = true ∧ (amounts 900000 0 1).overrun = false
    ∧ decide ((1 : Int) - 0 - 1 < 0) = false := by
  refine ⟨?_, .inl ⟨_, rfl, by decide⟩, .inr ⟨_, List.mem_singleton_self _, by decide⟩, takes_shop, by decide⟩
  rintro (⟨a, ha, h⟩ | ⟨p, hp, -, -, h, -⟩)
  · cases ha; exact absurd h (by decide)
  · cases List.mem_singleton.1 hp; exact h rfl

def vehicleA : List Byte := 65#8 :: List.replicate 9 0#8

/-- The same tare at every index below `n`. -/
@[irreducible] def sameTares (e : TareEntry) (n : Nat) : Table TareEntry := (List.range n).map fun i => (i, e)

/-- The tare store with the same entry at every index. -/
def fullTares (e : TareEntry) (s : State) : State := { s with tares := { s.tares with entries := sameTares e 512 } }

theorem mem_sameTares (e : TareEntry) (n : Nat) (q : Nat × TareEntry) : q ∈ sameTares e n ↔ q.1 < n ∧ q.2 = e := by
  unfold sameTares
  constructor
  · intro h
    obtain ⟨i, hi, rfl⟩ := List.mem_map.1 h
    exact ⟨List.mem_range.1 hi, rfl⟩
  · rintro ⟨h, rfl⟩
    exact List.mem_map.2 ⟨q.1, List.mem_range.2 h, rfl⟩

theorem sameTares_entry (e : TareEntry) (n : Nat) (q : Nat × TareEntry) (h : q ∈ sameTares e n) : q.2 = e :=
  ((mem_sameTares e n q).1 h).2

theorem sameTares_rising (e : TareEntry) (n : Nat) : Table.rising (sameTares e n) = true := by
  rw [Table.rising_iff, sameTares]
  exact List.pairwise_map.2 List.pairwise_lt_range

theorem find_same (e : TareEntry) (l : List Nat) (i : Nat) (h : i ∈ l) :
    Table.find (l.map fun i => (i, e)) i = some e := by
  induction l with
  | nil => cases h
  | cons j l ih =>
    by_cases hj : j = i
    · simp [Table.find, hj]
    · simpa [Table.find, hj] using ih ((List.mem_cons.1 h).resolve_left (Ne.symm hj))

theorem sameTares_full (e : TareEntry) (n : Nat) : Table.lowestFree (sameTares e n) n = none :=
  List.find?_eq_none.2 fun i h => by rw [sameTares, find_same e _ i h]; simp

theorem lowestFree_zero (t : Table TareEntry) (h : Table.find t 0 = none) : Table.lowestFree t 512 = some 0 := by
  rw [Table.lowestFree, List.range_succ_eq_map, List.find?_cons, h]
  rfl

theorem sameTares_other (e : TareEntry) (n : Nat) (v : Text) (h : e.vehicle ≠ v) :
    (sameTares e n).find? (fun p => p.2.vehicle = v) = none :=
  List.find?_eq_none.2 fun q hq => by rw [sameTares_entry e n q hq]; simpa using h

theorem witness_ManualTaresAreStoredAndDeleted :
    let s := atRecord .tares 5 (stored (clockOn State.reset))
    let e := atRecord .tares 6 (stored (clockOn State.reset))
    Takes s .office ∧ (s.port .office).cursor = some (.tares, 5) ∧ vehicleOf vehicleA = some [65#8] ∧ 1 ≤ (1#32).toNat
    ∧ (150000#32).toNat ≤ 150000 ∧ (4#8).toNat ≤ 4 ∧ s.clock.isSet = true
    ∧ (∀ p ∈ s.tares.entries, p.2.vehicle = [65#8] → p.1 = 5) ∧ State.reset.clock.isSet = false
    ∧ Takes e .office ∧ ∃ p ∈ e.tares.entries, p.2.vehicle = [65#8] ∧ p.1 ≠ 6 :=
  ⟨⟨rfl, rfl, rfl, rfl⟩, rfl, by decide, by decide, by decide, by decide, rfl, by decide, rfl, ⟨rfl, rfl, rfl, rfl⟩, by decide⟩

/-- The clauses on lookup and keeping: the entry is 89 days old, then 90. -/
theorem witness_ManualTaresAreStoredAndDeleted_lookup :
    let on := fun day : Nat => { stored State.reset with clock := { State.reset.clock with day := day } }
    let kept : Visit := { visitIn .awaitingTicket with tareSource := .weighed, second := some (weighed 16000) }
    tareEntryOf (on 94) [65#8] = some (5, tareA) ∧ tareValid (on 94) tareA = true ∧ tareValid (on 95) tareA = false
    ∧ tareEntryOf (on 94) [66#8] = none
    ∧ (∃ a, findAccount (shop State.reset) kept.account = some a ∧ a.keepTares = true) ∧ kept.tareSource = .weighed
    ∧ kept.negativeNet = false ∧ (if kept.kind = VisitKind.delivery then kept.second else kept.first) = some (weighed 16000)
    ∧ (visitIn .awaitingTicket).tareSource ≠ .weighed :=
  ⟨rfl, by decide, by decide, rfl, ⟨_, rfl, rfl⟩, rfl, rfl, rfl, by decide⟩

/-- The five cases of placing a tare of vehicle B, the store full in the last two. -/
theorem witness_ManualTaresAreStoredAndDeleted_placing :
    let some' := stored State.reset
    let all := fullTares tareA State.reset
    let hand := fullTares { tareA with manual := true } State.reset
    Table.rising some'.tares.entries = true ∧ tareEntryOf some' [65#8] = some (5, tareA)
    ∧ tareEntryOf some' [66#8] = none ∧ Table.lowestFree some'.tares.entries 512 = some 0
    ∧ Table.rising all.tares.entries = true ∧ tareEntryOf all [66#8] = none
    ∧ Table.lowestFree all.tares.entries 512 = none ∧ (0, tareA) ∈ all.tares.entries ∧ tareA.manual = false
    ∧ (∀ q ∈ all.tares.entries, tareA.taken.day = q.2.taken.day ∧ tareA.taken.second = q.2.taken.second ∧ 0 ≤ q.1)
    ∧ tareEntryOf hand [66#8] = none ∧ Table.lowestFree hand.tares.entries 512 = none
    ∧ ∀ q ∈ hand.tares.entries, q.2.manual = true :=
  ⟨rfl, rfl, rfl, lowestFree_zero _ rfl, sameTares_rising _ 512, sameTares_other _ 512 _ (by decide), sameTares_full _ 512,
    (mem_sameTares _ 512 _).2 ⟨by decide, rfl⟩, rfl,
    fun q h => by rw [sameTares_entry _ 512 q h]; exact ⟨rfl, rfl, Nat.zero_le _⟩,
    sameTares_other _ 512 _ (by decide), sameTares_full _ 512, fun q h => by rw [sameTares_entry _ 512 q h]⟩

/-- Template 0 in use by one started job, its chain the one line 0. -/
def templateInUse (s : State) : State :=
  { s with templates := { templates := [(0, { name := [], head := 0 })], inUse := [(0, 1)], lines := [] } }

theorem witness_TemplatesAndLinesAreStored :
    let u := templateInUse State.reset
    Takes (atRecord .templates 0 State.reset) .office ∧ legalName [] = true ∧ (254#8).toNat ≤ 254
    ∧ inUseOf State.reset 0 = 0 ∧ Takes (atRecord .templates 0 u) .office ∧ 0 < inUseOf u 0
    ∧ Takes (atRecord .lines 0 u) .office ∧ (lineOf { next := 255#8, literal := [], refs := [] }).isSome = true
    ∧ lineInUse State.reset 95 = false ∧ lineInUse u 0 = true :=
  ⟨⟨rfl, rfl, rfl, rfl⟩, by decide, by decide, by decide, ⟨rfl, rfl, rfl, rfl⟩, by decide, ⟨rfl, rfl, rfl, rfl⟩, by decide,
    by decide, by decide⟩

theorem witness_RoutesAreStored :
    Takes (atRecord .routes 31 State.reset) .office
    ∧ ((atRecord .routes 31 State.reset).port .office).cursor = some (.routes, 31)
    ∧ legalEventIndex .deckOccupied (some 4#8) = true ∧ legalTaskIndex .outputPulse (8#8).toNat = true
    ∧ legalEventIndex .deckOccupied (some 5#8) = false ∧ legalTaskIndex .notice (5#8).toNat = false
    ∧ eventIndexOf 1#8 = some 1#8 ∧ eventIndexOf 8#8 = some 8#8 :=
  ⟨takes_reset _, rfl, by decide, by decide, by decide, by decide, eventIndexOf_index _ (by decide),
    eventIndexOf_index _ (by decide)⟩

theorem visitsOk_reset (s : State) (h : s.visits = State.reset.visits) : VisitsOk s := by
  unfold VisitsOk queueOf
  rw [h]
  refine ⟨rfl, fun _ hp => absurd hp List.not_mem_nil, List.nodup_nil, List.nodup_nil, fun l => ?_, fun l slot n => ?_, fun l slot => ?_⟩
  · cases l <;> exact List.nodup_nil
  · cases l <;> simp [State.reset, Four.all, Four.get]
  · cases l <;> cases slot <;> exact (by decide : 0 < 16)

theorem tablesOk_reset (s : State) (h : s = { State.reset with routes := s.routes })
    (hr : Table.rising s.routes.routes = true)
    (ho : Table.rising s.routes.outputs = true) (hi : Table.rising s.routes.inputs = true) : TablesOk s := by
  rw [h]
  refine ⟨rfl, rfl, rfl, rfl, rfl, rfl, rfl, rfl, rfl, rfl, hr, ho, hi, fun l => ?_⟩
  cases l <;> exact Nat.zero_le 2

/-- A route of DECK_OCCUPIED of an index to output 3. -/
def routeTo (enabled : Bool) (index : Option Nat) : Route :=
  { enabled := enabled, event := .deckOccupied, eventIndex := index, task := .outputSet, taskIndex := 3, outcome := .none }

def routed (s : State) : State :=
  { s with routes := { s.routes with
      routes := [(0, routeTo true none), (1, routeTo true (some 4)), (2, routeTo false none), (31, routeTo true (some 1))] } }

/-- The clauses on an event and on the tasks of outputs, lights and barriers. -/
theorem witness_RoutesAreStored_tasks :
    let s := routed State.reset
    TablesOk s ∧ Table.find s.routes.routes 0 = some (routeTo true none)
    ∧ Table.find s.routes.routes 31 = some (routeTo true (some 1))
    ∧ (routeTo true none).Matches .deckOccupied (some 4) ∧ (routeTo true (some 4)).Matches .deckOccupied (some 4)
    ∧ ¬ (routeTo false none).Matches .deckOccupied (some 4) ∧ ¬ (routeTo true (some 1)).Matches .deckOccupied (some 4)
    ∧ ((inMode .auto .idle State.reset).lane .i1).params.mode = .auto
    ∧ (State.reset.lane .i1).params.mode ≠ .auto ∧ (State.reset.lane .i1).params.mode ≠ .manual
    ∧ ((withBarrier .fault (inMode .manual .manual State.reset)).lane .i1).barrier.state = .fault
    ∧ ((inMode .manual .manual State.reset).lane .i1).params.mode = .manual
    ∧ ((inMode .manual .manual State.reset).lane .i1).barrier.state ≠ .fault :=
  ⟨tablesOk_reset _ rfl rfl rfl rfl, rfl, rfl, by decide, by decide, by decide, by decide, rfl, by decide, by decide, rfl,
    rfl, by decide⟩

/-- R157, R158: the event of deck 4 fires the first two of four routes and the outcomes of the others stay. -/
theorem test_event_fires_its_routes :
    let t := raiseEvent .deckOccupied (some 4) (routed State.reset)
    t.routes.routes.map (fun p => p.2.outcome) = [.taken, .taken, .none, .none] ∧ (t.output 3).on = true := by decide

/-- Lane 1 in MANUAL with the clock set, an account and a category. -/
def openYard : State := shop (clockOn (inMode .manual .manual State.reset))

theorem witness_AnnounceMakesAVisit :
    VisitsOk openYard ∧ Takes openYard (.lane .i1) ∧ laneBytePermitted (.lane .i1) 0#8 = true
    ∧ laneOf (.lane .i1) 0#8 = some .i1
    ∧ ∃ a, announcementOf vehicleA 3150#16 2#8 1#8 150000#32 = some a ∧ announceRefusal openYard .i1 a = none :=
  ⟨visitsOk_reset _ rfl, ⟨rfl, rfl, rfl, rfl⟩, by decide, rfl,
    { vehicle := [65#8], account := 3150, category := 2, kind := .delivery, payload := 150000 }, by decide, by decide⟩

/-- Four in the queue of lane 1. -/
def fullQueue (s : State) : State :=
  let q : LaneQueue := { members := [(.i1, 1), (.i2, 2), (.i3, 3), (.i4, 4)], generations := Four.all 0 }
  { s with visits := { s.visits with queues := s.visits.queues.put .i1 q } }

/-- The clauses on a refused ANNOUNCE, one for each result: a bad lane byte, a field out of range, a closed lane and an open
visit of the vehicle, an account and a category that are not there, and four in the queue. -/
theorem witness_AnnounceMakesAVisit_refused :
    let v := holdVisit (visitIn .announced) openYard
    let four := fullQueue openYard
    laneBytePermitted .office 5#8 = true ∧ laneOf .office 5#8 = none ∧ Takes openYard .office ∧ laneOf .office 4#8 = some .i4
    ∧ vehicleOf [97#8] = none ∧ vehicleOf vehicleA = some [65#8] ∧ 150000 < (150001#32).toNat
    ∧ (openYard.lane .i2).params.mode = .closed ∧ laneOf .office 2#8 = some .i2
    ∧ (∃ q ∈ v.visits.records, q.2.vehicle = [65#8])
    ∧ (openYard.lane .i1).params.mode ≠ .closed ∧ (openYard.lane .i1).params.direction ≠ .outbound
    ∧ openYard.clock.isSet = true ∧ openYard.visits.records = []
    ∧ (∀ q ∈ openYard.allow.accounts, q.2.number ≠ (3151#16).toNat)
    ∧ (∃ q ∈ openYard.allow.accounts, q.2.number = (3150#16).toNat)
    ∧ Table.find openYard.allow.categories (8#8).toNat = none ∧ Table.find openYard.allow.categories (2#8).toNat ≠ none
    ∧ 4 ≤ (queueOf four .i1).length ∧ four.visits.records = [] ∧ Takes four .office :=
  ⟨rfl, rfl, ⟨rfl, rfl, rfl, rfl⟩, rfl, by decide, by decide, by decide, rfl, rfl, ⟨_, List.mem_singleton_self _, rfl⟩,
    by decide, by decide, rfl, rfl, by decide, ⟨_, List.mem_singleton_self _, rfl⟩, by decide, by decide, by decide, rfl,
    ⟨rfl, rfl, rfl, rfl⟩⟩

/-- Visit 7 on site. -/
def onSite : Visit := { visitIn .firstWeighed with place := none }

theorem visitsOk_onSite (s : State) (h : s.visits = (holdVisit onSite State.reset).visits) : VisitsOk s := by
  unfold VisitsOk queueOf
  rw [h]
  refine ⟨rfl, fun p hp => ?_, List.nodup_singleton _, List.nodup_singleton _, fun l => ?_, fun l slot n => ?_,
    fun l slot => ?_⟩
  · cases List.mem_singleton.1 hp; exact (by decide : 0 < 64)
  · cases l <;> exact List.nodup_nil
  · cases l <;> simp [holdVisit, onSite, visitIn, State.reset, Four.all, Four.get, Four.put]
  · cases l <;> cases slot <;> first | exact (by decide : 3 < 16) | exact (by decide : 0 < 16)

theorem witness_AttachQueuesAVisitForItsExit :
    let s := holdVisit onSite openYard
    VisitsOk s ∧ Takes s .office ∧ laneBytePermitted .office 1#8 = true ∧ laneOf .office 1#8 = some .i1
    ∧ vehicleOf vehicleA = some [65#8] ∧ (s.lane .i1).params.mode ≠ .closed ∧ (s.lane .i1).params.direction ≠ .inbound
    ∧ findVehicle s [65#8] = some onSite ∧ (onSite.state = .firstWeighed ∨ onSite.state = .ticketedOnSite)
    ∧ onSite.place = none ∧ (queueOf s .i1).length < 4 :=
  ⟨visitsOk_onSite _ rfl, ⟨rfl, rfl, rfl, rfl⟩, rfl, rfl, by decide, by decide, by decide, by decide, .inl rfl, rfl, by decide⟩

/-- The clauses on a refused ATTACH: a bad lane byte and vehicle, a closed lane, no open visit, a visit that cannot attach,
and four in the queue. -/
theorem witness_AttachQueuesAVisitForItsExit_refused :
    let s := holdVisit onSite openYard
    let u := holdVisit (visitIn .announced) openYard
    let four := fullQueue s
    laneOf .office 0#8 = none ∧ laneBytePermitted .office 0#8 = true ∧ vehicleOf [65#8, 0#8, 65#8] = none
    ∧ (s.lane .i2).params.mode = .closed ∧ (∀ q ∈ openYard.visits.records, q.2.vehicle ≠ [65#8]) ∧ Takes openYard .office
    ∧ findVehicle u [65#8] = some (visitIn .announced) ∧ Takes u .office
    ∧ ((visitIn .announced).state ≠ .firstWeighed ∧ (visitIn .announced).state ≠ .ticketedOnSite)
    ∧ findVehicle four [65#8] = some onSite ∧ 4 ≤ (queueOf four .i1).length ∧ Takes four .office
    ∧ (four.lane .i1).params.mode ≠ .closed ∧ (four.lane .i1).params.direction ≠ .inbound :=
  ⟨rfl, rfl, by decide, rfl, fun _ h => absurd h List.not_mem_nil, ⟨rfl, rfl, rfl, rfl⟩, rfl, ⟨rfl, rfl, rfl, rfl⟩, by decide,
    rfl, by decide, ⟨rfl, rfl, rfl, rfl⟩, by decide, by decide⟩

theorem witness_ReleaseTakesAVisitOffItsLane :
    let s := holdVisit (visitIn .attached) State.reset
    VisitsOk s ∧ Takes s (.lane .i1) ∧ laneBytePermitted (.lane .i1) 1#8 = true ∧ laneOf (.lane .i1) 1#8 = some .i1
    ∧ visitOf s (.lane .i1) .i1 0x0103#16 = .ok 7 ∧ findVisit s 7 = some (visitIn .attached)
    ∧ (visitIn .attached).place = some { lane := .i1, slot := .i1, pass := .entry }
    ∧ (visitIn .attached).state ≠ .awaitingTicket ∧ (visitIn .attached).state ≠ .disputed
    ∧ (visitIn .attached).state ≠ .ticketed
    ∧ VisitsOk (holdVisit (visitIn .disputed) State.reset)
    ∧ visitOf (holdVisit (visitIn .disputed) State.reset) .office .i1 7#16 = .ok 7 :=
  ⟨visitsOk_held _ _ rfl, takes_reset _, by decide, rfl, rfl, rfl, rfl, by decide, by decide, by decide,
    visitsOk_held _ _ rfl, rfl⟩

/-- Visit 7 announced at lane 1 in MANUAL, deck 1 active and calibrated. -/
def capturing : State :=
  let s := holdVisit (visitIn .announced) (activeDeck 3000 openYard)
  { s with cal := { s.cal with stored := Four.all shortRecord } }

/-- Visit 7's capture in flight at the head of lane 1. -/
def inFlight : State := capturing.modDeck .i1 fun u => { u with capture := some { visit := 7, deadline := 9 } }

/-- The clauses on a capture that ends as its head leaves, in a lane that tries no other head and in one that does. -/
theorem witness_ReleaseTakesAVisitOffItsLane_capture :
    let tries := fun s : State => (s.lane .i1).params.mode = .auto ∧ ((s.lane .i1).params.autoCapture = true
      ∨ ∃ q ∈ s.routes.routes, q.2.enabled = true ∧ q.2.task = .startCapture ∧ q.2.taskIndex = Idx.i1.num)
    let auto := (inMode .auto .capturing inFlight).modParams .i1 fun x => { x with autoCapture := true }
    VisitsOk inFlight ∧ Takes inFlight .office ∧ visitOf inFlight .office .i1 7#16 = .ok 7
    ∧ findVisit inFlight 7 = some (visitIn .announced) ∧ isHead inFlight .i1 7 = true ∧ (inFlight.deck .i1).capture ≠ none
    ∧ ¬ tries inFlight ∧ VisitsOk auto ∧ Takes auto .office ∧ isHead auto .i1 7 = true ∧ (auto.deck .i1).capture ≠ none
    ∧ tries auto :=
  ⟨visitsOk_held .announced _ rfl, ⟨rfl, rfl, rfl, rfl⟩, rfl, rfl, by decide, by decide, fun h => absurd h.1 (by decide),
    visitsOk_held .announced _ rfl, ⟨rfl, rfl, rfl, rfl⟩, by decide, by decide, rfl, .inl rfl⟩

/-- R22, R51: RELEASE of a head with its capture in flight ends it, FAILED with ABANDONED; R62: VOID VISIT, with GONE. -/
theorem test_capture_ends_with_its_head :
    (match exec (.release .office 1#8 7#16) inFlight, exec (.voidVisit .office 7#16) inFlight with
      | .next t, .next u => decide ((t.deck .i1).capture = none ∧ (t.lane .i1).report.lastCapture = .failed .abandoned
          ∧ (u.deck .i1).capture = none ∧ (u.lane .i1).report.lastCapture = .failed .gone)
      | _, _ => false) = true := by decide

/-- The clauses on START_CAPTURE: a lane in MANUAL, and the head tested by a deck that refuses and one that takes it. -/
theorem witness_RoutesAreStored_capture :
    let tested := fun (s : State) n => (s.lane .i1).params.mode = .auto ∧ (s.lane .i1).seqr.state = .occupied
      ∧ isHead s .i1 n = true ∧ ((s.lane .i1).seqr.head = some (n, .announced) ∨ (s.lane .i1).seqr.head = some (n, .attached))
    let unready := fun s : State => (s.deck .i1).capture.isSome = true ∨ (s.deck .i1).phase = .fault
      ∨ (s.deck .i1).phase = .calibrating ∨ s.cal.stored.get .i1 = CalRecord.coldDefault
    let auto := inMode .auto .occupied capturing
    let cold := auto.modDeck .i1 fun u => { u with phase := .fault }
    let heavy := auto.modDeck .i1 fun u => { u with overload := true }
    (∀ n, ¬ tested capturing n) ∧ tested auto 7 ∧ ¬ unready auto ∧ (auto.deck .i1).overload = false
    ∧ (auto.deck .i1).underload = false ∧ tested cold 7 ∧ unready cold ∧ tested heavy 7 ∧ ¬ unready heavy
    ∧ (heavy.deck .i1).overload = true :=
  ⟨fun _ h => absurd h.1 (by decide), by decide, by decide, rfl, rfl, by decide, by decide, by decide, by decide, rfl⟩

theorem witness_CaptureStartsACapture :
    let busy := capturing.modDeck .i1 fun u => { u with capture := some { visit := 7, deadline := 9 } }
    let heavy := capturing.modDeck .i1 fun u => { u with overload := true }
    let auto := inMode .auto .occupied capturing
    let shut := inMode .closed .closed capturing
    Takes capturing (.lane .i1) ∧ laneBytePermitted (.lane .i1) 1#8 = true ∧ laneOf (.lane .i1) 1#8 = some .i1
    ∧ visitOf capturing (.lane .i1) .i1 0x0103#16 = .ok 7 ∧ isHead capturing .i1 7 = true ∧ capturable capturing 7 = true
    ∧ (capturing.lane .i1).params.mode = .manual ∧ (capturing.deck .i1).capture.isSome = false
    ∧ (capturing.deck .i1).phase = .active ∧ capturing.cal.stored.get .i1 ≠ CalRecord.coldDefault
    ∧ (capturing.deck .i1).overload = false ∧ (capturing.deck .i1).underload = false
    ∧ (auto.lane .i1).params.mode = .auto ∧ (auto.lane .i1).seqr.state = .occupied
    ∧ (shut.lane .i1).params.mode = .closed ∧ (busy.deck .i1).capture.isSome = true ∧ (heavy.deck .i1).overload = true :=
  ⟨⟨rfl, rfl, rfl, rfl⟩, by decide, rfl, rfl, by decide, by decide, rfl, rfl, rfl, by decide, rfl, rfl, rfl, rfl, rfl, rfl, rfl⟩

theorem witness_ManualCommandsMoveTheArm :
    let manual := inMode .manual .manual State.reset
    Takes State.reset (.lane .i1) ∧ laneBytePermitted (.lane .i1) 0#8 = true ∧ laneOf (.lane .i1) 0#8 = some .i1
    ∧ (State.reset.lane .i1).params.mode ≠ .manual ∧ Takes (withBarrier .fault manual) (.lane .i1)
    ∧ ((withBarrier .fault manual).lane .i1).params.mode = .manual
    ∧ ((withBarrier .fault manual).lane .i1).barrier.state = .fault ∧ (manual.lane .i1).barrier.state ≠ .fault :=
  ⟨takes_reset _, by decide, rfl, by decide, ⟨rfl, rfl, rfl, rfl⟩, rfl, rfl, by decide⟩

theorem witness_ReprintsAndAbortsReachThePrinter :
    let s := ticketed State.reset
    let p := printing .paused [65#8] s
    let two := s.modPrinter .i1 fun e => { e with jobs := [job (some walked), job none] }
    let gone := State.reset.modReport .i1 fun r => { r with lastTicket := some 8 }
    Takes s .office ∧ laneBytePermitted .office 1#8 = true ∧ laneOf .office 1#8 = some .i1
    ∧ (State.reset.lane .i1).report.lastTicket = none
    ∧ (gone.lane .i1).report.lastTicket = some 8 ∧ retainedTicket gone.journal 8 = none
    ∧ (s.lane .i1).report.lastTicket = some 9 ∧ retainedTicket s.journal 9 = some ticket9
    ∧ 2 ≤ (two.lane .i1).printer.jobs.length ∧ (s.lane .i1).printer.jobs.length < 2
    ∧ (p.lane .i1).printer.jobs = [job (some walked)] ∧ (s.lane .i1).printer.jobs = []
    ∧ Idx.ofNat? (5#8).toNat = none ∧ Idx.ofNat? (1#8).toNat = some .i1
    ∧ retainedTicket s.journal (9#32).toNat = some ticket9 ∧ retainedTicket s.journal (8#32).toNat = none :=
  ⟨⟨rfl, rfl, rfl, rfl⟩, rfl, rfl, rfl, rfl, rfl, rfl, rfl, by decide, by decide, rfl, rfl, rfl, rfl, rfl, rfl⟩

/-- A line whose one reference is a category name. -/
def categoryLine : LineRecord := { next := none, literal := [], refs := [{ kind := .category, column := 0 }] }

/-- The clauses on a job that joins and on the engine, at the last position, the 24th line and the last room of the FIFO. -/
theorem witness_ReprintsAndAbortsReachThePrinter_engine :
    let p := printing .paused [65#8] State.reset
    let inked := (templateInUse State.reset).modPrinter .i1 fun e => { e with paperOut := false }
    let at' := fun (pos n k : Nat) => State.reset.modPrinter .i1 fun e =>
      { e with state := .printing, fifo := List.replicate k 65#8,
               jobs := [job (some { template := 0, position := pos, rendered := n, finished := false })] }
    (job none).walk = none ∧ (p.lane .i1).printer.jobs = [job (some walked)] ∧ (p.lane .i1).printer.state ≠ .printing
    ∧ (State.reset.lane .i1).printer.jobs = []
    ∧ Table.find State.reset.templates.templates (State.reset.lane .i1).printer.deliveryTemplate = none
    ∧ (inked.lane .i1).printer.jobs = [] ∧ (inked.lane .i1).printer.paperOut = false
    ∧ (∃ t, Table.find inked.templates.templates (inked.lane .i1).printer.deliveryTemplate = some t)
    ∧ ((templateInUse State.reset).lane .i1).printer.paperOut = true
    ∧ 512 < ((at' 0 0 472).lane .i1).printer.fifo.length + 41 ∧ ((at' 95 23 471).lane .i1).printer.fifo.length + 41 ≤ 512
    ∧ ((at' 95 23 471).lane .i1).printer.state = .printing
    ∧ (engineMove .i1 State.reset = none ∧ ∃ u, engineMove .i1 (at' 95 24 0) = some u)
    ∧ renderLine State.reset (job none) categoryLine = none
    ∧ (∃ b, renderLine State.reset (job none) LineRecord.cold = some b)
    ∧ (LineRecord.cold.refs = [] ∧ LineRecord.cold.literal.length ≤ 40) ∧ (List.replicate 40 32#8).length = 40
    ∧ 10 ^ 40 - 1 < 10 ^ 40 :=
  ⟨rfl, rfl, by decide, rfl, rfl, rfl, rfl, ⟨_, rfl⟩, rfl,
    by show 512 < (List.replicate 472 65#8).length + 41; rw [List.length_replicate]; decide,
    by show (List.replicate 471 65#8).length + 41 ≤ 512; rw [List.length_replicate], rfl, ⟨rfl, _, rfl⟩, by decide, ⟨_, rfl⟩,
    by decide, rfl, by decide⟩

/-- A line of two fields. -/
def twoFields : LineRecord :=
  { next := none, literal := [], refs := [{ kind := .vehicle, column := 0 }, { kind := .copyMark, column := 39 }] }

/-- The clauses on a line with fields and on the field kinds: a delivery with one stored tare, a collection with two weights. -/
theorem witness_ReprintsAndAbortsReachThePrinter_fields :
    let out : TicketRecord := { ticket9 with kind := .collection, second := some (weighed 0), tareSource := .weighed }
    twoFields.refs.map (fun f => renderField State.reset (job none) f.kind) = [[65#8], []].map some
    ∧ (ticket9.kind = .delivery ∧ ticket9.second = none ∧ ticket9.manualTare = false ∧ ticket9.tareSource = .stored)
    ∧ (out.kind = .collection ∧ out.second = some (weighed 0) ∧ out.manualTare = false ∧ out.tareSource = .weighed)
    ∧ { out with manualTare := true }.manualTare = true ∧ ticket9.issued.second ≤ 86399
    ∧ ticket9.first.time.second ≤ 86399 ∧ (weighed 0).time.second ≤ 86399 :=
  ⟨rfl, ⟨rfl, rfl, rfl, rfl⟩, ⟨rfl, rfl, rfl, rfl⟩, rfl, by decide, by decide, by decide⟩

/-- R148, R147: two fields stand over the blank line, the second cut at column 39, and a negative weight has its sign. -/
theorem test_line_of_fields :
    renderLine State.reset { job none with copy := true } twoFields = some (65#8 :: List.replicate 38 32#8 ++ [67#8, 10#8])
    ∧ renderField State.reset { job none with ticket := { ticket9 with net := -20 } } .net =
      some [45#8, 50#8, 48#8, 32#8, 107#8, 103#8] := ⟨rfl, rfl⟩

theorem witness_ZeroDeckTakesTheFineWeight :
    let limit := activeDeck 24000 State.reset
    let beyond := activeDeck 24001 State.reset
    let moving := limit.modDeck .i1 fun u => { u with stable := false }
    let open' := session shortRecord 120000 State.reset
    Takes limit (.lane .i1) ∧ deckBytePermitted (.lane .i1) 1#8 = true ∧ Idx.ofNat? (1#8).toNat = some .i1
    ∧ ((trackStep .i1 limit).deck .i1).phase = .active ∧ ((trackStep .i1 limit).deck .i1).capture = none
    ∧ ((trackStep .i1 limit).deck .i1).stable = true
    ∧ 25 * ((trackStep .i1 limit).deck .i1).fine.natAbs ≤ 10 * (limit.cal.stored.get .i1).max
    ∧ 10 * (beyond.cal.stored.get .i1).max < 25 * ((trackStep .i1 beyond).deck .i1).fine.natAbs
    ∧ ((trackStep .i1 moving).deck .i1).stable = false ∧ ((trackStep .i1 open').deck .i1).phase = .calibrating :=
  ⟨takes_reset _, by decide, rfl, rfl, rfl, rfl, by decide, by decide, rfl, rfl⟩

theorem witness_VoidLeavesAVoidRecordAndNoVisit :
    let s := holdVisit (visitIn .disputed) State.reset
    let w := holdVisit (visitIn .awaitingTicket) State.reset
    VisitsOk s ∧ Takes s .office ∧ findVisit s (7#16).toNat = some (visitIn .disputed) ∧ ticketRoom s.journal = true
    ∧ VisitsOk w ∧ findVisit w (7#16).toNat = some (visitIn .awaitingTicket)
    ∧ ticketRoom (fullJournal s).journal = false ∧ VisitsOk (fullJournal s)
    ∧ findVisit inFlight (7#16).toNat = some (visitIn .announced) ∧ ticketRoom inFlight.journal = true
    ∧ (visitIn .announced).place = some { lane := .i1, slot := .i1, pass := .entry } ∧ isHead inFlight .i1 7 = true
    ∧ (inFlight.deck .i1).capture ≠ none :=
  ⟨visitsOk_held _ _ rfl, takes_reset _, rfl, by decide, visitsOk_held _ _ rfl, rfl, by decide, visitsOk_held _ _ rfl, rfl,
    by decide, rfl, by decide, by decide⟩

theorem witness_ResolveSettlesADispute :
    let s := holdVisit (visitIn .disputed) State.reset
    Takes s .office ∧ (0#8).toNat ≠ 1 ∧ (0#8).toNat ≠ 2 ∧ (3#8).toNat ≠ 1 ∧ (3#8).toNat ≠ 2
    ∧ findVisit s (7#16).toNat = some (visitIn .disputed) ∧ (visitIn .disputed).state = .disputed
    ∧ (1#8).toNat = 1 ∧ (2#8).toNat = 2 ∧ (visitIn .announced).state ≠ .disputed
    ∧ findVisit (holdVisit (visitIn .announced) State.reset) (7#16).toNat = some (visitIn .announced)
    ∧ ∃ t, exec (.voidVisit .office 7#16) s = .next t :=
  ⟨takes_reset _, by decide, by decide, by decide, by decide, rfl, rfl, rfl, rfl, by decide, rfl, _, rfl⟩

def waits (s : State) (r : Option RestartInfo) (d : Option Nat) : State :=
  { s with tickets := { s.tickets with pendingRestart := r, pendingRollover := d } }

theorem witness_ArchiveMovesTheMarkAndDrains :
    let marked := { State.reset with journal := { State.reset.journal with last := 2, mark := 1 } }
    let full := { State.reset with journal := { State.reset.journal with last := 1024 } }
    Takes State.reset .office ∧ (0#32).toNat < marked.journal.mark ∧ marked.journal.last < (3#32).toNat
    ∧ State.reset.journal.mark ≤ (0#32).toNat ∧ (1#32).toNat ≤ State.reset.journal.last
    ∧ State.reset.tickets.pendingRestart = none ∧ State.reset.tickets.pendingRollover = none
    ∧ State.reset.tickets.queue = []
    ∧ (waits full (some RestartInfo.firstCold) none).tickets.pendingRestart = some RestartInfo.firstCold
    ∧ systemRoom (waits full (some RestartInfo.firstCold) none).journal = false
    ∧ systemRoom (waits State.reset (some RestartInfo.firstCold) none).journal = true
    ∧ (waits full none (some 6)).tickets.pendingRestart = none
    ∧ (waits full none (some 6)).tickets.pendingRollover = some 6 ∧ systemRoom (waits full none (some 6)).journal = false
    ∧ systemRoom (waits State.reset none (some 6)).journal = true :=
  ⟨takes_reset _, by decide, by decide, by decide, by decide, rfl, rfl, rfl, rfl, by decide, by decide, rfl, rfl, by decide,
    by decide⟩

/-- The clauses on the try: a head that passes, one that waits for a floor write in flight, and one that asks for it. -/
theorem witness_ArchiveMovesTheMarkAndDrains_try :
    let last := { issuing with tickets := { issuing.tickets with floor := issuing.tickets.next } }
    let asked := { last with tickets := { last.tickets with floorWrite := some { value := 48470, retry := false } } }
    issuing.tickets.queue ≠ [] ∧ issueObstacle issuing ≠ .floorWrite ∧ asked.tickets.queue ≠ []
    ∧ issueObstacle asked = .floorWrite ∧ asked.tickets.floorWrite ≠ none ∧ last.tickets.queue ≠ []
    ∧ issueObstacle last = .floorWrite ∧ last.tickets.floorWrite = none :=
  ⟨by decide, by decide, by decide, by decide, by decide, by decide, by decide, rfl⟩

/-- The clauses of FirstFailing, the conditions of R126 failing one after the other from the last, with those after it. -/
theorem witness_FirstFailing :
    let below := { issuing with tickets := { issuing.tickets with floor := issuing.tickets.next } }
    let left := { issuing with tickets := { issuing.tickets with next := 4294967295, floor := 4294967295 } }
    let written := { left with tickets := { left.tickets with floorWrite := some { value := 48470, retry := false } } }
    let stored := { written with nv := { written.nv with storeFault := true } }
    let numbered := { stored with cal := { stored.cal with site := none } }
    let room := fullJournal numbered
    issueObstacle (waits room (some RestartInfo.firstCold) none) = .systemRecord
    ∧ issueObstacle (waits room none (some 6)) = .systemRecord ∧ issueObstacle room = .journal
    ∧ issueObstacle numbered = .siteNumber ∧ issueObstacle stored = .storeFault ∧ issueObstacle written = .floorWrite
    ∧ issueObstacle left = .numberingEnded ∧ issueObstacle below = .floorWrite ∧ issueObstacle issuing = .none := by decide

/-- The clock at a second, its rollover at another. -/
def clockAt (sec roll : Nat) : State :=
  { State.reset with clock := { State.reset.clock with isSet := true, second := sec, rolloverTime := roll } }

theorem witness_ClockIsSetAndAdvances :
    let held := holdVisit onSite State.reset
    let due := { held with clock := { held.clock with mono := 14400 } }
    Takes State.reset .office ∧ (86399#24).toNat ≤ 86399 ∧ 86399 < (86400#24).toNat ∧ (dark State.reset).power = false
    ∧ State.reset.power = true ∧ State.reset.clock.isSet = false ∧ State.reset.clock.absorbs = false
    ∧ (∃ t, exec (.setClock .office 5#16 100#24) (queued .clockAdvance State.reset) = .next t ∧ t.clock.absorbs = true)
    ∧ (clockAt 59 0).clock.isSet = true ∧ (59 + 1) % 60 = 0 ∧ 60 ≠ (clockAt 59 0).clock.rolloverTime
    ∧ (clockAt 86399 0).clock.rolloverTime = 0 ∧ ((clockAt 60 0).clock.second + 1) % 60 ≠ 0
    ∧ 61 ≠ (clockAt 60 0).clock.rolloverTime ∧ findVisit held (7#16).toNat = some onSite
    ∧ { due with clock := { due.clock with mono := 14399 } }.clock.mono < onSite.announceSecond + 60 * due.visits.overstayLimit
    ∧ findVisit due (7#16).toNat = some onSite ∧ onSite.overstayNoticed = false
    ∧ onSite.announceSecond + 60 * due.visits.overstayLimit ≤ due.clock.mono
    ∧ ∃ v, findVisit (holdVisit { onSite with overstayNoticed := true } State.reset) 7 = some v ∧ v.overstayNoticed = true :=
  ⟨takes_reset _, by decide, by decide, rfl, rfl, rfl, rfl, ⟨_, rfl, rfl⟩, rfl, rfl, by decide, rfl, by decide, by decide, rfl,
    by decide, rfl, rfl, by decide, _, rfl, rfl⟩

theorem witness_RolloverBeginsANewYardDay :
    let full := { State.reset with journal := { State.reset.journal with last := 1024 } }
    Takes State.reset .office ∧ (waits State.reset none (some 65535)).tickets.pendingRollover = some 65535
    ∧ State.reset.tickets.pendingRollover = none ∧ systemRoom State.reset.journal = true
    ∧ Takes full .office ∧ full.tickets.pendingRollover = none ∧ systemRoom full.journal = false
    ∧ systemRoom { State.reset.journal with last := 1023 } = true :=
  ⟨takes_reset _, rfl, rfl, by decide, ⟨rfl, rfl, rfl, rfl⟩, rfl, by decide, by decide⟩

theorem witness_OutputsAreDrivenAndInputsTaken :
    let pulsing := outputPulse 8 State.reset
    Takes State.reset .office ∧ (0#8).toNat < 1 ∧ 8 < (9#8).toNat ∧ 1 ≤ (1#8).toNat ∧ (8#8).toNat ≤ 8
    ∧ (1#8).toNat = 1 ∧ (2#8).toNat = 2 ∧ (3#8).toNat = 3 ∧ (0#8).toNat = 0 ∧ 3 < (4#8).toNat
    ∧ State.reset.power = true ∧ (State.reset.output 1).pulseTimer.deadline = none
    ∧ (State.reset.output 1).pulseTimer.late = 0
    ∧ Takes { pulsing with pending := [.outputPulseExpiry 8] } .office
    ∧ (pulsing.output 8).pulseTimer.deadline ≠ none ∧ (pulsing.output 8).pulseTimer.late = 0
    ∧ State.reset.input 8 = false ∧ State.reset.input 8 ≠ true :=
  ⟨takes_reset _, by decide, by decide, by decide, by decide, rfl, rfl, rfl, rfl, by decide, rfl, rfl, rfl,
    ⟨rfl, rfl, rfl, rfl⟩, by decide, by decide, rfl, by decide⟩

/-- The clauses on late expiries of OutputsAreDrivenAndInputsTaken, DeckFaultsAndTimeouts, LaneInputsAndTimersAreTaken and
PrinterEventsMoveTheJob: one of each of the seven timers. -/
theorem witness_lateExpiries :
    let late : Timer := { deadline := none, late := 1 }
    let s := (((State.reset.modOutput 8 fun o => { o with pulseTimer := late }).modDeck .i1 fun u =>
        { u with linkTimer := late, captureLate := 1 }).modBarrier .i1 fun b => { b with travelTimer := late }).modSeq .i1 fun q =>
          { q with passTimer := late, unannouncedLate := 1 }
    let e := s.modPrinter .i1 fun e => { e with pauseTimer := late }
    e.power = true ∧ 0 < (e.output 8).pulseTimer.late ∧ 0 < (e.deck .i1).linkTimer.late ∧ 0 < (e.deck .i1).captureLate
    ∧ 0 < (e.lane .i1).barrier.travelTimer.late ∧ 0 < (e.lane .i1).seqr.passTimer.late
    ∧ 0 < (e.lane .i1).seqr.unannouncedLate ∧ 0 < (e.lane .i1).printer.pauseTimer.late :=
  ⟨rfl, by decide, by decide, by decide, by decide, by decide, by decide, by decide⟩

theorem witness_LanesRestartAndFaultsClear :
    let stuck := withBarrier .fault State.reset
    let both := stuck.modBarrier .i1 fun b => { b with limitUp := true }
    TablesOk State.reset ∧ Takes State.reset .office ∧ Idx.ofNat? (1#8).toNat = some .i1
    ∧ (State.reset.lane .i1).barrier.state ≠ .fault ∧ (both.lane .i1).barrier.limitUp = true
    ∧ (both.lane .i1).barrier.limitDown = true ∧ (stuck.lane .i1).barrier.state = .fault
    ∧ ¬ ((stuck.lane .i1).barrier.limitUp = true ∧ (stuck.lane .i1).barrier.limitDown = true)
    ∧ ((inMode .manual .manual stuck).lane .i1).params.mode = .manual
    ∧ ((inMode .auto .held stuck).lane .i1).params.mode = .auto ∧ (stuck.lane .i1).params.mode = .closed
    ∧ (State.reset.lane .i4).params.mode ≠ .auto ∧ ((inMode .manual .manual State.reset).lane .i1).params.mode = .manual := by
  refine ⟨?_, takes_reset _, rfl, by decide, rfl, rfl, rfl, by decide, rfl, rfl, rfl, by decide, rfl⟩
  unfold TablesOk
  refine ⟨rfl, rfl, rfl, rfl, rfl, rfl, rfl, rfl, rfl, rfl, rfl, rfl, rfl, fun l => ?_⟩
  cases l <;> decide

theorem witness_SettlingTakesTheFirstCase :
    let cleared := (holdVisit (visitIn .firstWeighed) State.reset).modSeq .i1 fun q => { q with occupied := true }
    ((withBarrier .fault State.reset).lane .i1).barrier.state = .fault ∧ (State.reset.lane .i1).barrier.state = .down
    ∧ headClass (holdVisit (visitIn .refused) State.reset) .i1 = .holding
    ∧ (State.reset.modSensors .i1 fun x => { x with loopOccupied := false }).lanes.one.sensors.loopOccupied = false
    ∧ headClass cleared .i1 = .cleared ∧ (cleared.lane .i1).seqr.occupied = true
    ∧ ((withBarrier .up cleared).lane .i1).barrier.state = .up ∧ headClass (withBarrier .up cleared) .i1 = .cleared
    ∧ headClass State.reset .i1 = .none ∧ ((withBarrier .up State.reset).lane .i1).barrier.state ≠ .down
    ∧ (State.reset.lane .i1).seqr.occupied = false ∧ (State.reset.lane .i1).params.autoCapture = false :=
  ⟨rfl, rfl, rfl, rfl, rfl, rfl, rfl, rfl, rfl, by decide, rfl, rfl⟩

/-- The clauses on a passage: AUTO with the released visit the head, or another, and HELD in a FAULT, and MANUAL. -/
theorem witness_SettlingTakesTheFirstCase_passage :
    let armed := fun (m : LaneMode) (st : SeqState) (r : Option Nat) =>
      (inMode m st (holdVisit (visitIn .firstWeighed) State.reset)).modSeq .i1 fun q =>
        { q with passageArmed := true, released := r }
    let auto := armed .auto .passing (some 7)
    VisitsOk auto ∧ auto.power = true ∧ (auto.lane .i1).seqr.passageArmed = true
    ∧ (auto.lane .i1).sensors.loopOccupied = true ∧ (auto.lane .i1).seqr.occupied = false
    ∧ (auto.lane .i1).params.mode = .auto ∧ (auto.lane .i1).seqr.state = .passing
    ∧ (auto.lane .i1).seqr.released = some 7 ∧ (auto.lane .i1).seqr.head.map Prod.fst = some 7
    ∧ (armed .auto .passing (some 6)).lanes.one.seqr.head.map Prod.fst ≠ (armed .auto .passing (some 6)).lanes.one.seqr.released
    ∧ ((withBarrier .fault (armed .auto .held (some 7))).lane .i1).seqr.state = .held
    ∧ ((withBarrier .fault (armed .auto .held (some 7))).lane .i1).barrier.state = .fault
    ∧ ((armed .manual .manual none).lane .i1).params.mode = .manual :=
  ⟨visitsOk_held .firstWeighed _ rfl, rfl, rfl, rfl, rfl, rfl, rfl, rfl, rfl, by decide, rfl, rfl, rfl⟩

/-- The clauses on a passage that a sample completes by clearing the deck, in AUTO and MANUAL, and on its arming by the loop. -/
theorem witness_SettlingTakesTheFirstCase_cleared :
    let armed := fun (m : LaneMode) (st : SeqState) =>
      (((inMode m st (holdVisit (visitIn .firstWeighed) State.reset)).modSeq .i1 fun q =>
        { q with passageArmed := true, released := some 7 }).modSensors .i1 fun x =>
          { x with loopOccupied := false }).modDeck .i1 fun u =>
            { u with phase := .active, window := List.replicate 16 0, history := List.replicate 10 0, occupied := true }
    let s := armed .auto .passing
    let up := fun (m : LaneMode) (st : SeqState) (b : BarrierState) =>
      withBarrier b ((inMode m st State.reset).modSensors .i1 fun x => { x with loopOccupied := false })
    VisitsOk s ∧ s.power = true ∧ (s.lane .i1).seqr.passageArmed = true ∧ (s.lane .i1).sensors.loopOccupied = false
    ∧ (s.deck .i1).occupied = true
    ∧ (eightStages (recordInUse s .i1) (0#24).toInt ((linkRecover .i1 (trackStep .i1 s)).deck .i1)).occupied = false
    ∧ (s.lane .i1).params.mode = .auto ∧ (s.lane .i1).seqr.state = .passing
    ∧ ((armed .manual .manual).lane .i1).params.mode = .manual
    ∧ (∀ p ∈ (armed .manual .manual).routes.routes, p.2.enabled = false)
    ∧ ((up .manual .manual .up).lane .i1).barrier.state ≠ .down ∧ ((up .manual .manual .down).lane .i1).barrier.state = .down
    ∧ ((up .manual .manual .up).lane .i1).sensors.loopOccupied = false
    ∧ ((up .auto .held .fault).lane .i1).seqr.state = .held ∧ ((up .auto .held .fault).lane .i1).barrier.state = .fault :=
  ⟨visitsOk_held .firstWeighed _ rfl, rfl, rfl, rfl, rfl, by decide, rfl, rfl, rfl, nofun, by decide, rfl, rfl, rfl, rfl⟩

/-- The fields of a CAL SET with some N and W. -/
def fieldsOf (n w : Byte) : CalFields :=
  { max := 60000#32, e := 20#8, n := n, w := w, mf := 100#16, tracking := 1#8, zc := 120000#32, k := 6554#32 }

theorem witness_CalibrationSessionChangesTheWorkingCopy :
    let idle := { State.reset with cal := { State.reset.cal with switchClosed := true } }
    let s := session shortRecord 127500 State.reset
    Takes idle .office ∧ Idx.ofNat? (1#8).toNat = some .i1 ∧ idle.cal.switchClosed = true ∧ idle.cal.lock = .switch
    ∧ (idle.deck .i1).phase ≠ .calibrating ∧ (idle.lane .i1).params.mode ≠ .auto ∧ (idle.deck .i1).capture = none
    ∧ State.reset.cal.switchClosed = false ∧ Takes s .office ∧ (s.deck .i1).phase = .calibrating
    ∧ s.cal.working.get .i1 = some shortRecord
    ∧ (∃ x, calRecordOf (fieldsOf 4#8 2#8) = some x ∧ x.legal = true ∧ x.n = shortRecord.n ∧ x.w = shortRecord.w)
    ∧ (∃ x, calRecordOf (fieldsOf 8#8 2#8) = some x ∧ x.legal = true ∧ x.n ≠ shortRecord.n)
    ∧ (∃ x, calRecordOf (fieldsOf 4#8 3#8) = some x ∧ x.legal = true ∧ x.n = shortRecord.n ∧ x.w ≠ shortRecord.w)
    ∧ (∃ x, calRecordOf (fieldsOf 5#8 2#8) = some x ∧ x.legal = false)
    ∧ (s.deck .i1).valid = true ∧ (s.deck .i1).stable = true ∧ (State.reset.deck .i1).valid = false
    ∧ shortRecord.max ≤ 10 * (6000#32).toNat ∧ (60000#32).toNat ≤ shortRecord.max
    ∧ ((30000 : Nat) : Int) = (s.deck .i1).sum - shortRecord.n * shortRecord.zc
    ∧ ((524288 : Nat) : Int) = roundDiv ((6000#32).toNat * 10 * shortRecord.n * 65536) 30000 :=
  ⟨takes_reset _, rfl, rfl, rfl, by decide, by decide, rfl, rfl, ⟨rfl, rfl, rfl, rfl⟩, rfl, rfl, ⟨_, rfl, by decide, rfl, rfl⟩,
    ⟨_, rfl, by decide, by decide⟩, ⟨_, rfl, by decide, rfl, by decide⟩, ⟨_, rfl, by decide⟩, rfl, rfl, rfl, by decide,
    by decide, by decide, by decide⟩

theorem writerOk_session (s : State) (h : s.nv = State.reset.nv) (hs : s.cal.staged = none)
    (hf : s.tickets.floorWrite = none) : WriterOk s := by
  unfold WriterOk siteWritePending retryPending calWritePending floorInFlight
  rw [h, hs, hf]
  simp [State.reset]

theorem witness_SessionsEndWithoutAStore :
    let same := session CalRecord.coldDefault 120000 State.reset
    Takes same .office ∧ Idx.ofNat? (1#8).toNat = some .i1 ∧ (same.deck .i1).phase = .calibrating
    ∧ same.cal.working.get .i1 = some (same.cal.stored.get .i1) ∧ WriterOk same ∧ same.power = true
    ∧ same.cal.switchClosed = true ∧ State.reset.cal.switchClosed = false ∧ writeInFlight same .i1 = false
    ∧ writeInFlight calibrationWrite .i1 = true :=
  ⟨⟨rfl, rfl, rfl, rfl⟩, rfl, rfl, rfl, writerOk_session _ rfl rfl rfl, rfl, rfl, rfl, rfl, rfl⟩

theorem witness_OfficeWritesBegin :
    let s := session shortRecord 120000 State.reset
    let last := { s with cal := { s.cal with audit := 65535 } }
    let numbered := { State.reset with cal := { State.reset.cal with site := some 1 } }
    let failed := { State.reset with nv := { State.reset.nv with storeFault := true } }
    Takes s .office ∧ Idx.ofNat? (1#8).toNat = some .i1 ∧ (s.deck .i1).phase = .calibrating
    ∧ s.cal.working.get .i1 = some shortRecord ∧ shortRecord ≠ s.cal.stored.get .i1 ∧ ticketRoom s.journal = true
    ∧ s.cal.audit < 65535 ∧ ticketRoom (fullJournal s).journal = false ∧ 65535 ≤ last.cal.audit
    ∧ (65535#16).toNat ≠ 0 ∧ State.reset.cal.site = none ∧ (0#16).toNat = 0 ∧ numbered.cal.site ≠ none
    ∧ failed.nv.storeFault = true ∧ failed.tickets.floorWrite = none ∧ State.reset.nv.storeFault = false :=
  ⟨⟨rfl, rfl, rfl, rfl⟩, rfl, rfl, rfl, by decide, by decide, by decide, by decide, by decide, by decide, rfl, rfl, by decide,
    rfl, rfl, rfl⟩

theorem journalOk_write : JournalOk calibrationWrite := by
  unfold JournalOk
  refine ⟨fun n h1 h2 => ?_, by decide, by decide, by decide, by decide⟩
  have h1' : 1 ≤ n := h1
  have h2' : n ≤ 1 := h2
  obtain rfl : n = 1 := by omega
  decide

theorem witness_CalibrationWriteEnds :
    JournalOk calibrationWrite ∧ calibrationWrite.power = true
    ∧ calibrationWrite.nv.inFlight = some (.cal .i1 shortRecord 1) ∧ calibrationWrite.cal.staged = some stagedOne
    ∧ stagedOne.deck = .i1 ∧ calibrationWrite.cal.switchClosed = true
    ∧ JournalOk { calibrationWrite with cal := { calibrationWrite.cal with switchClosed := false } } :=
  ⟨journalOk_write, rfl, rfl, rfl, rfl, rfl, journalOk_write⟩

theorem witness_FloorAndSiteWritesEnd :
    let floor := fun retry : Bool => { State.reset with
      nv := { State.reset.nv with inFlight := some (.floor 257) }
      tickets := { State.reset.tickets with floorWrite := some { value := 257, retry := retry } } }
    let site := { State.reset with nv := { State.reset.nv with inFlight := some (.site 65535) } }
    (floor true).power = true ∧ (floor true).nv.inFlight = some (.floor 257)
    ∧ (floor true).tickets.floorWrite = some { value := 257, retry := true }
    ∧ (floor false).tickets.floorWrite = some { value := 257, retry := false }
    ∧ site.power = true ∧ site.nv.inFlight = some (.site 65535) := ⟨rfl, rfl, rfl, rfl, rfl, rfl⟩

theorem witness_WeightsAreRoundedHalvesAwayFromZero :
    0 < 200 ∧ 2 * (roundDiv (-100) 200 * 200 - (-100)).natAbs = 200
    ∧ (let r := { shortRecord with k := 16777215, zc := 0 }
      999999999 < roundDiv ((33554428 - r.n * r.zc) * r.k) (r.n * 65536)
      ∧ roundDiv ((-33554432 - r.n * r.zc) * r.k) (r.n * 65536) < -999999999)
    ∧ (roundDiv ((480004 - shortRecord.n * shortRecord.zc) * shortRecord.k) (shortRecord.n * 65536)).natAbs ≤ 999999999
    ∧ 0 < shortRecord.e ∧ 2 * (10 * grossWeight shortRecord (-100) - (-100)).natAbs = 10 * shortRecord.e := by
  decide

theorem witness_SampleRunsTheStages :
    let s := (session shortRecord 120000 State.reset).modDeck .i1 fun u => { u with phase := .active }
    let short := State.reset
    State.reset.power = true ∧ s.power = true ∧ (s.deck .i1).phase ≠ .calibrating ∧ (s.deck .i1).capture = none
    ∧ ((session shortRecord 120000 State.reset).deck .i1).phase = .calibrating
    ∧ (∃ t, exec (.sampleOk .i1 120000#24) (session shortRecord 120000 State.reset) = .next t ∧ (t.deck .i1).valid = true)
    ∧ (∃ t, exec (.sampleOk .i1 120000#24) short = .next t ∧ (t.deck .i1).valid = false)
    ∧ (short.deck .i1).phase ≠ .active :=
  ⟨rfl, rfl, by decide, rfl, rfl, ⟨_, rfl, by decide⟩, ⟨_, rfl, by decide⟩, by decide⟩

theorem witness_CentreOfZeroIsAQuarterInterval :
    { shortRecord with e := 5 }.e = 5 ∧ shortRecord.e = 20
    ∧ (weighStages shortRecord { DeckUnit.cold with sum := 480000, zs := -50 }).centre = true
    ∧ (weighStages shortRecord { DeckUnit.cold with sum := 480000, zs := -51 }).centre = false :=
  ⟨rfl, rfl, by decide, by decide⟩

theorem witness_DeckFaultsAndTimeouts :
    let lost := State.reset.modDeck .i1 fun u => { u with linkLost := true, linkTimer := .stopped }
    let busy := capturing.modDeck .i1 fun u => { u with capture := some { visit := 7, deadline := 9 } }
    let due := State.reset.modDeck .i1 fun u => { u with trackCount := 50 }
    State.reset.power = true ∧ (lost.deck .i1).linkLost = true ∧ (State.reset.deck .i1).linkLost = false
    ∧ (State.reset.deck .i1).linkTimer.deadline ≠ none ∧ (State.reset.deck .i1).linkTimer.late = 0
    ∧ .linkSilenceTimeout .i1 ∈ (queued (.linkSilenceTimeout .i1) State.reset).pending
    ∧ (State.reset.deck .i1).captureLate = 0 ∧ (State.reset.deck .i1).capture = none
    ∧ (busy.deck .i1).capture ≠ none ∧ (∀ p ∈ busy.routes.routes, p.2.fires .captureFailed (some 1) = false)
    ∧ (State.reset.deck .i1).trackCount ≠ 50 ∧ (due.deck .i1).trackCount = 50 :=
  ⟨rfl, rfl, rfl, by decide, rfl, by decide, rfl, rfl, by decide, fun _ hp => absurd hp List.not_mem_nil, by decide, rfl⟩

/-- A deck about to complete the capture of visit 7: one more sample of 18 440 kg fills the window. -/
def completing (st : VisitState) : State :=
  let r : CalRecord := { shortRecord with k := 6554 }
  let c : Int := 1963700
  let w : Int := fineWeight r (4 * c)
  let s := (holdVisit (visitIn st) (shop State.reset)).modDeck .i1 fun u =>
    { u with phase := .active, window := [c, c, c, c], sum := 4 * c, valid := true, stable := true, fine := w, netFine := w,
             history := [w, w], occupied := true, capture := some { visit := 7, deadline := 5 } }
  { s.modSensors .i1 fun x => { x with beam1Broken := false, beam2Broken := false } with
    cal := { s.cal with stored := Four.all r } }

theorem witness_WeighingDecidesTheVisit :
    let s := shop State.reset
    let v := holdVisit (visitIn .attached) s
    findAccount s 1 = none ∧ (∃ a, findAccount s 3150 = some a ∧ a.status = .active ∧ a.row 3 = none
      ∧ ∃ r, a.row 2 = some r ∧ ((40000 : Nat) : Int) ≤ r.amounts.free ∧ r.amounts.free < ((40001 : Nat) : Int))
    ∧ 0 < (visitIn .attached).payload ∧ (s.cal.stored.get .i1).max < { visitIn .attached with payload := 150000 }.payload
    ∧ { visitIn .attached with payload := 0 }.payload = 0 ∧ (∃ c, Table.find s.allow.categories 2 = some c)
    ∧ findVisit v 7 = some (visitIn .attached) ∧ (visitIn .attached).first = some (weighed 25420)
    ∧ (25420 : Int) - 25421 < 0 ∧ (0 : Int) ≤ 25420 - 25420 :=
  ⟨by decide, ⟨_, rfl, rfl, rfl, _, rfl, by decide, by decide⟩, by decide, by decide, rfl, ⟨_, rfl⟩, rfl, rfl, by decide,
    by decide⟩

/-- The clauses on a first weight, and on the sample that completes a capture. -/
theorem witness_WeighingDecidesTheVisit_first :
    let s := shop State.reset
    let v := holdVisit (visitIn .announced) s
    let accounts := fun a : Account => { v with allow := { v.allow with accounts := [(0, a)] } }
    (∃ a, findAccount v 3150 = some a ∧ a.storedTareAllowed = false ∧ a.status = .active
      ∧ findAccount (accounts { a with status := .suspended }) 3150 = some { a with status := .suspended }
      ∧ findAccount (accounts { a with storedTareAllowed := true }) 3150 = some { a with storedTareAllowed := true })
    ∧ (visitIn .announced).kind = .delivery ∧ { visitIn .announced with kind := .collection }.kind = .collection
    ∧ findVisit v 7 = some (visitIn .announced) ∧ entryChecks v 3150 2 (twoPassReserve v (visitIn .announced) .i1) = none
    ∧ entryChecks v 3150 3 0 = some .categoryNotPermitted
    ∧ (tareLookup [65#8] (stored (clockOn State.reset))).1 = some (9000, false)
    ∧ (9000 : Int) - (9000 : Nat) = 0 ∧ (8999 : Int) - (9000 : Nat) < 0
    ∧ entryChecks v 3150 2 40000 = none ∧ entryChecks v 3150 2 40001 = some .allowance :=
  ⟨⟨_, rfl, rfl, rfl, rfl, rfl⟩, rfl, rfl, rfl, by decide, by decide, by decide, by decide, by decide, by decide, by decide⟩

theorem witness_WeighingDecidesTheVisit_sample :
    let s := completing .announced
    let u := eightStages (recordInUse s .i1) (1963700#24).toInt ((linkRecover .i1 (trackStep .i1 s)).deck .i1)
    s.power = true ∧ (s.deck .i1).capture = some { visit := 7, deadline := 5 } ∧ isHead s .i1 7 = true
    ∧ findVisit s 7 = some (visitIn .announced) ∧ (visitIn .announced).state = .announced
    ∧ findVisit (completing .attached) 7 = some (visitIn .attached) ∧ (visitIn .attached).first.isSome = true
    ∧ (s.deck .i1).occupied = true ∧ (s.lane .i1).sensors.beam1Broken = false ∧ (s.lane .i1).sensors.beam2Broken = false
    ∧ u.phase = .active ∧ u.stable = true ∧ u.overload = false ∧ u.underload = false
    ∧ 20 * ((s.cal.stored.get .i1).e : Int) ≤ u.gross ∧ u.occupied = true :=
  ⟨rfl, rfl, by decide, rfl, rfl, rfl, rfl, rfl, rfl, rfl, by decide, by decide, by decide, by decide, by decide, by decide⟩

theorem witness_TicketIssueTakesTheHeadOfTheQueue :
    State.reset.power = true ∧ State.reset.tickets.queue = [] ∧ issuing.power = true ∧ issuing.tickets.queue = 7 :: []
    ∧ issueObstacle issuing = .none ∧ issueObstacle (fullJournal issuing) ≠ .none
    ∧ findVisit issuing 7 = some (visitIn .awaitingTicket)
    ∧ (visitIn .awaitingTicket).place = some { lane := .i1, slot := .i1, pass := .entry }
    ∧ (visitIn .awaitingTicket).first = some (weighed 25420) ∧ issuing.cal.site = some 1207
    ∧ (issuing.lane .i1).printer.jobs.length < 2
    ∧ (let full := issuing.modPrinter .i1 fun e => { e with jobs := [job (some walked), job none] }
       full.tickets.queue = [7] ∧ issueObstacle full = .none ∧ 2 ≤ (full.lane .i1).printer.jobs.length) :=
  ⟨rfl, rfl, rfl, rfl, by decide, by decide, rfl, rfl, rfl, rfl, by decide, rfl, by decide, by decide⟩

/-- The clauses on the tare that is kept, the visit's second weight, and on the check word's words. -/
theorem witness_TicketIssueTakesTheHeadOfTheQueue_tares :
    let kept : Visit := { visitIn .awaitingTicket with tareSource := .weighed, second := some (weighed 16420) }
    let s := { shop (clockOn (holdVisit kept State.reset)) with cal := issuing.cal, tickets := issuing.tickets }
    s.power = true ∧ s.tickets.queue = 7 :: [] ∧ issueObstacle s = .none ∧ findVisit s 7 = some kept
    ∧ kept.place = some { lane := .i1, slot := .i1, pass := .entry } ∧ kept.first = some (weighed 25420)
    ∧ s.cal.site = some 1207
    ∧ (∃ a, findAccount s kept.account = some a ∧ a.keepTares = true) ∧ kept.tareSource = .weighed
    ∧ kept.negativeNet = false ∧ (if kept.kind = VisitKind.delivery then kept.second else kept.first) = some (weighed 16420)
    ∧ (visitIn .awaitingTicket).tareSource ≠ .weighed ∧ 65535 < 65536 ∧ ∀ w ∈ wordsOf ticket9, w < 65536 :=
  ⟨rfl, rfl, by decide, rfl, rfl, rfl, rfl, ⟨_, rfl, rfl⟩, rfl, rfl, rfl, by decide, by decide, by decide⟩

/-- R130: the words of its worked ticket, and the same from the words of the statements. -/
theorem test_worked_words :
    let k : TicketRecord := { ticket9 with
      number := 48213, visit := 305, issued := { day := 4021, second := 37845 }, first := weighed 18440,
      second := some (weighed 6260), net := 12180, tareSource := .weighed, audit := 15 }
    checkWords k = [0, 48213, 305, 0, 18440, 0, 6260, 0, 12180, 3150, 529, 4021, 630, 15]
    ∧ wordsOf k = checkWords k := by decide

/-- R127, R130: the record that an issue appends carries the check word over its own words. -/
theorem test_issue_check_word : (match exec .ticketIssue issuing with
    | .next t => match retainedTicket t.journal 48214 with
      | some k => decide (k.check.toNat = (wordsOf k).foldl turned 1207 % 2 ^ 32 ∧ (wordsOf k).length = 14)
      | none => false
    | _ => false) = true := by decide

theorem witness_LaneInputsAndTimersAreTaken :
    let clear := State.reset.modSensors .i1 fun x => { x with loopOccupied := false }
    let lowering := withBarrier .lowering clear
    let waiting := (withBarrier .up State.reset).modBarrier .i1 fun b => { b with pendingLower := true }
    let opened := (inMode .auto .opened clear).modSeq .i1 fun q => { q with passTimer := .until 60000 }
    let loaded := opened.modSeq .i1 fun q => { q with occupied := true }
    let timed := State.reset.modSeq .i1 fun q => { q with unannounced := .running 120000 }
    let off := State.reset.modBarrier .i1 fun b => { b with limitDown := false }
    State.reset.power = true ∧ (State.reset.lane .i1).sensors.loopOccupied = true
    ∧ (clear.lane .i1).sensors.loopOccupied ≠ true ∧ (State.reset.lane .i1).sensors.loopOccupied ≠ false
    ∧ (lowering.lane .i1).barrier.state = .lowering ∧ (lowering.lane .i1).params.mode ≠ .manual
    ∧ (waiting.lane .i1).barrier.state = .up ∧ (waiting.lane .i1).barrier.pendingLower = true
    ∧ (opened.lane .i1).params.mode = .auto ∧ (opened.lane .i1).seqr.state = .opened
    ∧ (State.reset.lane .i1).barrier.limit .down = true ∧ (State.reset.lane .i1).barrier.limit .up = false
    ∧ (off.lane .i1).barrier.limitDown = false ∧ ((withBarrier .raising off).lane .i1).barrier.state = .raising
    ∧ ((withBarrier .lowering off).lane .i1).barrier.limitUp = false
    ∧ (State.reset.lane .i1).barrier.limitDown = true ∧ (State.reset.lane .i1).barrier.state ≠ .fault
    ∧ (State.reset.lane .i1).barrier.travelTimer = .stopped ∧ (lowering.lane .i1).barrier.travelTimer = .until 6000
    ∧ (State.reset.lane .i1).seqr.passTimer = .stopped ∧ (opened.lane .i1).seqr.passTimer = .until 60000
    ∧ (State.reset.lane .i1).seqr.unannouncedLate = 0
    ∧ (loaded.lane .i1).seqr.occupied = true ∧ (opened.lane .i1).seqr.occupied = false
    ∧ (∀ k, (State.reset.lane .i1).seqr.unannounced ≠ .running k)
    ∧ ∃ k, (timed.lane .i1).seqr.unannounced = .running k :=
  ⟨rfl, rfl, by decide, by decide, rfl, by decide, rfl, rfl, rfl, rfl, rfl, rfl, rfl, rfl, rfl, rfl, by decide, rfl, rfl,
    rfl, rfl, rfl, rfl, rfl, nofun, _, rfl⟩

/-- The clauses on a limit's report to an AUTO lane, and on both limits. -/
theorem witness_LaneInputsAndTimersAreTaken_reports :
    let off := (State.reset.modBarrier .i1 fun b => { b with limitDown := false }).modSensors .i1 fun x =>
      { x with loopOccupied := false }
    let raising := inMode .auto .releasing (withBarrier .raising off)
    let onLoop := raising.modSensors .i1 fun x => { x with loopOccupied := true }
    let lowering := inMode .auto .closing (withBarrier .lowering off)
    let loaded := lowering.modSeq .i1 fun q => { q with occupied := true }
    let both := withBarrier .raising State.reset
    (raising.lane .i1).barrier.limit .up = false ∧ (raising.lane .i1).barrier.limitDown = false
    ∧ (raising.lane .i1).barrier.state = .raising ∧ (raising.lane .i1).params.mode = .auto
    ∧ (raising.lane .i1).seqr.state = .releasing ∧ (raising.lane .i1).sensors.loopOccupied = false
    ∧ (onLoop.lane .i1).sensors.loopOccupied = true ∧ (lowering.lane .i1).barrier.limit .down = false
    ∧ (lowering.lane .i1).barrier.limitUp = false ∧ (lowering.lane .i1).barrier.state = .lowering
    ∧ (lowering.lane .i1).seqr.state = .closing ∧ (lowering.lane .i1).seqr.occupied = false
    ∧ (loaded.lane .i1).seqr.occupied = true ∧ (loaded.lane .i1).params.autoCapture = false
    ∧ headClass loaded .i1 = .none ∧ headClass (holdVisit (visitIn .announced) loaded) .i1 = .capturable
    ∧ (both.lane .i1).barrier.limit .up = false ∧ (both.lane .i1).barrier.limitDown = true
    ∧ (both.lane .i1).barrier.state ≠ .fault :=
  ⟨rfl, rfl, rfl, rfl, rfl, rfl, rfl, rfl, rfl, rfl, rfl, rfl, rfl, rfl, rfl, rfl, rfl, rfl, by decide⟩

/-- The clauses on the loop and the limits in the other modes: a pending lower in AUTO and in MANUAL with no routes, an arm that
reverses or ends its travel in MANUAL, and a limit that ends no travel. -/
theorem witness_LaneInputsAndTimersAreTaken_modes :
    let off := State.reset.modBarrier .i1 fun b => { b with limitDown := false }
    let waits := (withBarrier .up off).modBarrier .i1 fun b => { b with pendingLower := true }
    let clear := off.modSensors .i1 fun x => { x with loopOccupied := false }
    let up := (inMode .manual .manual (withBarrier .raising clear)).modSeq .i1 fun q => { q with raiseWait := true }
    let down := inMode .manual .manual (withBarrier .lowering clear)
    let leaving := inMode .auto .held (withBarrier .lowering clear)
    (∀ p ∈ State.reset.routes.routes, p.2.enabled = true →
      p.2.task = .barrierRaise ∨ p.2.task = .barrierLower → p.2.taskIndex ≠ Idx.num .i1)
    ∧ up.routes.routes = [] ∧ down.routes.routes = []
    ∧ ((inMode .auto .closing waits).lane .i1).seqr.state = .closing
    ∧ ((inMode .auto .held waits).lane .i1).seqr.passageArmed = false
    ∧ ((inMode .auto .held waits).lane .i1).barrier.pendingLower = true
    ∧ ((inMode .manual .manual waits).lane .i1).params.mode = .manual
    ∧ ((inMode .manual .manual waits).lane .i1).sensors.loopOccupied ≠ false
    ∧ (down.lane .i1).barrier.state = .lowering ∧ (down.lane .i1).sensors.loopOccupied ≠ true
    ∧ (down.lane .i1).barrier.limit .down = false ∧ (down.lane .i1).barrier.limitUp = false
    ∧ (up.lane .i1).barrier.limit .up = false ∧ (up.lane .i1).barrier.state = .raising ∧ (up.lane .i1).seqr.raiseWait = true
    ∧ (leaving.lane .i1).params.mode = .auto ∧ (leaving.lane .i1).seqr.state ≠ .closing
    ∧ (leaving.lane .i1).barrier.limit .down = false
    ∧ (clear.lane .i1).barrier.limit .up = false ∧ (clear.lane .i1).barrier.state ≠ .raising
    ∧ (clear.lane .i1).barrier.limitUp = false ∧ (clear.lane .i1).barrier.limitDown = false :=
  ⟨fun _ h => (List.not_mem_nil h).elim, rfl, rfl, rfl, rfl, rfl, rfl, by decide, rfl, by decide, rfl, rfl, rfl, rfl, rfl, rfl,
    by decide, rfl, rfl, by decide, rfl, rfl⟩

/-- The clauses on a byte sent: not ready with and without the byte begun, a walk not finished, and a job that waits. -/
theorem witness_PrinterEventsMoveTheJob_sending :
    let one := printing .printing [10#8] State.reset
    let quiet := one.modPrinter .i1 fun e => { e with ready := false }
    let begun := quiet.modPrinter .i1 fun e => { e with byteInProgress := true }
    let more := one.modPrinter .i1 fun e => { e with jobs := [job (some walked), job none] }
    let at' := fun k : Nat => one.modPrinter .i1 fun e =>
      { e with fifo := List.replicate k 65#8,
               jobs := [job (some { template := 0, position := 95, rendered := 23, finished := false })] }
    (quiet.lane .i1).printer.ready = false ∧ (quiet.lane .i1).printer.byteInProgress = false
    ∧ (begun.lane .i1).printer.byteInProgress = true ∧ (begun.lane .i1).printer.fifo = [10#8]
    ∧ (more.lane .i1).printer.jobs = job (some walked) :: [job none] ∧ (more.lane .i1).printer.jobs.length ≤ 2
    ∧ walked.finished = true
    ∧ ((at' 473).lane .i1).printer.fifo = 65#8 :: List.replicate 472 65#8 ∧ 512 < (List.replicate 472 65#8).length + 41
    ∧ ((at' 472).lane .i1).printer.fifo = 65#8 :: List.replicate 471 65#8 ∧ (List.replicate 471 65#8).length + 41 ≤ 512
    ∧ 512 < (List.replicate 471 65#8).length + 82 ∧ ((at' 472).lane .i1).printer.state = .printing
    ∧ ∃ b, renderLine State.reset (job none) (Table.getD State.reset.templates.lines LineRecord.cold 95) = some b :=
  ⟨rfl, rfl, rfl, rfl, rfl, by decide, rfl, rfl, by rw [List.length_replicate]; decide, rfl, by rw [List.length_replicate],
    by rw [List.length_replicate]; decide, rfl, _, rfl⟩

theorem witness_PrinterEventsMoveTheJob :
    let one := printing .printing [10#8] State.reset
    let two := printing .printing [65#8, 10#8] State.reset
    let paused := printing .paused [10#8] State.reset
    State.reset.power = true ∧ (State.reset.lane .i1).printer.fifo = [] ∧ (paused.lane .i1).printer.state ≠ .printing
    ∧ (one.lane .i1).printer.state = .printing ∧ (one.lane .i1).printer.fifo = 10#8 :: []
    ∧ (two.lane .i1).printer.fifo = 65#8 :: [10#8] ∧ (one.lane .i1).printer.ready = true
    ∧ (one.lane .i1).printer.jobs = [job (some walked)] ∧ (job (some walked)).walk = some walked ∧ walked.finished = true
    ∧ (State.reset.lane .i1).printer.paperOut = true ∧ (one.lane .i1).printer.paperOut = false
    ∧ (State.reset.lane .i1).printer.state ≠ .paused ∧ (paused.lane .i1).printer.paperOut = true
    ∧ (paused.lane .i1).printer.state = .paused ∧ (paused.lane .i1).printer.fifo ≠ []
    ∧ (State.reset.lane .i1).printer.pauseTimer = .stopped ∧ (paused.lane .i1).printer.pauseTimer = .until 9
    ∧ (paused.lane .i1).printer.jobs = [job (some walked)] :=
  ⟨rfl, rfl, by decide, rfl, rfl, rfl, rfl, rfl, rfl, rfl, rfl, rfl, by decide, rfl, rfl, by decide, rfl, rfl, rfl⟩

theorem witness_PowerIsLostAndStartsAreTaken :
    State.reset.power = true ∧ State.reset.nv.inFlight = none
    ∧ calibrationWrite.nv.inFlight = some (.cal .i1 shortRecord 1) ∧ (dark State.reset).power = false
    ∧ (start false).cutShort = false ∧ retainedValid (start false) (dark State.reset) = true
    ∧ retainedValid (start false) calibrationWrite = true ∧ calibrationWrite.power = true
    ∧ retainedValid (start true) State.reset = false ∧ (start true).cells.floor = true :=
  ⟨rfl, rfl, rfl, rfl, rfl, rfl, rfl, rfl, rfl, rfl⟩

end Sys2Proof.Tests
end

/-! PROOFS, 01_deck_weighing. What a deck holds outside its capture, and the operations that leave it alone. -/

namespace Sys2Proof.Machine
open Sys2Proof

/-! ### Deck cores: every deck with its capture hidden -/

/-- The four decks with their captures hidden: what `State.outsideYard` shows of them. -/
def State.deckCores (s : State) : Four DeckUnit := s.decks.map fun _ u => u.outsideRoutes

section DeckCores

variable (s : State)

theorem deckCores_of_outsideYard {s t : State} (h : t.outsideYard = s.outsideYard) : t.deckCores = s.deckCores :=
  congrArg State.decks h

/-- Equal cores, deck by deck. -/
theorem deckCores_get {s t : State} (h : t.deckCores = s.deckCores) (d : Deck) :
    (t.deck d).outsideRoutes = (s.deck d).outsideRoutes := by
  simpa [State.deckCores, State.deck] using congrArg (fun x => x.get d) h

theorem modDeck_deckCores (d : Deck) (f : DeckUnit → DeckUnit)
    (h : (f (s.deck d)).outsideRoutes = (s.deck d).outsideRoutes) : (s.modDeck d f).deckCores = s.deckCores := by
  refine Four.ext_get fun k => ?_
  by_cases hk : k = d
  · subst hk; simpa [State.deckCores, State.modDeck, State.deck] using h
  · simp [State.deckCores, State.modDeck, Four.get_put_of_ne _ _ hk]

theorem modSeq_deckCores (l : Lane) (f : Sequencer → Sequencer) : (s.modSeq l f).deckCores = s.deckCores := rfl
theorem modParams_deckCores (l : Lane) (f : LaneParams → LaneParams) : (s.modParams l f).deckCores = s.deckCores := rfl
theorem syncUnannounced_deckCores (l : Lane) : (syncUnannounced l s).deckCores = s.deckCores := rfl
theorem stopLane_deckCores (l : Lane) : (stopLane l s).deckCores = s.deckCores := rfl
theorem modReport_deckCores (l : Lane) (f : LaneReport → LaneReport) : (s.modReport l f).deckCores = s.deckCores := rfl
theorem modPrinter_deckCores (l : Lane) (f : PrintEngine → PrintEngine) : (s.modPrinter l f).deckCores = s.deckCores :=
  rfl

theorem modVisit_deckCores (n : Nat) (f : Visit → Visit) : (modVisit n f s).deckCores = s.deckCores := rfl
theorem removeVisit_deckCores (n : Nat) : (removeVisit n s).deckCores = s.deckCores := rfl
theorem modPort_deckCores (p : PortId) (f : Port → Port) : (s.modPort p f).deckCores = s.deckCores := rfl
theorem countTicket_deckCores (k : VisitKind) (c n : Nat) : (countTicket k c n s).deckCores = s.deckCores := rfl

/-! #### The yard at work -/

theorem raiseLaneOffice_deckCores (n : Notice) (l : Lane) : (raiseLaneOffice n l s).deckCores = s.deckCores := rfl
theorem raiseEvent_deckCores (k : EventKind) (x : Option Nat) : (raiseEvent k x s).deckCores = s.deckCores :=
  deckCores_of_outsideYard (raiseEvent_outsideYard s k x)
theorem raiseAt_deckCores (k : EventKind) (l : Lane) : (raiseAt k l s).deckCores = s.deckCores :=
  raiseEvent_deckCores s k _
theorem handHead_deckCores (l : Lane) (b : Bool) : (handHead l b s).deckCores = s.deckCores :=
  deckCores_of_outsideYard (handHead_outsideYard s l b)
theorem enterClosing_deckCores (l : Lane) : (enterClosing l s).deckCores = s.deckCores :=
  deckCores_of_outsideYard (enterClosing_outsideYard s l)
theorem settle_deckCores (l : Lane) : (settle l s).deckCores = s.deckCores :=
  deckCores_of_outsideYard (settle_outsideYard s l)
theorem enterFault_deckCores (l : Lane) : (enterFault l s).deckCores = s.deckCores :=
  deckCores_of_outsideYard (enterFault_outsideYard s l)
theorem enterOccupied_deckCores (l : Lane) : (enterOccupied l s).deckCores = s.deckCores :=
  deckCores_of_outsideYard (enterOccupied_outsideYard s l)
theorem endCapture_deckCores (l : Lane) (r : CaptureReason) : (endCapture l r s).deckCores = s.deckCores :=
  deckCores_of_outsideYard (endCapture_outsideYard s l r)
theorem endCaptureLeaving_deckCores (l : Lane) (r : CaptureReason) : (endCaptureLeaving l r s).deckCores = s.deckCores :=
  deckCores_of_outsideYard (endCaptureLeaving_outsideYard s l r)
theorem reportUp_deckCores (l : Lane) : (reportUp l s).deckCores = s.deckCores :=
  deckCores_of_outsideYard (reportUp_outsideYard s l)
theorem reportDown_deckCores (l : Lane) : (reportDown l s).deckCores = s.deckCores :=
  deckCores_of_outsideYard (reportDown_outsideYard s l)
theorem acceptStart_deckCores (l : Lane) (n : Nat) : (acceptStart l n s).deckCores = s.deckCores :=
  deckCores_of_outsideYard (acceptStart_outsideYard s l n)

/-! #### The writer, the ticket unit and the journal -/

theorem nvRequest_deckCores (r : NvRequest) : (nvRequest r s).deckCores = s.deckCores := by
  unfold nvRequest
  split
  · rfl
  · split <;> rfl

theorem nvServe_deckCores : (nvServe s).deckCores = s.deckCores := by
  unfold nvServe
  split
  · rfl
  · split
    · rfl
    · split <;> rfl

theorem nvEnd_deckCores (ok : Bool) : (nvEnd ok s).deckCores = s.deckCores := by
  unfold nvEnd
  split
  · rfl
  · split <;> rfl

theorem requestFloorWrite_deckCores (b : Bool) : (requestFloorWrite b s).deckCores = s.deckCores :=
  nvRequest_deckCores _ _

theorem tryHead_deckCores : (tryHead s).deckCores = s.deckCores := by
  unfold tryHead
  split
  · rfl
  · dsimp only
    split
    · exact requestFloorWrite_deckCores _ _
    · rfl

theorem requestTicket_deckCores (n : Nat) : (requestTicket n s).deckCores = s.deckCores := by
  unfold requestTicket
  dsimp only
  split
  · exact tryHead_deckCores _
  · rfl

theorem countEvents_deckCores (n : Nat) : (countEvents n s).deckCores = s.deckCores := by
  unfold countEvents
  split
  · exact raiseEvent_deckCores _ _ _
  · split
    · exact raiseEvent_deckCores _ _ _
    · rfl

theorem appendEntry_deckCores (b : JournalBody) : (appendEntry b s).deckCores = s.deckCores := countEvents_deckCores _ _

theorem appendReserved_deckCores (b : JournalBody) : (appendReserved b s).deckCores = s.deckCores :=
  appendEntry_deckCores _ b

theorem appendRollover_deckCores (d : Nat) : (appendRollover d s).deckCores = s.deckCores :=
  (raiseEvent_deckCores _ _ _).trans (appendEntry_deckCores s _)

theorem rolloverEvent_deckCores : (rolloverEvent s).deckCores = s.deckCores := by
  unfold rolloverEvent
  split
  · rfl
  · split
    · exact appendRollover_deckCores s _
    · rfl

theorem drain_deckCores : (drain s).deckCores = s.deckCores := by
  have hrestart : (drainRestart s).deckCores = s.deckCores := by
    unfold drainRestart
    split
    · rfl
    · split
      · exact appendEntry_deckCores _ _
      · rfl
  have hrollover : ∀ x : State, (drainRollover x).deckCores = x.deckCores := fun x => by
    unfold drainRollover
    split
    · rfl
    · split
      · exact appendRollover_deckCores _ _
      · rfl
  unfold drain
  dsimp only
  split
  · exact hrestart
  · split
    · exact (hrollover _).trans hrestart
    · exact (tryHead_deckCores _).trans ((hrollover _).trans hrestart)

/-! #### Queues, departures and passages -/

theorem joinQueue_deckCores (l : Lane) (n : Nat) (k : PassKind) : (joinQueue l n k s).deckCores = s.deckCores := by
  unfold joinQueue
  split
  · rfl
  · dsimp only
    split
    · exact handHead_deckCores _ l true
    · rfl

theorem depart_deckCores (n : Nat) (f : State → State) (hf : ∀ x : State, (f x).deckCores = x.deckCores) :
    (depart n f s).deckCores = s.deckCores := by
  unfold depart
  split
  · rfl
  · split
    · exact hf s
    · dsimp only
      split
      · exact (handHead_deckCores _ _ true).trans (hf _)
      · exact hf _

theorem vehiclePassed_deckCores (l : Lane) : (vehiclePassed l s).deckCores = s.deckCores := by
  have leaves : ∀ (n : Nat) (f : State → State), (∀ x : State, (f x).deckCores = x.deckCores) →
      (depart n f (endCaptureLeaving l .abandoned s)).deckCores = s.deckCores := fun n f hf =>
    (depart_deckCores _ n f hf).trans (endCaptureLeaving_deckCores s l _)
  unfold vehiclePassed
  split
  · rfl
  · split
    · rfl
    · split
      · rfl
      · exact leaves _ id fun _ => rfl
      · exact leaves _ _ fun _ => rfl
      · exact leaves _ _ fun _ => rfl

theorem handReleased_deckCores (l : Lane) : (handReleased l s).deckCores = s.deckCores := by
  unfold handReleased
  dsimp only
  split
  · exact vehiclePassed_deckCores s l
  · rfl

theorem checkPassage_deckCores (l : Lane) : (checkPassage l s).deckCores = s.deckCores := by
  unfold checkPassage
  dsimp only
  split
  · split
    · exact (enterClosing_deckCores _ l).trans (handReleased_deckCores _ l)
    · exact handReleased_deckCores s l
    · exact vehiclePassed_deckCores s l
    · rfl
  · rfl

theorem laneOccupied_deckCores (l : Lane) : (laneOccupied l s).deckCores = s.deckCores := by
  unfold laneOccupied
  dsimp only
  split
  · exact enterOccupied_deckCores _ l
  · rfl

theorem laneClear_deckCores (l : Lane) : (laneClear l s).deckCores = s.deckCores := by
  unfold laneClear
  dsimp only
  split
  · rfl
  · exact checkPassage_deckCores _ l

theorem laneLoopOccupied_deckCores (l : Lane) : (laneLoopOccupied l s).deckCores = s.deckCores := by
  unfold laneLoopOccupied
  dsimp only
  split
  · rfl
  · split <;> rfl
  · split <;> rfl
  · rfl

theorem loopChange_deckCores (l : Lane) (b : Bool) : (loopChange l b s).deckCores = s.deckCores := by
  unfold loopChange
  dsimp only
  split
  · exact (laneLoopOccupied_deckCores _ l).trans (raiseAt_deckCores _ _ l)
  · exact (checkPassage_deckCores _ l).trans (raiseAt_deckCores _ _ l)

/-! #### Decisions and tickets -/

theorem handOut_deckCores (l : Lane) (n : Nat) : (handOut l n s).deckCores = s.deckCores := by
  have told : ∀ (d : Decision), (handHead l false (s.modReport l fun r => { r with lastDecision := d })).deckCores
      = s.deckCores := fun d => handHead_deckCores _ l false
  unfold handOut
  split
  · rfl
  · dsimp only
    split
    · exact (raiseLaneOffice_deckCores _ _ l).trans ((modReport_deckCores _ l _).trans
        ((raiseAt_deckCores _ _ l).trans (told _)))
    · exact (raiseLaneOffice_deckCores _ _ l).trans ((modReport_deckCores _ l _).trans
        ((raiseAt_deckCores _ _ l).trans (told _)))
    · exact (raiseLaneOffice_deckCores _ _ l).trans (told _)

theorem awaitTicket_deckCores (n : Nat) : (awaitTicket n s).deckCores = s.deckCores := requestTicket_deckCores _ n

theorem checkAndHold_deckCores (v : Visit) (k : Nat) (f : State → State)
    (hf : ∀ x : State, (f x).deckCores = x.deckCores) : (checkAndHold v k f s).deckCores = s.deckCores := by
  unfold checkAndHold
  split
  · rfl
  · exact hf _

theorem twoPass_deckCores (v : Visit) (d : Deck) : (twoPass v d s).deckCores = s.deckCores :=
  checkAndHold_deckCores s v _ _ fun _ => rfl

theorem useStoredTare_deckCores (v : Visit) (w : CapturedWeight) (x : Nat) (m : Bool) :
    (useStoredTare v w x m s).deckCores = s.deckCores := by
  unfold useStoredTare
  dsimp only
  split
  · rfl
  · exact checkAndHold_deckCores _ v _ _ fun _ => awaitTicket_deckCores _ _

theorem tareLookup_deckCores (v : Text) : (tareLookup v s).2.deckCores = s.deckCores := by
  unfold tareLookup
  split
  · rfl
  · split <;> rfl

theorem firstDelivery_deckCores (v : Visit) (w : CapturedWeight) : (firstDelivery v w s).deckCores = s.deckCores := by
  have hlook := tareLookup_deckCores s v.vehicle
  unfold firstDelivery
  split
  · split <;> rename_i h <;> rw [h] at hlook
    · exact (useStoredTare_deckCores _ _ _ _ _).trans hlook
    · exact (twoPass_deckCores _ _ _).trans hlook
  · exact twoPass_deckCores _ _ _

theorem firstCapture_deckCores (v : Visit) (w : CapturedWeight) : (firstCapture v w s).deckCores = s.deckCores := by
  unfold firstCapture
  dsimp only
  split
  · exact firstDelivery_deckCores _ _ _
  · unfold firstCollection
    split <;> rfl

theorem secondCapture_deckCores (v : Visit) (w : CapturedWeight) : (secondCapture v w s).deckCores = s.deckCores := by
  unfold secondCapture
  split
  · rfl
  · dsimp only
    split
    · rfl
    · exact awaitTicket_deckCores _ _

theorem decideVisit_deckCores (l : Lane) (n : Nat) (w : CapturedWeight) :
    (decideVisit l n w s).deckCores = s.deckCores := by
  unfold decideVisit
  split
  · rfl
  · split
    · exact (handOut_deckCores _ l n).trans (firstCapture_deckCores _ _ _)
    · exact (handOut_deckCores _ l n).trans (secondCapture_deckCores _ _ _)
    · rfl

theorem dropCapture_deckCores (d : Deck) : (dropCapture d s).deckCores = s.deckCores := modDeck_deckCores s d _ rfl

theorem completeCapture_deckCores (d : Deck) : (completeCapture d s).deckCores = s.deckCores := by
  unfold completeCapture
  split
  · rfl
  · exact (raiseLaneOffice_deckCores _ _ d).trans ((raiseAt_deckCores _ _ d).trans ((modReport_deckCores _ d _).trans
      ((decideVisit_deckCores _ d _ _).trans (dropCapture_deckCores s d))))

theorem stageEvents_deckCores (d : Deck) (u : DeckUnit) : (stageEvents d u s).deckCores = s.deckCores := by
  have overload : (if (s.deck d).overload && !u.overload then raiseAt .deckOverload d s else s).deckCores
      = s.deckCores := by
    split
    · exact raiseAt_deckCores s _ d
    · rfl
  unfold stageEvents
  dsimp only
  generalize (if (s.deck d).overload && !u.overload then raiseAt .deckOverload d s else s) = x at overload ⊢
  have occupancy : (if (s.deck d).occupied && !u.occupied then laneOccupied d (raiseAt .deckOccupied d x)
      else if u.occupied && !(s.deck d).occupied then laneClear d (raiseAt .deckClear d x) else x).deckCores
      = s.deckCores := by
    split
    · exact (laneOccupied_deckCores _ d).trans ((raiseAt_deckCores x _ d).trans overload)
    · split
      · exact (laneClear_deckCores _ d).trans ((raiseAt_deckCores x _ d).trans overload)
      · exact overload
  split
  · exact (raiseAt_deckCores _ _ d).trans occupancy
  · exact occupancy

theorem captureTests_deckCores (d : Deck) (b a : DeckUnit) : (captureTests d b a s).deckCores = s.deckCores := by
  unfold captureTests
  split
  · split
    · exact endCapture_deckCores s d _
    · split
      · exact completeCapture_deckCores s d
      · rfl
  · rfl

theorem overrunOutcome_deckCores (a : SettleAnswer) : (overrunOutcome a s).deckCores = s.deckCores := by
  unfold overrunOutcome
  split
  · exact raiseEvent_deckCores s _ _
  · rfl

theorem settleTicket_deckCores (v : Visit) (n : Nat) : (settleTicket v n s).deckCores = s.deckCores := by
  unfold settleTicket
  split
  · rfl
  · exact overrunOutcome_deckCores _ _

theorem keepTare_deckCores (v : Visit) : (keepTare v s).deckCores = s.deckCores := by
  unfold keepTare
  split
  · rfl
  · unfold placeTare
    dsimp only
    split
    · split <;> rfl
    · split
      · rfl
      · split <;> rfl

/-! #### Printing -/

theorem closeJob_deckCores (l : Lane) (r : PrintResult) : (closeJob l r s).deckCores = s.deckCores := by
  have uncount : ∀ j : PrintJob, (uncountJob j s).deckCores = s.deckCores := fun j => by
    unfold uncountJob
    split <;> rfl
  unfold closeJob
  split
  · rfl
  · dsimp only
    refine (modPrinter_deckCores _ l _).trans ?_
    split
    · exact (raiseLaneOffice_deckCores _ _ l).trans
        ((raiseAt_deckCores _ _ l).trans ((modPrinter_deckCores _ l _).trans (uncount _)))
    all_goals exact (raiseAt_deckCores _ _ l).trans ((modPrinter_deckCores _ l _).trans (uncount _))

theorem startJob_deckCores (l : Lane) : (startJob l s).deckCores = s.deckCores := by
  unfold startJob
  dsimp only
  split
  · rfl
  · split
    · exact closeJob_deckCores s l _
    · have started : ∀ (t : Nat) (w : JobWalk), ((setWalk l w (modInUse t (· + 1) s)).modPrinter l fun e =>
          { e with state := .printing }).deckCores = s.deckCores := fun _ _ => rfl
      split
      · exact (raiseLaneOffice_deckCores _ _ l).trans ((modPrinter_deckCores _ l _).trans (started _ _))
      · exact started _ _

theorem engineMove_deckCores (l : Lane) {t : State} (h : engineMove l s = some t) : t.deckCores = s.deckCores := by
  unfold engineMove at h
  dsimp only at h
  split at h
  · cases h
  · split at h
    · cases h; exact startJob_deckCores s l
    · split at h
      · cases h
      · split at h
        · split at h
          · cases h; exact closeJob_deckCores s l _
          · cases h
        · split at h
          · split at h
            · cases h; exact closeJob_deckCores s l _
            · split at h
              · cases h; exact closeJob_deckCores s l _
              · cases h; rfl
          · cases h

theorem pumpEngine_deckCores (l : Lane) : (pumpEngine l s).deckCores = s.deckCores := by
  unfold pumpEngine
  generalize 32 = n
  induction n generalizing s with
  | zero => rfl
  | succ n ih =>
    unfold runEngine
    split
    · rfl
    · rename_i h
      exact (ih _).trans (engineMove_deckCores s l h)

theorem queueJob_deckCores (l : Lane) (k : TicketRecord) (b : Bool) : (queueJob l k b s).2.deckCores = s.deckCores := by
  unfold queueJob
  dsimp only
  split
  · rfl
  · exact pumpEngine_deckCores _ l

theorem queueOriginal_deckCores (l : Lane) (k : TicketRecord) : (queueOriginal l k s).deckCores = s.deckCores := by
  have hqueue := queueJob_deckCores s l k false
  unfold queueOriginal
  split <;> rename_i h <;> rw [h] at hqueue
  · exact hqueue
  · exact (modPrinter_deckCores _ l _).trans ((raiseLaneOffice_deckCores _ _ l).trans
      ((raiseAt_deckCores _ _ l).trans hqueue))

theorem reprint_deckCores (l : Lane) (n : Nat) : (reprint l n s).2.deckCores = s.deckCores := by
  unfold reprint
  split
  · rfl
  · rename_i k _
    have hqueue := queueJob_deckCores s l k true
    split <;> rename_i h <;> rw [h] at hqueue <;> exact hqueue

theorem endJob_deckCores (l : Lane) (r : PrintResult) : (endJob l r s).deckCores = s.deckCores :=
  (pumpEngine_deckCores _ l).trans (closeJob_deckCores s l r)

theorem finishIssue_deckCores : (finishIssue s).deckCores = s.deckCores := rfl

theorem issueStep_deckCores : (issueStep s).deckCores = s.deckCores := by
  have record : ∀ (v : Visit) (t : TicketRecord), (issueRecord v t s).deckCores = s.deckCores := fun v t => by
    unfold issueRecord announceTicket ticketVisit
    exact (raiseLaneOffice_deckCores _ _ _).trans ((raiseAt_deckCores _ _ _).trans ((modReport_deckCores _ _ _).trans
      ((queueOriginal_deckCores _ _ _).trans ((handHead_deckCores _ _ _).trans ((modReport_deckCores _ _ _).trans
      ((modVisit_deckCores _ _ _).trans ((countTicket_deckCores _ _ _ _).trans ((keepTare_deckCores _ v).trans
      ((settleTicket_deckCores _ v _).trans (appendEntry_deckCores s _))))))))))
  have head : ∀ n, (issueHead n s).deckCores = s.deckCores := fun n => by
    unfold issueHead
    split
    · split
      · exact (tryHead_deckCores _).trans ((finishIssue_deckCores _).trans (record _ _))
      · rfl
    · rfl
  unfold issueStep
  split
  · rfl
  · split
    · exact head _
    · exact tryHead_deckCores s

/-! #### Ends of writes, owners' writes and commands -/

theorem officeWriteEnd_deckCores (c : Byte) (ok : Bool) : (officeWriteEnd c ok s).deckCores = s.deckCores := rfl

theorem floorWriteEnd_deckCores (ok : Bool) : (floorWriteEnd ok s).deckCores = s.deckCores := by
  have outcome : ∀ (f : FloorWrite) (x : State), (floorOutcome f ok x).deckCores = x.deckCores := fun f x => by
    have retry : ∀ y : State, (retryEnd f ok y).deckCores = y.deckCores := fun y => by unfold retryEnd; split <;> rfl
    unfold floorOutcome
    dsimp only
    split
    · exact (tryHead_deckCores _).trans (retry _)
    · split
      · exact retry _
      · rfl
  unfold floorWriteEnd
  split
  · exact (nvServe_deckCores _).trans ((outcome _ _).trans (nvEnd_deckCores s ok))
  · rfl

theorem siteWriteEnd_deckCores (ok : Bool) : (siteWriteEnd ok s).deckCores = s.deckCores := by
  have outcome : ∀ (v : Nat) (x : State), (siteOutcome v ok x).deckCores = x.deckCores := fun v x => by
    unfold siteOutcome
    split
    · exact tryHead_deckCores _
    · rfl
  unfold siteWriteEnd
  split
  · exact (nvServe_deckCores _).trans ((outcome _ _).trans (nvEnd_deckCores s ok))
  · rfl

theorem storeAccount_deckCores (i : Nat) (w : AccountWrite) : (storeAccount i w s).2.deckCores = s.deckCores := by
  unfold storeAccount
  split
  · rfl
  · split
    · rfl
    · split
      · rfl
      · split
        · rfl
        · dsimp only
          split
          · exact raiseEvent_deckCores _ _ _
          · rfl

theorem storeCap_deckCores (i cap : Nat) : (storeCap i cap s).2.deckCores = s.deckCores := by
  unfold storeCap
  dsimp only
  split
  · rfl
  · split
    · rfl
    · dsimp only
      split
      · exact raiseEvent_deckCores _ _ _
      · rfl

theorem storeTare_deckCores (i : Nat) (v : List Byte) (t d : Nat) : (storeTare i v t d s).2.deckCores = s.deckCores := by
  unfold storeTare
  split
  · rfl
  · split
    · rfl
    · split
      · rfl
      · split <;> rfl

/-- No owner of a table touches a deck outside its capture. -/
theorem ownerWrite_deckCores (i : Nat) (w : TableWrite) : (ownerWrite i w s).2.deckCores = s.deckCores := by
  cases w with
  | category name reserve => unfold ownerWrite storeCategory; dsimp only; split <;> rfl
  | categoryRemove =>
    unfold ownerWrite removeCategory
    dsimp only
    split
    · rfl
    · split
      · rfl
      · split <;> rfl
  | account w => exact storeAccount_deckCores s i w
  | accountDelete =>
    unfold ownerWrite deleteAccount
    dsimp only
    split
    · rfl
    · split <;> rfl
  | siteCap cap => exact storeCap_deckCores s i cap
  | siteCapEmpty => unfold ownerWrite emptyCap; dsimp only; split <;> rfl
  | tare v t d => exact storeTare_deckCores s i v t d
  | tareDelete => rfl
  | template name head =>
    unfold ownerWrite storeTemplate
    dsimp only
    split
    · rfl
    · split <;> rfl
  | templateEmpty => unfold ownerWrite emptyTemplate; dsimp only; split <;> rfl
  | line w =>
    unfold ownerWrite storeLine
    dsimp only
    split
    · rfl
    · split <;> rfl
  | route w =>
    unfold ownerWrite storeRoute
    dsimp only
    split
    · split
      · rfl
      · split <;> rfl
    · rfl

theorem setLaneMode_deckCores (l : Lane) (m : LaneMode) : (setLaneMode l m s).deckCores = s.deckCores := by
  have restart : ∀ x : State, (restartInMode l m x).deckCores = x.deckCores := fun x => by
    cases m with
    | closed => rfl
    | manual => rfl
    | auto => exact settle_deckCores x l
  unfold setLaneMode
  split
  · rfl
  · exact (syncUnannounced_deckCores _ l).trans ((restart _).trans ((modParams_deckCores _ l _).trans
      ((modSeq_deckCores _ l _).trans ((stopLane_deckCores _ l).trans (endCapture_deckCores s l _)))))

theorem overstayVisit_deckCores (n : Nat) : (overstayVisit n s).deckCores = s.deckCores := raiseEvent_deckCores _ _ _

theorem setOverstayLimit_deckCores (n : Nat) : (setOverstayLimit n s).deckCores = s.deckCores := by
  have noticed : ∀ (vs : List Nat) (x : State), (vs.foldl (fun s v => overstayVisit v s) x).deckCores = x.deckCores := by
    intro vs
    induction vs with
    | nil => exact fun _ => rfl
    | cons v vs ih => exact fun x => (ih _).trans (overstayVisit_deckCores x v)
  exact noticed _ _

theorem announceBody_deckCores (l : Lane) (a : Option Announcement) :
    (announceBody l a s).2.deckCores = s.deckCores := by
  unfold announceBody
  split
  · rfl
  · split
    · rfl
    · exact joinQueue_deckCores _ l _ _

theorem attachBody_deckCores (l : Lane) (v : Option Text) : (attachBody l v s).2.deckCores = s.deckCores := by
  unfold attachBody
  split
  · rfl
  · split
    · rfl
    · unfold attachVisit
      dsimp only
      split <;> exact joinQueue_deckCores _ l _ _

theorem releaseVisit_deckCores (l : Lane) (n : Nat) : (releaseVisit l n s).2.deckCores = s.deckCores := by
  have ended : (if isHead s l n = true then endCaptureLeaving l .abandoned s else s).deckCores = s.deckCores := by
    split
    · exact endCaptureLeaving_deckCores s l _
    · rfl
  unfold releaseVisit
  dsimp only
  split
  · exact ended
  · split
    · exact (depart_deckCores _ n (removeVisit n) fun _ => rfl).trans ended
    · exact (depart_deckCores _ n (modVisit n _) fun _ => rfl).trans ended
    · exact (depart_deckCores _ n id fun _ => rfl).trans ended
    · exact ended

theorem captureVisit_deckCores (l : Lane) (n : Nat) : (captureVisit l n s).2.deckCores = s.deckCores := by
  unfold captureVisit
  split
  · rfl
  · split
    · rfl
    · split
      · rfl
      · split
        · rfl
        · exact acceptStart_deckCores s l n

theorem manualRaise_deckCores (l : Lane) : (manualRaise l s).2.deckCores = s.deckCores := by
  unfold manualRaise
  split
  · rfl
  · split <;> rfl

theorem manualLower_deckCores (l : Lane) : (manualLower l s).2.deckCores = s.deckCores := by
  unfold manualLower
  split
  · rfl
  · dsimp only
    split <;> rfl

theorem voidVisit_deckCores (n : Nat) : (voidVisit n s).2.deckCores = s.deckCores := by
  have capture : ∀ v : Visit, (voidCapture v s).deckCores = s.deckCores := fun v => by
    unfold voidCapture
    split
    · rfl
    · split
      · exact endCaptureLeaving_deckCores s _ _
      · rfl
  have hold : ∀ (v : Visit) (x : State), (voidHold v x).deckCores = x.deckCores := fun v x => by
    unfold voidHold
    split <;> rfl
  have record : ∀ (v : Visit) (x : State), (voidRecord v x).deckCores = x.deckCores := fun v x => by
    unfold voidRecord
    have removed := (modPort_deckCores (removeVisit v.number (appendEntry (.void v.number (nowStamp x)
      (v.place.map (·.lane))) x)) .office fun y => { y with pendingSet := y.pendingSet ||| Notice.visit.bit }).trans
      ((removeVisit_deckCores _ v.number).trans (appendEntry_deckCores x _))
    dsimp only
    split
    · exact removed
    · exact (modPort_deckCores _ _ _).trans removed
  unfold voidVisit
  split
  · rfl
  · exact (depart_deckCores _ n _ (record _)).trans ((hold _ _).trans (capture _))

theorem acceptZero_deckCores (v : Visit) : (acceptZero v s).deckCores = s.deckCores := by
  have awaited := (awaitTicket_deckCores (modVisit v.number (fun v => { v with net := some 0, negativeNet := true }) s)
    v.number).trans (modVisit_deckCores s v.number _)
  unfold acceptZero
  dsimp only
  split
  · exact awaited
  · exact (handOut_deckCores _ _ _).trans awaited

theorem resolveVisit_deckCores (n : Nat) (c : Option Choice) : (resolveVisit n c s).2.deckCores = s.deckCores := by
  unfold resolveVisit
  split
  · rfl
  · split
    · rfl
    · split
      · rfl
      · split
        · exact voidVisit_deckCores s n
        · exact acceptZero_deckCores s _

theorem archiveUpTo_deckCores (n : Nat) : (archiveUpTo n s).2.deckCores = s.deckCores := by
  unfold archiveUpTo
  split
  · rfl
  · exact drain_deckCores _

theorem setOutput_deckCores (n k : Nat) : (setOutput n k s).2.deckCores = s.deckCores := by
  unfold setOutput
  split
  · rfl
  · split <;> rfl

theorem restartLane_deckCores (l : Lane) : (restartLane s l).deckCores = s.deckCores := by
  have sequencer : ∀ x : State, (restartSequencer l x).deckCores = x.deckCores := fun x => by
    unfold restartSequencer
    split
    · exact settle_deckCores x l
    · rfl
    · rfl
  exact (modPort_deckCores _ _ _).trans ((syncUnannounced_deckCores _ l).trans ((sequencer _).trans
    ((stopLane_deckCores _ l).trans ((closeJob_deckCores _ l _).trans ((closeJob_deckCores _ l _).trans
    (endCapture_deckCores s l _))))))

theorem restartLanes_deckCores : (restartLanes s).deckCores = s.deckCores := by
  have each : ∀ (ls : List Lane) (x : State), (ls.foldl restartLane x).deckCores = x.deckCores := by
    intro ls
    induction ls with
    | nil => exact fun _ => rfl
    | cons l ls ih => exact fun x => (ih _).trans (restartLane_deckCores x l)
  exact each _ _

theorem clearLaneFault_deckCores (l : Lane) : (clearLaneFault l s).2.deckCores = s.deckCores := by
  have report : ∀ (st : BarrierState) (x : State), (reportCleared l st x).deckCores = x.deckCores := fun st x => by
    unfold reportCleared
    split
    · exact settle_deckCores x l
    · rfl
    · split
      · exact reportUp_deckCores x l
      · rfl
  unfold clearLaneFault
  dsimp only
  split
  · rfl
  · split
    · rfl
    · exact report _ _

theorem writeSiteNumber_deckCores (p : PortId) (v : Nat) : (writeSiteNumber p v s).2.deckCores = s.deckCores := by
  unfold writeSiteNumber
  split
  · rfl
  · split
    · rfl
    · exact nvRequest_deckCores _ _

theorem retryStore_deckCores (p : PortId) : (retryStore p s).2.deckCores = s.deckCores := by
  unfold retryStore
  split
  · rfl
  · split
    · rfl
    · exact requestFloorWrite_deckCores _ _

theorem limitActive_deckCores (l : Lane) (x : Limit) : (limitActive l x s).deckCores = s.deckCores := by
  have travel : ∀ (st : BarrierState) (k : EventKind), (endTravel l st k s).deckCores = s.deckCores := fun st k =>
    raiseAt_deckCores _ k l
  unfold limitActive
  dsimp only
  split
  · exact enterFault_deckCores s l
  · split
    · exact (reportUp_deckCores _ l).trans (travel _ _)
    · exact (reportDown_deckCores _ l).trans (travel _ _)
    · rfl

theorem stallLane_deckCores (l : Lane) : (stallLane l s).deckCores = s.deckCores :=
  (enterClosing_deckCores _ l).trans ((raiseLaneOffice_deckCores _ _ l).trans (raiseAt_deckCores _ _ l))

theorem paperGone_deckCores (l : Lane) : (paperGone l s).deckCores = s.deckCores := by
  have gone : (raiseAt .paperOut l (s.modPrinter l fun e => { e with paperOut := true })).deckCores = s.deckCores :=
    raiseAt_deckCores _ _ l
  unfold paperGone
  dsimp only
  split
  · exact (raiseLaneOffice_deckCores _ _ l).trans ((modPrinter_deckCores _ l _).trans gone)
  · exact gone

theorem paperBack_deckCores (l : Lane) : (paperBack l s).deckCores = s.deckCores := by
  unfold paperBack
  dsimp only
  split
  · exact pumpEngine_deckCores _ l
  · rfl

/-! #### The clock -/

theorem monoAdvance_deckCores : (monoAdvance s).deckCores = s.deckCores := by
  unfold monoAdvance
  split <;> rfl

theorem monoTick_deckCores : (monoTick s).deckCores = s.deckCores := by
  unfold monoTick
  split
  · exact monoAdvance_deckCores _
  · rfl

theorem monoAtAdvance_deckCores : (monoAtAdvance s).deckCores = s.deckCores := by
  unfold monoAtAdvance
  split
  · split
    · exact monoAdvance_deckCores s
    · rfl
  · rfl

theorem absorbAdvance_deckCores : (absorbAdvance s).deckCores = s.deckCores := monoAtAdvance_deckCores _

theorem clockEvents_deckCores : (clockEvents s).deckCores = s.deckCores := by
  have minute : (if s.clock.second % 60 = 0 then raiseEvent .minute none s else s).deckCores = s.deckCores := by
    split
    · exact raiseEvent_deckCores s _ _
    · rfl
  unfold clockEvents
  dsimp only
  generalize (if s.clock.second % 60 = 0 then raiseEvent .minute none s else s) = x at minute ⊢
  split
  · split
    · exact (rolloverEvent_deckCores x).trans minute
    · exact minute
  · rfl

theorem countSecond_deckCores : (countSecond s).deckCores = s.deckCores := by
  have counted := monoAtAdvance_deckCores { s with clock := s.clock.advance }
  unfold countSecond
  dsimp only
  split
  · exact (clockEvents_deckCores _).trans counted
  · exact counted

end DeckCores

end Sys2Proof.Machine


/-! ### A predicate that no port's contents bear on, through the exchange of a command (R167, R168) -/

namespace Sys2Proof.Machine
open Sys2Proof

/-- A predicate that no change of a port makes false. -/
def PortBlind (P : State → Prop) : Prop := ∀ (s : State) (p : PortId) (f : Port → Port), P s → P (s.modPort p f)

section Keeps

variable {P : State → Prop} {s : State}

theorem whenRunning_keeps {f : State → State} (hs : P s) (hf : P (f s)) : ∀ t, whenRunning s f = .next t → P t := by
  rintro t ⟨⟩
  split
  · exact hf
  · exact hs

theorem whenDue_keeps {late : Nat} {f g : State → State} (hs : P s) (hf : P (f s)) (hg : P (g s)) :
    ∀ t, whenDue late f g s = .next t → P t := by
  unfold whenDue
  split
  · rintro t ⟨⟩; exact hf
  · exact whenRunning_keeps hs hg

theorem exchange_keeps (hP : PortBlind P) {p : PortId} {f : State → State} (hf : ∀ x, P x → P (f x)) (hs : P s) :
    P (exchange p f s) := by
  have begun : P (beginExchange p s) := hP _ _ _ hs
  unfold exchange
  dsimp only
  split
  · unfold formJournalReply
    exact hP _ _ _ begun
  · exact hf _ begun

theorem takeWithData_keeps (hP : PortBlind P) {p : PortId} {c : Byte} {b served : Bool}
    {body : State → (Result × ReplyData) × State} (hb : ∀ x, P x → P (body x).2) (hs : P s) :
    P (takeWithData p c b served body s) := by
  unfold takeWithData
  split
  · exact hP _ _ _ hs
  · exact hP _ _ _ (hb _ hs)

theorem command_keeps (hP : PortBlind P) {p : PortId} {c : Byte} {b : Bool} {body : State → Result × State}
    (hb : ∀ x, P x → P (body x).2) (hs : P s) : ∀ t, command p c b body s = .next t → P t :=
  whenRunning_keeps hs (exchange_keeps hP (fun _ => takeWithData_keeps hP hb) hs)

theorem servedCommand_keeps (hP : PortBlind P) {p : PortId} {c : Byte} {b : Bool} {body : State → Result × State}
    (hb : ∀ x, P x → P (body x).2) (hs : P s) : ∀ t, servedCommand p c b body s = .next t → P t :=
  whenRunning_keeps hs (exchange_keeps hP (fun _ => takeWithData_keeps hP hb) hs)

theorem laneCommand_keeps (hP : PortBlind P) {p : PortId} {c b : Byte} {body : Lane → State → Result × State}
    (hb : ∀ l x, P x → P (body l x).2) (hs : P s) : ∀ t, laneCommand p c b body s = .next t → P t :=
  command_keeps hP (fun x hx => by split; exacts [hx, hb _ x hx]) hs

theorem calCommand_keeps (hP : PortBlind P) {p : PortId} {c b : Byte} {body : Deck → State → Result × State}
    (hb : ∀ d x, P x → P (body d x).2) (hs : P s) : ∀ t, calCommand p c b body s = .next t → P t :=
  command_keeps hP (fun x hx => by split; exacts [hx, hb _ x hx]) hs

theorem inSession_keeps {body : CalRecord → Deck → State → Result × State} (hb : ∀ r d x, P x → P (body r d x).2)
    (d : Deck) (x : State) (hx : P x) : P (inSession body d x).2 := by
  unfold inSession
  split
  · exact hb _ _ _ hx
  all_goals exact hx

theorem readReply_keeps (hP : PortBlind P) {p : PortId} {r : Reply} {f : State → Reply × Option CursorMove} (hs : P s) :
    P (readReply p r f s) := by
  unfold readReply
  split
  · exact hP _ _ _ hs
  · exact hP _ _ _ hs

theorem writeRecordExchange_keeps (hP : PortBlind P) (hw : ∀ i w x, P x → P (ownerWrite i w x).2) {p : PortId}
    {framed : Port → Bool} {w : TableId → Option TableWrite} (hs : P s) :
    ∀ t, writeRecordExchange p framed w s = .next t → P t := by
  have atCursor : ∀ x, P x → P (writeAtCursor p w x).2 := fun x hx => by
    unfold writeAtCursor
    split
    · exact hx
    · split
      · exact hx
      · dsimp only
        split
        · exact hP _ _ _ hx
        · exact hP _ _ _ (hw _ _ _ hx)
  refine whenRunning_keeps hs (exchange_keeps hP (fun x hx => ?_) hs)
  split
  · exact takeWithData_keeps hP atCursor hx
  · exact hP _ _ _ hx

end Keeps

/-! ### What each operation on a deck keeps (R2, R3, R8, R11) -/

section DeckOps

variable {u : DeckUnit}

/-- An invalid weight is as `DeckOk` asks, whatever the deck was before. -/
theorem deckOk_invalid (hsum : u.sum = sumOf u.window) (hlink : u.linkLost = true → u.linkTimer.running = false) :
    DeckOk u.invalid :=
  ⟨hsum, fun _ => ⟨rfl, rfl, rfl, rfl, rfl, rfl⟩, fun h => ⟨rfl, hlink h⟩, nofun⟩

theorem DeckOk.setZero (h : DeckOk u) (z : Int) : DeckOk (u.setZero z) := by
  obtain ⟨hsum, hinvalid, hlink, hrange⟩ := h
  refine ⟨hsum, fun hv => ?_, hlink, hrange⟩
  obtain ⟨hgross, hstable, hover, hunder, hcentre, hhistory⟩ := hinvalid hv
  exact ⟨hgross, hstable, hover, hunder, hcentre, by simp [DeckUnit.setZero, hhistory]⟩

theorem DeckOk.track (h : DeckOk u) (r : CalRecord) : DeckOk (u.track r) := by
  unfold DeckUnit.track
  dsimp only
  split
  · exact h.setZero _
  · exact h

/-- The two range flags of R11 exclude each other: one asks for a weight above Max, the other for one below zero. -/
theorem weighStages_range (r : CalRecord) (u : DeckUnit) :
    (weighStages r u).overload = true → (weighStages r u).underload = false := by
  simp only [weighStages, decide_eq_true_eq, decide_eq_false_iff_not]
  omega

/-- After the eight stages a deck whose link is not lost is as `DeckOk` asks, whatever it was before. -/
theorem eightStages_deckOk (r : CalRecord) (c : Int) (h : u.linkLost = false) : DeckOk (eightStages r c u) := by
  unfold eightStages filterStage
  dsimp only
  split
  · exact ⟨rfl, nofun, fun hl => absurd (hl.symm.trans h) nofun, weighStages_range r _⟩
  · exact deckOk_invalid rfl fun hl => absurd (hl.symm.trans h) nofun

theorem DeckOk.linkRecover (h : DeckOk u) (t : Timer) (ph : DeckPhase) :
    DeckOk { u with linkLost := false, linkTimer := t, phase := ph } := by
  obtain ⟨hsum, hinvalid, -, hrange⟩ := h
  exact ⟨hsum, hinvalid, nofun, hrange⟩

theorem linkFault_deckOk (n : Nat) (u : DeckUnit) : DeckOk (u.linkFault n) :=
  ⟨rfl, fun _ => ⟨rfl, rfl, rfl, rfl, rfl, rfl⟩, fun _ => ⟨rfl, rfl⟩, nofun⟩

theorem DeckOk.leaveCalibrating (h : DeckOk u) : DeckOk u.leaveCalibrating := by
  obtain ⟨-, -, hlink, -⟩ := h
  exact ⟨rfl, fun _ => ⟨rfl, rfl, rfl, rfl, rfl, rfl⟩, fun hl => ⟨rfl, (hlink hl).2⟩, nofun⟩

theorem DeckOk.applyRecord (h : DeckOk u) (old new : CalRecord) : DeckOk (u.applyRecord old new) := by
  have emptied : DeckOk (if new.n ≠ old.n then { u.invalid with window := [], sum := 0 } else u) := by
    obtain ⟨-, -, hlink, -⟩ := id h
    split
    · exact ⟨rfl, fun _ => ⟨rfl, rfl, rfl, rfl, rfl, rfl⟩, fun hl => ⟨rfl, (hlink hl).2⟩, nofun⟩
    · exact h
  unfold DeckUnit.applyRecord
  dsimp only
  generalize (if new.n ≠ old.n then { u.invalid with window := [], sum := 0 } else u) = v at emptied ⊢
  split
  · obtain ⟨hsum, hinvalid, hlink, hrange⟩ := emptied
    refine ⟨hsum, fun hv => ?_, hlink, hrange⟩
    obtain ⟨hgross, -, hover, hunder, hcentre, -⟩ := hinvalid hv
    exact ⟨hgross, rfl, hover, hunder, hcentre, rfl⟩
  · exact emptied

theorem warm_deckOk (s : State) (d : Deck) (r : CalRecord) (u : DeckUnit) : DeckOk (u.warm s d r) :=
  ⟨rfl, fun _ => ⟨rfl, rfl, rfl, rfl, rfl, rfl⟩, nofun, nofun⟩

theorem cold_deckOk : DeckOk DeckUnit.cold := ⟨rfl, fun _ => ⟨rfl, rfl, rfl, rfl, rfl, rfl⟩, nofun, nofun⟩

end DeckOps

/-! ### Every step keeps the decks consistent -/

section DecksOk

variable {s t : State}

/-- The invariant reads the deck cores alone. -/
theorem DecksOk.of_cores (hs : DecksOk s) (h : t.deckCores = s.deckCores) : DecksOk t := fun d => by
  have shown : ∀ u : DeckUnit, DeckOk u.outsideRoutes ↔ DeckOk u := fun _ => Iff.rfl
  rw [← shown, deckCores_get h d]
  exact hs d

theorem DecksOk.modDeck (hs : DecksOk s) {d : Deck} {f : DeckUnit → DeckUnit} (hf : DeckOk (f (s.deck d))) :
    DecksOk (s.modDeck d f) := fun k => by
  by_cases hk : k = d
  · subst hk; rw [modDeck_deck]; exact hf
  · rw [modDeck_deck_of_ne s f hk]; exact hs k

theorem portBlind_decksOk : PortBlind DecksOk := fun _ _ _ h => h

theorem DecksOk.trackStep (hs : DecksOk s) (d : Deck) : DecksOk (trackStep d s) := by
  unfold Machine.trackStep
  split
  · exact hs.modDeck ((hs d).track _)
  · exact hs

theorem DecksOk.sampleStep (hs : DecksOk s) (d : Deck) (c : BitVec 24) : DecksOk (sampleStep d c s) := by
  have recovered : DecksOk (linkRecover d (Machine.trackStep d s)) :=
    (hs.trackStep d).modDeck ((hs.trackStep d d).linkRecover _ _)
  have linked : ((linkRecover d (Machine.trackStep d s)).deck d).linkLost = false := by simp [linkRecover]
  unfold Machine.sampleStep
  dsimp only
  generalize linkRecover d (Machine.trackStep d s) = x at recovered linked ⊢
  have weighed : DecksOk (x.modDeck d (eightStages (recordInUse x d) c.toInt)) :=
    recovered.modDeck (eightStages_deckOk _ _ linked)
  have tested := weighed.of_cores ((captureTests_deckCores _ d (x.deck d)
    ((x.modDeck d (eightStages (recordInUse x d) c.toInt)).deck d)).trans (stageEvents_deckCores _ d (x.deck d)))
  exact tested.modDeck (tested d)

theorem DecksOk.linkFault (hs : DecksOk s) (d : Deck) : DecksOk (linkFault d s) := by
  have faulted : DecksOk ((Machine.trackStep d s).modDeck d
      (DeckUnit.linkFault (s.waiting (.linkSilenceTimeout d)))) :=
    (hs.trackStep d).modDeck (linkFault_deckOk _ _)
  exact faulted.of_cores ((raiseLaneOffice_deckCores _ _ d).trans ((raiseAt_deckCores _ _ d).trans
    (endCapture_deckCores _ d _)))

theorem DecksOk.zeroDeck (hs : DecksOk s) (d : Deck) : DecksOk (zeroDeck d s).2 := by
  unfold Machine.zeroDeck
  dsimp only
  split
  · exact hs.trackStep d
  · exact (hs.trackStep d).modDeck ((hs.trackStep d d).setZero _)

theorem DecksOk.endSession (hs : DecksOk s) (d : Deck) : DecksOk (endSession d s) :=
  DecksOk.modDeck (s := setWorking d none s) hs (hs d).leaveCalibrating

theorem DecksOk.abandonIdle (hs : DecksOk s) (d : Deck) : DecksOk (abandonIdle s d) := by
  unfold Machine.abandonIdle
  split
  · exact (hs.endSession d).of_cores (raiseLaneOffice_deckCores _ _ d)
  · exact hs

theorem DecksOk.abandonIdles (ds : List Deck) (hs : DecksOk s) : DecksOk (ds.foldl Machine.abandonIdle s) := by
  induction ds generalizing s with
  | nil => exact hs
  | cons d ds ih => exact ih (hs.abandonIdle d)

theorem DecksOk.calBegin (hs : DecksOk s) (d : Deck) : DecksOk (calBegin d s).2 := by
  have tracked := hs.trackStep d
  unfold Machine.calBegin
  dsimp only
  split
  · exact tracked
  · split
    · exact tracked
    · split
      · exact tracked
      · split
        · exact tracked
        · exact DecksOk.modDeck (s := setWorking d _ _) tracked (tracked d)

theorem DecksOk.calSet (hs : DecksOk s) (f : CalFields) (r : CalRecord) (d : Deck) : DecksOk (calSet f r d s).2 := by
  unfold Machine.calSet
  split
  · exact hs
  · split
    · exact DecksOk.modDeck (s := setWorking d _ s) hs ((hs d).applyRecord _ _)
    · exact hs

theorem calZero_deckCores (r : CalRecord) (d : Deck) (s : State) : (calZero r d s).2.deckCores = s.deckCores := by
  unfold calZero
  dsimp only
  split <;> rfl

theorem calSpan_deckCores (n : Nat) (r : CalRecord) (d : Deck) (s : State) :
    (calSpan n r d s).2.deckCores = s.deckCores := by
  unfold calSpan
  dsimp only
  split
  · rfl
  · split
    · rfl
    · split
      · rfl
      · split <;> rfl

theorem DecksOk.calEnd (hs : DecksOk s) (p : PortId) (r : CalRecord) (d : Deck) : DecksOk (calEnd p r d s).2 := by
  unfold Machine.calEnd
  split
  · exact hs.endSession d
  · split
    · exact hs
    · split
      · exact hs
      · exact hs.of_cores (nvRequest_deckCores _ _)

theorem DecksOk.calStored (hs : DecksOk s) (d : Deck) (r : CalRecord) (c : StagedCal) : DecksOk (calStored d r c s) := by
  have zeroed := DecksOk.modDeck (s := s.setCal { s.cal with stored := s.cal.stored.put d r, audit := c.audit }) hs
    (f := fun u => u.setZero 0) ((hs d).setZero 0)
  unfold Machine.calStored
  dsimp only
  refine DecksOk.of_cores ?_ (officeWriteEnd_deckCores _ _ _)
  refine DecksOk.of_cores (DecksOk.endSession ?_ d) (raiseLaneOffice_deckCores _ _ d)
  exact zeroed.of_cores (appendReserved_deckCores _ _)

theorem DecksOk.calNotStored (hs : DecksOk s) (d : Deck) : DecksOk (calNotStored d s) := by
  unfold Machine.calNotStored
  dsimp only
  split
  · exact hs
  · exact DecksOk.endSession hs d

theorem DecksOk.calWriteEnd (hs : DecksOk s) (ok : Bool) : DecksOk (calWriteEnd ok s) := by
  have served : ∀ (b : Bool) (x : State), DecksOk x → DecksOk (nvServe (afterCalWrite b x)) := fun b x hx => by
    refine hx.of_cores ((nvServe_deckCores _).trans ?_)
    unfold afterCalWrite
    dsimp only
    split
    · exact (tryHead_deckCores _).trans (drain_deckCores x)
    · exact drain_deckCores x
  have ended : DecksOk (nvEnd ok s) := hs.of_cores (nvEnd_deckCores s ok)
  unfold Machine.calWriteEnd
  split
  · dsimp only
    split
    · exact served _ _ (ended.calStored _ _ _)
    · exact served _ _ (ended.calNotStored _)
  · exact hs

theorem DecksOk.writeParam (hs : DecksOk s) (c i : Byte) (v : Nat) : DecksOk (writeParam c i v s).2 := by
  have written : ∀ q : Param, DecksOk (q.write v s) := fun q => by
    cases q with
    | threshold d => exact hs.modDeck (hs d)
    | captureTimeout d => exact hs.modDeck (hs d)
    | overstayLimit => exact hs.of_cores (setOverstayLimit_deckCores s v)
    | laneMode l => exact hs.of_cores (setLaneMode_deckCores s l _)
    | _ => exact hs
  unfold Machine.writeParam
  split
  · exact hs
  · split
    · exact hs
    · exact written _

/-! #### Starts -/

theorem startLane_deckCores (s : State) (l : Lane) : (startLane s l).deckCores = s.deckCores := by
  have barrier : (if (s.lane l).barrier.limitUp && (s.lane l).barrier.limitDown then enterFault l s
      else lowerUnlessDown l s).deckCores = s.deckCores := by
    split
    · exact enterFault_deckCores s l
    · exact deckCores_of_outsideYard (lowerUnlessDown_outsideYard s l)
  unfold startLane
  dsimp only
  generalize (if (s.lane l).barrier.limitUp && (s.lane l).barrier.limitDown then enterFault l s
    else lowerUnlessDown l s) = x at barrier ⊢
  unfold restartInMode
  split
  · exact barrier
  · exact barrier
  · exact (settle_deckCores x l).trans barrier

theorem startLanes_deckCores (ls : List Lane) (s : State) : (ls.foldl startLane s).deckCores = s.deckCores := by
  induction ls generalizing s with
  | nil => rfl
  | cons l ls ih => exact (ih _).trans (startLane_deckCores s l)

theorem startNotices_deckCores (x : CellsReadable) (s : State) : (startNotices x s).deckCores = s.deckCores := by
  have raised : ∀ (ps : List PortId) (y : State),
      (ps.foldl (fun s p => raiseNotice .restart p s) y).deckCores = y.deckCores := by
    intro ps
    induction ps with
    | nil => exact fun _ => rfl
    | cons p ps ih => exact fun y => (ih _).trans (modPort_deckCores y _ _)
  unfold startNotices
  dsimp only
  split
  · exact raised _ s
  · exact (modPort_deckCores _ _ _).trans (raised _ s)

theorem warmRestartRecord_deckCores (s : State) : (warmRestartRecord s).deckCores = s.deckCores := by
  unfold warmRestartRecord
  split
  · rfl
  · dsimp only
    split
    · exact appendEntry_deckCores s _
    · rfl

theorem DecksOk.resolveStaged (hs : DecksOk s) : DecksOk (resolveStaged s) := by
  unfold Machine.resolveStaged
  split
  · exact hs
  · dsimp only
    split
    · rename_i c _ _
      have appended := hs.of_cores (appendReserved_deckCores s (.calibration c (nowStamp s)))
      exact appended.modDeck (d := c.deck) (f := fun u => { u with zs := 0 }) (appended c.deck)
    · exact hs

theorem warmStart_decksOk (x : CellsReadable) (s : State) : DecksOk (warmStart x s) := by
  have values : DecksOk (warmValues x s) := fun d => by
    have read : (warmValues x s).deck d = (s.deck d).warm s d ((startCal s x).stored.get d) := Four.get_map _ _ _
    rw [read]
    exact warm_deckOk _ _ _ _
  have restarted : DecksOk (restartLanesAtStart (warmValues x s)) := values.of_cores (startLanes_deckCores _ _)
  exact restarted.resolveStaged.of_cores ((startNotices_deckCores x _).trans ((drain_deckCores _).trans
    (warmRestartRecord_deckCores _)))

theorem coldStart_decksOk (x : CellsReadable) (s : State) : DecksOk (coldStart x s) := by
  have values : DecksOk (coldValues x s) := fun d => by
    have read : (coldValues x s).deck d = DeckUnit.cold := Four.get_all _ _
    rw [read]
    exact cold_deckOk
  exact values.of_cores ((startNotices_deckCores x _).trans ((appendEntry_deckCores _ _).trans
    (startLanes_deckCores Idx.all _)))

theorem DecksOk.startPart (hs : DecksOk s) (x : StartInputs) : DecksOk (startPart x s) := by
  have stopped : DecksOk (if s.power then losePower x.writeLanded s else s) := by
    split <;> exact hs
  unfold Machine.startPart
  dsimp only
  generalize (if s.power then losePower x.writeLanded s else s) = y at stopped ⊢
  split
  · unfold startCutShort
    split
    · exact stopped
    · exact coldStart_decksOk x.cells y
  · split
    · exact warmStart_decksOk x.cells y
    · exact coldStart_decksOk x.cells y

/-! #### The commands -/

theorem writeRecordExchange_decksOk (p : PortId) (framed : Port → Bool) (w : TableId → Option TableWrite)
    (hs : DecksOk s) : ∀ t, writeRecordExchange p framed w s = .next t → DecksOk t :=
  writeRecordExchange_keeps portBlind_decksOk (fun i w x hx => hx.of_cores (ownerWrite_deckCores x i w)) hs

theorem writeTable_decksOk (p : PortId) (t : TableId) (w : TableWrite) (hs : DecksOk s) :
    ∀ u, writeTable p t w s = .next u → DecksOk u := writeRecordExchange_decksOk _ _ _ hs

/-- A command whose body leaves the deck cores alone keeps the invariant. -/
theorem command_decksOk_of_cores {p : PortId} {c : Byte} {b : Bool} {body : State → Result × State}
    (hb : ∀ x, (body x).2.deckCores = x.deckCores) (hs : DecksOk s) : ∀ t, command p c b body s = .next t → DecksOk t :=
  command_keeps portBlind_decksOk (fun x hx => hx.of_cores (hb x)) hs

theorem laneCommand_decksOk_of_cores {p : PortId} {c b : Byte} {body : Lane → State → Result × State}
    (hb : ∀ l x, (body l x).2.deckCores = x.deckCores) (hs : DecksOk s) :
    ∀ t, laneCommand p c b body s = .next t → DecksOk t :=
  laneCommand_keeps portBlind_decksOk (fun l x hx => hx.of_cores (hb l x)) hs

/-- An event of a running part that leaves the deck cores alone keeps the invariant. -/
theorem whenRunning_decksOk_of_cores {f : State → State} (hf : (f s).deckCores = s.deckCores) (hs : DecksOk s) :
    ∀ t, whenRunning s f = .next t → DecksOk t := whenRunning_keeps hs (hs.of_cores hf)

/-- Every command keeps the decks consistent. -/
theorem exec_keeps_decksOk (i : Instr) (hs : DecksOk s) : ∀ t, exec i s = .next t → DecksOk t := by
  have blind := portBlind_decksOk
  cases i with
  | readStatus p => exact whenRunning_keeps hs (exchange_keeps blind (fun _ hx => hx) hs)
  | clearNotices p set =>
    exact command_decksOk_of_cores (fun x => by split <;> rfl) hs
  | setNoticeEnable p set =>
    exact command_decksOk_of_cores (fun x => by split <;> rfl) hs
  | readParameter p c i => exact whenRunning_keeps hs (exchange_keeps blind (fun _ hx => readReply_keeps blind hx) hs)
  | writeParameter p c i v => exact command_keeps blind (fun _ hx => hx.writeParam _ _ _) hs
  | writeLaneMode p i v => exact command_keeps blind (fun _ hx => hx.writeParam _ _ _) hs
  | writeLanePortEnable p i v => exact command_keeps blind (fun _ hx => hx.writeParam _ _ _) hs
  | selectTable p t i =>
    refine servedCommand_keeps blind (fun x hx => ?_) hs
    unfold selectTable
    split
    · exact hx
    · split
      · exact hx
      · split <;> exact hx
  | readRecord p => exact whenRunning_keeps hs (exchange_keeps blind (fun _ hx => readReply_keeps blind hx) hs)
  | writeRecord p args =>
    exact writeRecordExchange_decksOk p (fun x => writeRecordFramed x args.length) (fun t => tableWriteOf t args) hs
  | writeCategory p name reserve => exact writeTable_decksOk p .categories (.category name reserve.toNat) hs
  | removeCategory p => exact writeTable_decksOk p .categories .categoryRemove hs
  | writeAccount p w => exact writeTable_decksOk p .accounts (.account w) hs
  | deleteAccount p => exact writeTable_decksOk p .accounts .accountDelete hs
  | writeSiteCap p cap => exact writeTable_decksOk p .siteCaps (.siteCap cap.toNat) hs
  | emptySiteCap p => exact writeTable_decksOk p .siteCaps .siteCapEmpty hs
  | writeTare p v t d => exact writeTable_decksOk p .tares (.tare v t.toNat d.toNat) hs
  | deleteTare p => exact writeTable_decksOk p .tares .tareDelete hs
  | writeTemplate p name head => exact writeTable_decksOk p .templates (.template name head.toNat) hs
  | emptyTemplate p => exact writeTable_decksOk p .templates .templateEmpty hs
  | writeLine p w => exact writeTable_decksOk p .lines (.line w) hs
  | writeRoute p w => exact writeTable_decksOk p .routes (.route w) hs
  | readWeight p d => exact whenRunning_keeps hs (exchange_keeps blind (fun _ hx => readReply_keeps blind hx) hs)
  | followJournal p => exact servedCommand_keeps blind (fun _ hx => hx) hs
  | leaveFollow p =>
    unfold exec execLeaveFollow
    refine whenRunning_keeps hs ?_
    dsimp only
    split
    · exact hs
    · exact takeWithData_keeps blind (s := beginExchange p s) (fun _ hx => hx) hs
  | followExchange p =>
    unfold exec execFollowExchange
    refine whenRunning_keeps hs ?_
    split <;> exact hs
  | readJournal p => exact whenRunning_keeps hs (exchange_keeps blind (fun _ hx => readReply_keeps blind hx) hs)
  | readCursorMove p =>
    unfold exec execReadCursorMove
    exact whenRunning_keeps hs hs
  | framingDiscard p c a r =>
    unfold exec execFramingDiscard
    refine whenRunning_keeps hs ?_
    split <;> exact hs
  | unknownCommand p c =>
    unfold exec execUnknownCommand
    refine whenRunning_keeps hs ?_
    split
    · exact exchange_keeps blind (fun _ hx => hx) hs
    · exact hs
  | announce p b v a c k w =>
    refine whenRunning_keeps hs (exchange_keeps blind (fun x hx => takeWithData_keeps blind (fun y hy => ?_) hx) hs)
    split
    · exact hy
    · exact hy.of_cores (announceBody_deckCores y _ _)
  | attach p b v =>
    refine whenRunning_keeps hs (exchange_keeps blind (fun x hx => takeWithData_keeps blind (fun y hy => ?_) hx) hs)
    split
    · exact hy
    · exact hy.of_cores (attachBody_deckCores y _ _)
  | release p b ref =>
    exact laneCommand_decksOk_of_cores (fun l x => by split; exacts [rfl, releaseVisit_deckCores x l _]) hs
  | capture p b ref =>
    exact laneCommand_decksOk_of_cores (fun l x => by split; exacts [rfl, captureVisit_deckCores x l _]) hs
  | manualRaise p b => exact laneCommand_decksOk_of_cores (fun l x => manualRaise_deckCores x l) hs
  | manualLower p b => exact laneCommand_decksOk_of_cores (fun l x => manualLower_deckCores x l) hs
  | reprintLast p b =>
    refine laneCommand_decksOk_of_cores (fun l x => ?_) hs
    unfold reprintLast
    split
    · rfl
    · exact reprint_deckCores x l _
  | reprintTicket p n b =>
    exact command_decksOk_of_cores (fun x => by split; exacts [rfl, reprint_deckCores x _ _]) hs
  | abortPrint p b =>
    refine laneCommand_decksOk_of_cores (fun l x => ?_) hs
    unfold abortPrint
    split
    · rfl
    · exact endJob_deckCores x l _
  | zeroDeck p b =>
    exact command_keeps blind (fun x hx => by split; exacts [hx, hx.zeroDeck _]) hs
  | voidVisit p n => exact command_decksOk_of_cores (fun x => voidVisit_deckCores x _) hs
  | resolve p n c => exact command_decksOk_of_cores (fun x => resolveVisit_deckCores x _ _) hs
  | archiveUpTo p n => exact command_decksOk_of_cores (fun x => archiveUpTo_deckCores x _) hs
  | setClock p d n =>
    exact command_decksOk_of_cores (fun x => by unfold setClock; split <;> rfl) hs
  | forceRollover p => exact command_decksOk_of_cores (fun x => rolloverEvent_deckCores x) hs
  | setOutput p n k => exact command_decksOk_of_cores (fun x => setOutput_deckCores x _ _) hs
  | restartLanes p => exact command_decksOk_of_cores (fun x => restartLanes_deckCores x) hs
  | clearLaneFault p b =>
    exact command_decksOk_of_cores (fun x => by split; exacts [rfl, clearLaneFault_deckCores x _]) hs
  | calBegin p b => exact calCommand_keeps blind (fun d _ hx => hx.calBegin d) hs
  | calSet p b f => exact calCommand_keeps blind (inSession_keeps fun r d _ hx => hx.calSet f r d) hs
  | calZero p b =>
    exact calCommand_keeps blind (inSession_keeps fun r d x hx => hx.of_cores (calZero_deckCores r d x)) hs
  | calSpan p b n =>
    exact calCommand_keeps blind (inSession_keeps fun r d x hx => hx.of_cores (calSpan_deckCores _ r d x)) hs
  | calEnd p b => exact calCommand_keeps blind (inSession_keeps fun r d _ hx => hx.calEnd p r d) hs
  | calAbandon p b => exact calCommand_keeps blind (inSession_keeps fun _ d _ hx => hx.endSession d) hs
  | lockCalibration p =>
    refine command_keeps blind (fun x hx => ?_) hs
    dsimp only
    exact DecksOk.abandonIdles (s := { x with cal := { x.cal with lock := .lockedUntilPower } }) Idx.all hx
  | writeSiteNumber p n => exact command_decksOk_of_cores (fun x => writeSiteNumber_deckCores x _ _) hs
  | retryStore p => exact command_decksOk_of_cores (fun x => retryStore_deckCores x _) hs
  | sampleOk d c => exact whenRunning_keeps hs (hs.sampleStep d c)
  | sampleCellError d c =>
    unfold exec execSampleCellError
    refine whenRunning_keeps hs ?_
    split
    exacts [hs, hs.linkFault d]
  | linkSilenceTimeout d =>
    unfold exec execLinkSilenceTimeout
    refine whenDue_keeps hs (hs.modDeck (hs d)) ?_
    split
    exacts [hs.linkFault d, hs]
  | captureTimeout d =>
    unfold exec execCaptureTimeout
    exact whenDue_keeps hs (hs.modDeck (hs d)) (hs.of_cores (endCapture_deckCores s d _))
  | zeroTrackingStep d => exact whenRunning_keeps hs (hs.trackStep d)
  | ticketIssue => exact whenRunning_decksOk_of_cores (issueStep_deckCores s) hs
  | floorWriteEnd ok => exact whenRunning_decksOk_of_cores (floorWriteEnd_deckCores s ok) hs
  | calWriteEnd ok => exact whenRunning_keeps hs (hs.calWriteEnd ok)
  | siteNumberWriteEnd ok => exact whenRunning_decksOk_of_cores (siteWriteEnd_deckCores s ok) hs
  | clockAdvance =>
    rintro t ⟨⟩
    split
    · exact hs.of_cores (absorbAdvance_deckCores s)
    · exact hs.of_cores (countSecond_deckCores s)
  | overstay n =>
    unfold exec execOverstay
    refine whenRunning_decksOk_of_cores ?_ hs
    split
    · rfl
    · split
      · exact overstayVisit_deckCores s _
      · rfl
  | loopFilterChange l b =>
    unfold exec execLoopFilterChange
    refine whenRunning_decksOk_of_cores ?_ hs
    split
    exacts [rfl, loopChange_deckCores s l b]
  | beamFilterChange l b x =>
    unfold exec execBeamFilterChange
    exact whenRunning_keeps hs hs
  | barrierLimitChange l x a =>
    show ∀ t, execBarrierLimitChange l x a s = .next t → DecksOk t
    unfold execBarrierLimitChange
    split
    · rintro t ⟨⟩; exact hs
    · rintro t ⟨⟩
      split
      · exact hs.of_cores (limitActive_deckCores _ l x)
      · exact hs
  | travelTimeout l =>
    unfold exec execTravelTimeout
    refine whenDue_keeps hs hs ?_
    split
    exacts [hs.of_cores (enterFault_deckCores s l), hs]
  | passTimeout l =>
    unfold exec execPassTimeout
    refine whenDue_keeps hs hs ?_
    split
    · split
      · exact hs
      · exact hs.of_cores (stallLane_deckCores s l)
    · exact hs
  | unannouncedOccupancyTimeout l =>
    unfold exec execUnannouncedOccupancyTimeout
    refine whenDue_keeps hs hs ?_
    split <;> exact hs
  | metrologySwitchChange b =>
    unfold exec execMetrologySwitchChange
    refine whenRunning_keeps hs ?_
    split
    · exact hs
    · split
      · exact hs
      · exact DecksOk.abandonIdles (s := { s with cal := { s.cal with switchClosed := b } }) Idx.all hs
  | printByteSent l =>
    unfold exec execPrintByteSent
    refine whenRunning_decksOk_of_cores ?_ hs
    split
    exacts [pumpEngine_deckCores _ l, rfl]
  | printerReadyChange l b => rintro t ⟨⟩; exact hs
  | paperOutChange l b =>
    unfold exec execPaperOutChange
    refine whenRunning_decksOk_of_cores ?_ hs
    split
    · rfl
    · split
      exacts [paperGone_deckCores s l, paperBack_deckCores s l]
  | pauseTimeout l =>
    unfold exec execPauseTimeout
    refine whenDue_keeps hs hs ?_
    split
    exacts [hs.of_cores (endJob_deckCores s l _), hs]
  | inputFilterChange n b =>
    unfold exec execInputFilterChange
    refine whenRunning_decksOk_of_cores ?_ hs
    split
    exacts [raiseEvent_deckCores _ _ _, rfl]
  | outputPulseExpiry n =>
    unfold exec execOutputPulseExpiry
    refine whenDue_keeps hs hs ?_
    split <;> exact hs
  | powerOn x => rintro t ⟨⟩; exact hs.startPart x
  | externalReset x => rintro t ⟨⟩; exact hs.startPart x
  | powerLoss b => exact whenRunning_keeps hs hs

/-- Settles O6: the invariant reads nothing of the queue, so a step keeps it as its command does; time alone touches no
deck. -/
theorem stepKeepsDecksConsistent : Obligations.StepKeepsDecksConsistent := by
  intro s t hs h
  unfold step at h
  split at h
  · cases h
    exact hs.of_cores (monoTick_deckCores s)
  · rename_i rest _
    have queued : DecksOk { s with pending := rest } := hs
    exact exec_keeps_decksOk _ queued t h

end DecksOk

end Sys2Proof.Machine


/-! ### Rounding (R9, R10) -/

namespace Sys2Proof.Machine
open Sys2Proof

section Rounding

/-- The magnitude that `roundDiv` gives `p / q`. -/
def roundMagnitude (p : Int) (q : Nat) : Nat := (2 * p.natAbs + q) / (2 * q)

/-- The rounded multiple of `q` is that magnitude's, with the sign of `p`. -/
theorem roundDiv_mul (p : Int) (q : Nat) :
    roundDiv p q * q = if p < 0 then -((roundMagnitude p q * q : Nat) : Int) else (roundMagnitude p q * q : Nat) := by
  unfold roundDiv roundMagnitude
  dsimp only
  split
  · rw [Int.neg_mul, Int.natCast_mul]
  · rw [Int.natCast_mul]

/-- Twice the rounded multiple of `q` lies from `q` below to `q` above twice `p`, the lower end left out. -/
theorem roundMagnitude_bounds (p : Int) {q : Nat} (hq : 0 < q) :
    2 * (roundMagnitude p q * q) ≤ 2 * p.natAbs + q ∧ 2 * p.natAbs < 2 * (roundMagnitude p q * q) + q := by
  have hdiv := Nat.div_add_mod (2 * p.natAbs + q) (2 * q)
  have hmod := Nat.mod_lt (2 * p.natAbs + q) (show 0 < 2 * q by omega)
  have hmul : 2 * q * roundMagnitude p q = 2 * (roundMagnitude p q * q) := by ring
  rw [← roundMagnitude, hmul] at hdiv
  omega

/-- `roundDiv` rounds to the nearest multiple. -/
theorem roundDiv_nearest (p : Int) {q : Nat} (hq : 0 < q) : 2 * (roundDiv p q * q - p).natAbs ≤ q := by
  obtain ⟨hlow, hhigh⟩ := roundMagnitude_bounds p hq
  rw [roundDiv_mul]
  generalize roundMagnitude p q * q = x at *
  split <;> omega

/-- A half goes away from zero. -/
theorem roundDiv_half (p : Int) {q : Nat} (hq : 0 < q) (h : 2 * (roundDiv p q * q - p).natAbs = q) :
    p.natAbs < (roundDiv p q * q).natAbs := by
  obtain ⟨hlow, hhigh⟩ := roundMagnitude_bounds p hq
  rw [roundDiv_mul] at *
  generalize roundMagnitude p q * q = x at *
  split at h <;> split <;> omega

theorem roundDiv_neg (p : Int) {q : Nat} (hq : 0 < q) : roundDiv (-p) q = - roundDiv p q := by
  have hzero : (2 * (0 : Int).natAbs + q) / (2 * q) = 0 := Nat.div_eq_of_lt (by simp; omega)
  unfold roundDiv
  dsimp only
  rw [Int.natAbs_neg]
  rcases lt_trichotomy p 0 with hp | rfl | hp
  · rw [if_neg (by omega), if_pos hp, neg_neg]
  · rw [hzero]; rfl
  · rw [if_pos (by omega), if_neg (by omega)]

/-- G is ten times closer to its multiples of `e` than `e_f` says: the rounding of R10 in kilograms. -/
theorem ten_mul_grossWeight (r : CalRecord) (g : Int) :
    10 * grossWeight r g = roundDiv g (10 * r.e) * ((10 * r.e : Nat) : Int) := by
  unfold grossWeight
  push_cast
  ring

/-- Settles O52: `roundDiv` rounds halves away from zero, and R9 and R10 both round by it. -/
theorem weightsAreRoundedHalvesAwayFromZero : Obligations.WeightsAreRoundedHalvesAwayFromZero := by
  refine ⟨fun p q hq => ⟨roundDiv_nearest p hq, roundDiv_half p hq, roundDiv_neg p hq⟩, fun r f => ?_, fun r g he => ?_⟩
  · unfold fineWeight
    dsimp only
    refine ⟨fun h => ?_, fun h => if_pos h, fun h => ?_⟩
    · rw [if_neg (by omega), if_neg (by omega)]
    · rw [if_neg (by omega), if_pos h]
  · rw [ten_mul_grossWeight]
    exact ⟨⟨_, rfl⟩, roundDiv_nearest g (by omega), roundDiv_half g (by omega)⟩

end Rounding

/-! ### The centre-of-zero flag (R14) -/

section Centre

theorem weighStages_centre_iff (r : CalRecord) (u : DeckUnit) :
    (weighStages r u).centre = true ↔ 4 * (weighStages r u).netFine.natAbs ≤ 10 * r.e := by
  simp only [weighStages, decide_eq_true_eq]
  omega

theorem modDeck_uncalibrated (s : State) (d k : Deck) (f : DeckUnit → DeckUnit) :
    uncalibrated (s.modDeck d f) k = uncalibrated s k := rfl

/-- The stages read no centre-of-zero flag: a valid weight forms it anew and an invalid one clears it. -/
theorem eightStages_of_centre (r : CalRecord) (c : Int) (u : DeckUnit) (b : Bool) :
    eightStages r c { u with centre := b } = eightStages r c u := by
  unfold eightStages filterStage
  dsimp only
  split <;> rfl

/-- Settles O54: the flag is what R14 says of the last g_f, and the live weight record alone reads it. -/
theorem centreOfZeroIsAQuarterInterval : Obligations.CentreOfZeroIsAQuarterInterval := by
  refine ⟨fun r u => ⟨?_, fun he => ?_, fun he => ?_⟩, eightStages_of_centre, fun s d b r => ?_, fun _ _ => rfl⟩
  · rw [Bool.eq_iff_iff, weighStages_centre_iff, decide_eq_true_eq]
  · rw [weighStages_centre_iff, he]; omega
  · rw [weighStages_centre_iff, he]; omega
  · simp [completes, startRefusal, zeroRefusal, trackCounts, modDeck_uncalibrated]

end Centre

/-! ### The state after reset -/

section Reset

theorem reset_lane (l : Lane) : State.reset.lane l = LaneUnit.cold := Four.get_all _ l
theorem reset_deck (d : Deck) : State.reset.deck d = DeckUnit.cold := Four.get_all _ d
theorem reset_queueOf (l : Lane) : queueOf State.reset l = [] := by cases l <;> rfl

theorem reset_barriersOk : BarriersOk State.reset := fun l => by
  rw [reset_lane]
  exact ⟨nofun, by decide, nofun⟩

theorem reset_sequencersOk : SequencersOk State.reset := fun l => by
  rw [reset_lane]
  exact ⟨by decide, by decide, nofun, by decide, nofun⟩

theorem reset_decksOk : DecksOk State.reset := fun d => by
  rw [reset_deck]
  exact cold_deckOk

/-- The journal of a new part retains its RESTART COLD record alone. -/
theorem reset_journalOk : JournalOk State.reset := by
  refine ⟨fun n hlow hhigh => ?_, by decide, rfl, by decide, nofun⟩
  obtain rfl : n = 1 := Nat.le_antisymm hhigh hlow
  rfl

theorem reset_writerOk : WriterOk State.reset := by
  have hstaged : State.reset.cal.staged = none := rfl
  have hsite : siteWritePending State.reset = false := rfl
  have hretry : retryPending State.reset = false := rfl
  have hcal : calWritePending State.reset = false := rfl
  have hwaits : State.reset.nv.waitingOffice = none := rfl
  simp [WriterOk, hstaged, hsite, hretry, hcal, hwaits]

theorem reset_visitsOk : VisitsOk State.reset := by
  have hrecords : State.reset.visits.records = [] := rfl
  have hslots : ∀ l slot : Idx, (State.reset.visits.queues.get l).generations.get slot = 0 := fun l slot => by
    cases l <;> cases slot <;> rfl
  simp [VisitsOk, hrecords, reset_queueOf, hslots, Table.rising]

theorem reset_tablesOk : TablesOk State.reset := by
  refine ⟨rfl, rfl, rfl, rfl, rfl, rfl, rfl, rfl, rfl, rfl, rfl, rfl, rfl, fun l => ?_⟩
  rw [reset_lane]
  decide

/-- Settles O3: the state after reset is fixed data, read part by part. -/
theorem resetMeetsTheInvariants : Obligations.ResetMeetsTheInvariants :=
  ⟨reset_barriersOk, reset_sequencersOk, reset_decksOk, ⟨reset_journalOk, reset_writerOk⟩, reset_visitsOk, reset_tablesOk⟩

end Reset

end Sys2Proof.Machine


/-! ### A command at a port that takes it (R167, R168) -/

namespace Sys2Proof.Machine
open Sys2Proof

section Commands

variable {s t : State} {p : PortId}

theorem modPort_modPort (s : State) (p : PortId) (f g : Port → Port) :
    (s.modPort p f).modPort p g = s.modPort p fun x => g (f x) := by
  cases p with
  | office => rfl
  | lane l => cases l <;> rfl

/-- A write-type command reaches its body at a port that takes it and may issue it, and the port shows its result. -/
theorem command_of_takes (h : Takes s p) (c : Byte) {b : Bool} (hb : b = true) (body : State → Result × State) :
    command p c b body s = .next (setResult p c (body (beginExchange p s)).1 ReplyData.zero
      (body (beginExchange p s)).2) := by
  obtain ⟨hpower, henabled, hbusy, hfollow⟩ := h
  subst hb
  have hport : (beginExchange p s).port p = { s.port p with reply := none, move := none } := modPort_port s p _
  simp [command, whenRunning, exchange, take, takeWithData, portRefusal, hpower, hport, henabled, hbusy, hfollow]

/-- A body that leaves the port as the exchange found it gives the port its answer, and the state its effect. -/
theorem command_eq_answer (h : Takes s p) (c : Byte) {b : Bool} (hb : b = true) {body : State → Result × State}
    {r : Result} (hbody : body (beginExchange p s) = (r, beginExchange p t)) :
    command p c b body s = .next (t.answer p c r) := by
  have hanswer : setResult p c r ReplyData.zero (beginExchange p t) = t.answer p c r := modPort_modPort t p _ _
  rw [command_of_takes h c hb, hbody, ← hanswer]

/-- A CAL command of the office at a deck. -/
theorem calCommand_eq_answer (h : Takes s .office) (c : Byte) {b : Byte} {d : Deck} (hd : Idx.ofNat? b.toNat = some d)
    {body : Deck → State → Result × State} {r : Result}
    (hbody : body d (beginExchange .office s) = (r, beginExchange .office t)) :
    calCommand .office c b body s = .next (t.answer .office c r) :=
  command_eq_answer h c rfl (by rw [hd]; exact hbody)

/-- A deck's change depends on the deck alone. -/
theorem modDeck_congr (s : State) (d : Deck) {f g : DeckUnit → DeckUnit} (h : f (s.deck d) = g (s.deck d)) :
    s.modDeck d f = s.modDeck d g := by
  unfold State.modDeck
  rw [show f (s.decks.get d) = g (s.decks.get d) from h]

theorem modDeck_id (s : State) (d : Deck) {f : DeckUnit → DeckUnit} (h : f (s.deck d) = s.deck d) : s.modDeck d f = s := by
  have put : ∀ x : Four DeckUnit, x.put d (x.get d) = x := fun x => by cases d <;> rfl
  unfold State.modDeck
  rw [show f (s.decks.get d) = s.decks.get d from h, put]

end Commands

/-! ### The tracking step and ZERO DECK (R39, R40) -/

section Zeroing

variable (s : State) (d : Deck)

/-- A tracking step, due or not, moves the zero offset, the history and the count of its deck alone. -/
theorem trackStep_eq : ∃ z h n, trackStep d s = s.modDeck d fun u => { u with zs := z, history := h, trackCount := n } := by
  unfold trackStep
  split
  · unfold DeckUnit.track
    dsimp only
    by_cases hz : withinZeroRange (trackRecord s d) ((s.deck d).zs + (s.deck d).netFine) = true
    · refine ⟨(s.deck d).zs + (s.deck d).netFine, (s.deck d).history.map fun h =>
        h - ((s.deck d).zs + (s.deck d).netFine - (s.deck d).zs), 0, modDeck_congr s d ?_⟩
      rw [if_pos hz]
      rfl
    · refine ⟨(s.deck d).zs, (s.deck d).history, 0, modDeck_congr s d ?_⟩
      rw [if_neg hz]
  · exact ⟨(s.deck d).zs, (s.deck d).history, (s.deck d).trackCount, (modDeck_id s d rfl).symm⟩

theorem trackStep_modPort (p : PortId) (f : Port → Port) : trackStep d (s.modPort p f) = (trackStep d s).modPort p f := by
  unfold trackStep
  rw [modPort_deck]
  split <;> rfl

theorem zeroDeck_modPort (p : PortId) (f : Port → Port) :
    zeroDeck d (s.modPort p f) = ((zeroDeck d s).1, (zeroDeck d s).2.modPort p f) := by
  have hrefusal : zeroRefusal ((trackStep d s).modPort p f) d = zeroRefusal (trackStep d s) d := rfl
  unfold zeroDeck
  rw [trackStep_modPort]
  dsimp only
  rw [hrefusal]
  split <;> rfl

variable {s d}

/-- ZERO DECK at its port is `zeroDeck` at its deck. -/
theorem exec_zeroDeck {p : PortId} {b : Byte} (h : Takes s p) (hb : deckBytePermitted p b = true)
    (hd : Idx.ofNat? b.toNat = some d) {r : Result} {t : State} (hz : zeroDeck d s = (r, t)) :
    exec (.zeroDeck p b) s = .next (t.answer p 0x38#8 r) := by
  refine command_eq_answer h _ hb ?_
  rw [hd]
  refine (zeroDeck_modPort s d p _).trans ?_
  rw [hz]
  rfl

/-- ZERO DECK by its tests: the first that fails answers, and nothing but a due tracking step is done. -/
theorem zeroDeck_of_refusal {r : Result} (h : zeroRefusal (trackStep d s) d = some r) :
    zeroDeck d s = (r, trackStep d s) := by
  unfold zeroDeck
  simp only [h]

theorem zeroDeck_of_accepted (h : zeroRefusal (trackStep d s) d = none) :
    zeroDeck d s = (.done, (trackStep d s).modDeck d fun u => { u.setZero u.fine with trackCount := 0 }) := by
  unfold zeroDeck
  simp only [h]

/-- Settles O38: the four cases are the tests of R39 in their order. -/
theorem zeroDeckTakesTheFineWeight : Obligations.ZeroDeckTakesTheFineWeight := by
  intro s p b d h hb hd u
  have hcal : (trackStep d s).cal = s.cal := by
    obtain ⟨z, hs, n, heq⟩ := trackStep_eq s d
    rw [heq, modDeck_cal]
  refine ⟨fun hbusy => ?_, fun hphase hcapture hmoves => ?_, fun hphase hcapture hstable hrange => ?_,
    fun hphase hcapture hstable hrange => ?_⟩
  · refine exec_zeroDeck h hb hd (zeroDeck_of_refusal ?_)
    by_cases hphase : u.phase = .calibrating
    · simp [zeroRefusal, u, hphase]
    · simp [zeroRefusal, u, hphase, hbusy.resolve_left hphase]
  · refine exec_zeroDeck h hb hd (zeroDeck_of_refusal ?_)
    simp [zeroRefusal, u, hphase, hcapture, hmoves]
  · rw [exec_zeroDeck h hb hd (zeroDeck_of_accepted ?_)]
    · congr 2
    · simp [zeroRefusal, u, hphase, hcapture, hstable, withinZeroRange, hcal, hrange]
  · refine exec_zeroDeck h hb hd (zeroDeck_of_refusal ?_)
    simp [zeroRefusal, u, hphase, hcapture, hstable, withinZeroRange, hcal, hrange]

end Zeroing

end Sys2Proof.Machine


/-! ### CAPTURE (R17, R18, R52, R100, R111) -/

namespace Sys2Proof.Machine
open Sys2Proof

section Capture

variable {s : State} {p : PortId} {l : Lane} {n : Nat}

theorem visitOf_modPort (s : State) (p q : PortId) (l : Lane) (ref : BitVec 16) (f : Port → Port) :
    visitOf (s.modPort q f) p l ref = visitOf s p l ref := by
  cases p <;> rfl

theorem acceptStart_modPort (s : State) (l : Lane) (n : Nat) (p : PortId) (f : Port → Port) :
    acceptStart l n (s.modPort p f) = (acceptStart l n s).modPort p f := by
  unfold acceptStart
  dsimp only
  rw [modDeck_lane, modPort_lane, modDeck_lane]
  split <;> rfl

theorem captureVisit_modPort (s : State) (l : Lane) (n : Nat) (p : PortId) (f : Port → Port) :
    captureVisit l n (s.modPort p f) = ((captureVisit l n s).1, (captureVisit l n s).2.modPort p f) := by
  have hhead : isHead (s.modPort p f) l n = isHead s l n := rfl
  have hcapturable : capturable (s.modPort p f) n = capturable s n := rfl
  have hpermitted : capturePermitted (s.modPort p f) l = capturePermitted s l := rfl
  have hrefusal : startRefusal (s.modPort p f) l = startRefusal s l := rfl
  unfold captureVisit
  rw [hhead, hcapturable, hpermitted, hrefusal, acceptStart_modPort]
  split
  · rfl
  · split
    · rfl
    · split
      · rfl
      · split <;> rfl

/-- CAPTURE of a visit at its lane is `captureVisit` there. -/
theorem exec_capture {b : Byte} {ref : BitVec 16} {r : Result} {t : State} (h : Takes s p)
    (hb : laneBytePermitted p b = true) (hl : laneOf p b = some l) (hv : visitOf s p l ref = .ok n)
    (hc : captureVisit l n s = (r, t)) : exec (.capture p b ref) s = .next (t.answer p 0x33#8 r) := by
  refine command_eq_answer h _ hb ?_
  rw [hl]
  dsimp only
  rw [show visitOf (beginExchange p s) p l ref = .ok n from (visitOf_modPort s p p l ref _).trans hv]
  refine (captureVisit_modPort s l n p _).trans ?_
  rw [hc]
  rfl

/-- The sequencer permits a start from CAPTURE in MANUAL, and in AUTO's OCCUPIED (R111). -/
theorem capturePermitted_iff : capturePermitted s l = true ↔ (s.lane l).params.mode = .manual
    ∨ ((s.lane l).params.mode = .auto ∧ (s.lane l).seqr.state = .occupied) := by
  unfold capturePermitted
  cases (s.lane l).params.mode <;> simp

/-- The deck's refusals of a start, in their order (R18). -/
theorem startRefusal_state (h : (s.deck l).capture.isSome = true ∨ (s.deck l).phase = .fault
    ∨ (s.deck l).phase = .calibrating ∨ s.cal.stored.get l = CalRecord.coldDefault) :
    startRefusal s l = some .state := by
  unfold startRefusal uncalibrated
  dsimp only
  split
  · rfl
  · rename_i hc
    split
    · rfl
    · rename_i hp
      rw [if_pos]
      rw [decide_eq_true_eq]
      tauto

theorem startRefusal_of_ready (h : ¬ ((s.deck l).capture.isSome = true ∨ (s.deck l).phase = .fault
    ∨ (s.deck l).phase = .calibrating ∨ s.cal.stored.get l = CalRecord.coldDefault)) :
    startRefusal s l =
      if (s.deck l).overload = true ∨ (s.deck l).underload = true then some .range else none := by
  simp only [not_or] at h
  obtain ⟨hcapture, hfault, hcalibrating, hstored⟩ := h
  simp [startRefusal, uncalibrated, hcapture, hfault, hcalibrating, hstored]

theorem captureVisit_of_head (hh : isHead s l n = true) (hc : capturable s n = true) : captureVisit l n s =
    if capturePermitted s l = true then
      match startRefusal s l with
      | some r => (r, s)
      | none => (.done, acceptStart l n s)
    else (.state, s) := by
  unfold captureVisit
  simp only [hh, hc]
  cases capturePermitted s l <;> rfl

/-- Settles O35: CAPTURE of a capturable head meets the sequencer's permission first, then the deck's refusals. -/
theorem captureStartsACapture : Obligations.CaptureStartsACapture := by
  intro s p b ref l n h hb hl hv hhead hcapturable permitted unready outside started
  have hcapture := captureVisit_of_head hhead hcapturable
  have hpermitted : capturePermitted s l = true ↔ permitted := capturePermitted_iff
  refine ⟨fun hrefused => exec_capture h hb hl hv ?_, fun hp hready hout => exec_capture h hb hl hv ?_,
    fun hp hready hin => ?_⟩
  · by_cases hp : permitted
    · rw [hcapture, if_pos (hpermitted.2 hp), startRefusal_state (hrefused.resolve_left (not_not_intro hp))]
    · rw [hcapture, if_neg (mt hpermitted.1 hp)]
  · rw [hcapture, if_pos (hpermitted.2 hp), startRefusal_of_ready hready, if_pos hout]
  · refine exec_capture h hb hl hv ?_
    rw [hcapture, if_pos (hpermitted.2 hp), startRefusal_of_ready hready, if_neg hin]
    rfl

end Capture

/-! ### Calibration sessions (R31 to R34) -/

section Sessions

variable {s : State} {d : Deck} {b : Byte}

theorem inSession_of_calibrating (h : (s.deck d).phase = .calibrating) (body : CalRecord → Deck → State → Result × State) :
    inSession body d s = body (recordInUse s d) d s := by
  unfold inSession
  rw [h]

theorem inSession_of_not_calibrating (h : (s.deck d).phase ≠ .calibrating)
    (body : CalRecord → Deck → State → Result × State) : inSession body d s = (.state, s) := by
  unfold inSession
  split
  · exact absurd ‹_› h
  all_goals rfl

/-- A session's command at its CALIBRATING deck gets the working copy. -/
theorem inSession_eq_answer (h : Takes s .office) (c : Byte) (hd : Idx.ofNat? b.toNat = some d)
    (hphase : (s.deck d).phase = .calibrating) {body : CalRecord → Deck → State → Result × State} {r : Result} {t : State}
    (hbody : body (recordInUse s d) d (beginExchange .office s) = (r, beginExchange .office t)) :
    calCommand .office c b (inSession body) s = .next (t.answer .office c r) :=
  calCommand_eq_answer h c hd ((inSession_of_calibrating (s := beginExchange .office s) hphase body).trans hbody)

/-- A session's command elsewhere is refused STATE (R31). -/
theorem inSession_refused (h : Takes s .office) (c : Byte) (hd : Idx.ofNat? b.toNat = some d)
    (hphase : (s.deck d).phase ≠ .calibrating) (body : CalRecord → Deck → State → Result × State) :
    calCommand .office c b (inSession body) s = .next (s.answer .office c .state) :=
  calCommand_eq_answer h c hd (inSession_of_not_calibrating (s := beginExchange .office s) hphase body)

theorem recordInUse_of_working {r : CalRecord} (hphase : (s.deck d).phase = .calibrating)
    (hw : s.cal.working.get d = some r) : recordInUse s d = r := by
  simp [recordInUse, hphase, hw]

theorem trackStep_cal (s : State) (d : Deck) : (trackStep d s).cal = s.cal := by
  obtain ⟨z, h, n, heq⟩ := trackStep_eq s d
  rw [heq, modDeck_cal]

theorem trackStep_lane (s : State) (d : Deck) (l : Lane) : (trackStep d s).lane l = s.lane l := by
  obtain ⟨z, h, n, heq⟩ := trackStep_eq s d
  rw [heq, modDeck_lane]

/-- Of its deck a tracking step leaves all but the zero offset, the history and the count. -/
theorem trackStep_deck (s : State) (d : Deck) :
    ∃ z h n, (trackStep d s).deck d = { s.deck d with zs := z, history := h, trackCount := n } := by
  obtain ⟨z, h, n, heq⟩ := trackStep_eq s d
  exact ⟨z, h, n, by rw [heq, modDeck_deck]⟩

theorem calBegin_modPort (s : State) (d : Deck) (p : PortId) (f : Port → Port) :
    calBegin d (s.modPort p f) = ((calBegin d s).1, (calBegin d s).2.modPort p f) := by
  have hpermitted : ∀ x : State, calibrationPermitted (x.modPort p f) = calibrationPermitted x := fun _ => rfl
  unfold calBegin
  rw [trackStep_modPort]
  dsimp only
  rw [hpermitted, modPort_deck, modPort_lane]
  split
  · rfl
  · split
    · rfl
    · split
      · rfl
      · split <;> rfl

theorem exec_calBegin (h : Takes s .office) (hd : Idx.ofNat? b.toNat = some d) {r : Result} {t : State}
    (hc : calBegin d s = (r, t)) : exec (.calBegin .office b) s = .next (t.answer .office 0x70#8 r) :=
  calCommand_eq_answer h _ hd ((calBegin_modPort s d _ _).trans (by rw [hc]; rfl))

theorem calBegin_of_locked (h : s.cal.switchClosed = false ∨ s.cal.lock = .lockedUntilPower) :
    calBegin d s = (.locked, trackStep d s) := by
  have hlocked : calibrationPermitted (trackStep d s) = false := by
    unfold calibrationPermitted
    rw [trackStep_cal]
    rcases h with h | h <;> simp [h]
  simp [calBegin, hlocked]

theorem calBegin_of_permitted (hswitch : s.cal.switchClosed = true) (hlock : s.cal.lock = .switch)
    (hphase : (s.deck d).phase ≠ .calibrating) (hmode : (s.lane d).params.mode ≠ .auto)
    (hcapture : (s.deck d).capture = none) :
    calBegin d s = (.done, (setWorking d (some (s.cal.stored.get d)) (trackStep d s)).modDeck d fun u =>
      { u with phase := .calibrating, trackCount := 0 }) := by
  obtain ⟨z, hs, n, hdeck⟩ := trackStep_deck s d
  simp [calBegin, calibrationPermitted, trackStep_cal, trackStep_lane, hdeck, hswitch, hlock, hphase, hmode, hcapture]

theorem calSet_modPort (f : CalFields) (r : CalRecord) (d : Deck) (s : State) (p : PortId) (g : Port → Port) :
    calSet f r d (s.modPort p g) = ((calSet f r d s).1, (calSet f r d s).2.modPort p g) := by
  unfold calSet
  split
  · rfl
  · split <;> rfl

theorem calZero_modPort (r : CalRecord) (d : Deck) (s : State) (p : PortId) (g : Port → Port) :
    calZero r d (s.modPort p g) = ((calZero r d s).1, (calZero r d s).2.modPort p g) := by
  unfold calZero
  rw [modPort_deck]
  dsimp only
  split <;> rfl

theorem calSpan_modPort (n : Nat) (r : CalRecord) (d : Deck) (s : State) (p : PortId) (g : Port → Port) :
    calSpan n r d (s.modPort p g) = ((calSpan n r d s).1, (calSpan n r d s).2.modPort p g) := by
  unfold calSpan
  rw [modPort_deck]
  dsimp only
  split
  · rfl
  · split
    · rfl
    · split
      · rfl
      · split <;> rfl

section Open

variable (h : Takes s .office) (hd : Idx.ofNat? b.toNat = some d) (hphase : (s.deck d).phase = .calibrating)
  {r : CalRecord} (hw : s.cal.working.get d = some r)
include h hd hphase hw

/-- CAL SET of an open session answers what `calSet` does of the working copy; so CAL ZERO and CAL SPAN. -/
theorem exec_calSet {f : CalFields} {a : Result} {t : State} (hc : calSet f r d s = (a, t)) :
    exec (.calSet .office b f) s = .next (t.answer .office 0x71#8 a) := by
  refine inSession_eq_answer h _ hd hphase ((calSet_modPort f _ d s _ _).trans ?_)
  rw [recordInUse_of_working hphase hw, hc]
  rfl

theorem exec_calZero {a : Result} {t : State} (hc : calZero r d s = (a, t)) :
    exec (.calZero .office b) s = .next (t.answer .office 0x72#8 a) := by
  refine inSession_eq_answer h _ hd hphase ((calZero_modPort _ d s _ _).trans ?_)
  rw [recordInUse_of_working hphase hw, hc]
  rfl

theorem exec_calSpan {load : BitVec 32} {a : Result} {t : State} (hc : calSpan load.toNat r d s = (a, t)) :
    exec (.calSpan .office b load) s = .next (t.answer .office 0x73#8 a) := by
  refine inSession_eq_answer h _ hd hphase ((calSpan_modPort _ _ d s _ _).trans ?_)
  rw [recordInUse_of_working hphase hw, hc]
  rfl

end Open

theorem calSet_of_legal {f : CalFields} {r x : CalRecord} (hf : calRecordOf f = some x) (hx : x.legal = true) :
    calSet f r d s = (.done, replaceWorking r x d s) := by
  simp [calSet, hf, hx]

theorem calSet_of_illegal {f : CalFields} {r : CalRecord} (hf : ∀ x, calRecordOf f = some x → x.legal = false) :
    calSet f r d s = (.range, s) := by
  unfold calSet
  split
  · rfl
  · rename_i x hx
    simp [hf x hx]

/-- K from a load: with D the magnitude that R34 divides by, a coefficient in range is taken. -/
theorem calSpan_of_inRange {n : Nat} {r : CalRecord} (hlow : r.max ≤ 10 * n) (hhigh : n ≤ r.max)
    (hvalid : (s.deck d).valid = true) (hstable : (s.deck d).stable = true) {D k : Nat}
    (hD : (D : Int) = (s.deck d).sum - r.n * r.zc) (hpos : 0 < D)
    (hk : (k : Int) = roundDiv (n * 10 * r.n * 65536) D) (hmin : 1 ≤ k) (hmax : k ≤ 16777215) :
    calSpan n r d s = (.done, setWorking d (some { r with k := k }) s) := by
  have hspan : spanCoefficient r (s.deck d).sum n = k := by
    unfold spanCoefficient
    rw [← hD, Int.natAbs_natCast, hk]
  unfold calSpan
  dsimp only
  rw [if_neg (by omega), if_neg (by simp [hvalid, hstable]), if_neg (by omega), hspan, if_neg (by omega), Int.toNat_natCast]

/-- Settles O47: each session command by the lemma of its body. -/
theorem calibrationSessionChangesTheWorkingCopy : Obligations.CalibrationSessionChangesTheWorkingCopy := by
  intro s b d h hd
  refine ⟨fun hswitch hlock hphase hmode hcapture => ?_, fun hlocked => ?_, fun hphase f load => ?_,
    fun r hphase hw => ?_⟩
  · rw [exec_calBegin h hd (calBegin_of_permitted hswitch hlock hphase hmode hcapture), setWorking, trackStep_cal]
    rfl
  · exact exec_calBegin h hd (calBegin_of_locked hlocked)
  · exact ⟨inSession_refused h _ hd hphase _, inSession_refused h _ hd hphase _, inSession_refused h _ hd hphase _⟩
  · intro work
    refine ⟨fun f x hf hx => ?_, fun f hf => ?_, fun hvalid hstable => ?_, fun hmoves => ?_,
      fun load hlow hhigh hvalid hstable D k hD hpos hk hmin hmax => ?_⟩
    · have hdeck : ((replaceWorking r x d s).answer .office 0x71#8 .done).deck d = (s.deck d).applyRecord r x :=
        modDeck_deck (setWorking d (some x) s) d _
      refine ⟨_, exec_calSet h hd hphase hw (calSet_of_legal hf hx), ?_, fun k hk => ?_, fun hn hw => ?_, fun hn => ?_,
        fun hn hw => ?_⟩
      · exact modDeck_hide (s := (work x).answer .office 0x71#8 .done) (by simp) d _
      · exact modDeck_deck_of_ne (setWorking d (some x) s) _ hk
      · rw [hdeck]; simp [DeckUnit.applyRecord, hn, hw]
      · rw [hdeck]
        by_cases hw : x.w = r.w <;> simp [DeckUnit.applyRecord, DeckUnit.invalid, hn, hw]
      · rw [hdeck]; simp [DeckUnit.applyRecord, hn, hw]
    · exact exec_calSet h hd hphase hw (calSet_of_illegal hf)
    · exact exec_calZero h hd hphase hw (by simp [calZero, hvalid, hstable]; rfl)
    · exact exec_calZero h hd hphase hw (by rcases hmoves with hm | hm <;> simp [calZero, hm])
    · exact exec_calSpan h hd hphase hw (calSpan_of_inRange hlow hhigh hvalid hstable hD hpos hk hmin hmax)

end Sessions

end Sys2Proof.Machine


/-! ### Notices and answers at a port (R168, R171) -/

namespace Sys2Proof.Machine
open Sys2Proof

section Notices

variable {s t u : State}

/-- Every notice that is pending stays pending. -/
def NoticesGrow (s t : State) : Prop := ∀ n p, Noticed s n p → Noticed t n p

theorem NoticesGrow.refl (s : State) : NoticesGrow s s := fun _ _ h => h
theorem NoticesGrow.trans (h : NoticesGrow s t) (k : NoticesGrow t u) : NoticesGrow s u := fun n p hn => k n p (h n p hn)

/-- Ports that are the same keep their notices. -/
theorem NoticesGrow.of_ports (h : t.ports = s.ports) : NoticesGrow s t := fun n p hn => by
  unfold Noticed State.port at *
  rwa [h]

theorem noticed_raiseNotice (n : Notice) (p : PortId) (s : State) : Noticed (raiseNotice n p s) n p := by
  have hbit : n.bit ≠ 0#16 := by cases n <;> decide
  unfold Noticed raiseNotice
  rw [modPort_port, BitVec.and_or_distrib_right, BitVec.and_self]
  exact fun h => hbit (BitVec.or_eq_zero_iff.1 h).2

theorem raiseNotice_grows (n : Notice) (p : PortId) (s : State) : NoticesGrow s (raiseNotice n p s) := fun m q h => by
  unfold Noticed raiseNotice at *
  by_cases hq : q = p
  · subst hq
    rw [modPort_port, BitVec.and_or_distrib_right]
    exact fun hz => h (BitVec.or_eq_zero_iff.1 hz).1
  · rwa [modPort_port_of_ne s _ hq]

theorem raiseLaneOffice_grows (n : Notice) (l : Lane) (s : State) : NoticesGrow s (raiseLaneOffice n l s) :=
  (raiseNotice_grows n _ s).trans (raiseNotice_grows n _ _)

theorem noticed_raiseLaneOffice (n : Notice) (l : Lane) (s : State) :
    Noticed (raiseLaneOffice n l s) n (.lane l) ∧ Noticed (raiseLaneOffice n l s) n .office :=
  ⟨raiseNotice_grows n _ _ _ _ (noticed_raiseNotice n _ s), noticed_raiseNotice n _ _⟩

/-- Of a port, a notice raised anywhere changes the pending set alone. -/
theorem raiseNotice_port (n : Notice) (p q : PortId) (s : State) :
    ((raiseNotice n p s).port q).outsideRoutes = (s.port q).outsideRoutes := by
  unfold raiseNotice
  by_cases hq : q = p
  · subst hq; rw [modPort_port]; rfl
  · rw [modPort_port_of_ne s _ hq]

theorem setResult_grows (p : PortId) (c : Byte) (r : Result) (x : ReplyData) (s : State) :
    NoticesGrow s (setResult p c r x s) := fun n q h => by
  unfold Noticed setResult at *
  by_cases hq : q = p
  · subst hq; rwa [modPort_port]
  · rwa [modPort_port_of_ne s _ hq]

/-- A result shown at a port that has formed no reply is an answer. -/
theorem answered_setResult {p : PortId} (h : (t.port p).outsideRoutes = ((beginExchange p s).port p).outsideRoutes)
    (c : Byte) (r : Result) : Answered (setResult p c r ReplyData.zero t) p c r := by
  have hreply : (t.port p).reply = none :=
    (congrArg Port.reply h).trans (congrArg Port.reply (modPort_port s p fun x => { x with reply := none, move := none }))
  have hmove : (t.port p).move = none :=
    (congrArg Port.move h).trans (congrArg Port.move (modPort_port s p fun x => { x with reply := none, move := none }))
  have hport : (setResult p c r ReplyData.zero t).port p =
    { t.port p with lastCommand := c, lastResult := r, reasonStore := false, data := ReplyData.zero } := modPort_port t p _
  simp [Answered, hport, hreply, hmove]

end Notices

/-! ### Sessions that end without a store (R29, R30, R35, R36) -/

section Abandoned

variable {s t u : State} {d : Deck} {b : Byte}

/-- A deck in CALIBRATING without a write in flight: its session can be abandoned. -/
def idleSession (s : State) (d : Deck) : Bool := decide ((s.deck d).phase = .calibrating) && !writeInFlight s d

theorem idleSession_iff :
    idleSession s d = true ↔ (s.deck d).phase = .calibrating ∧ writeInFlight s d = false := by
  simp [idleSession]

theorem leaveCalibrating_phase (u : DeckUnit) : u.leaveCalibrating.phase ≠ .calibrating := by
  unfold DeckUnit.leaveCalibrating
  dsimp only
  split <;> decide

/-- What abandoning the idle sessions of some decks does: to each such deck R5, its copy gone and notice CALIB raised; to
the rest of the state nothing. -/
structure Abandoned (ds : List Deck) (s t : State) : Prop where
  deck : ∀ k, t.deck k = if k ∈ ds ∧ idleSession s k = true then (s.deck k).leaveCalibrating else s.deck k
  working : ∀ k, t.cal.working.get k = if k ∈ ds ∧ idleSession s k = true then none else s.cal.working.get k
  cal : ∃ w, t.cal = { s.cal with working := w }
  noticed : ∀ k ∈ ds, idleSession s k = true → Noticed t .calib (.lane k) ∧ Noticed t .calib .office
  grows : NoticesGrow s t
  port : ∀ p, (t.port p).outsideRoutes = (s.port p).outsideRoutes
  rest : KeepsAllBut [.decks, .cal, .ports] s t

theorem Abandoned.staged {ds : List Deck} (h : Abandoned ds s t) : t.cal.staged = s.cal.staged := by
  obtain ⟨w, hcal⟩ := h.cal
  rw [hcal]

/-- A session once abandoned is no session any more, and the others stand as they stood. -/
theorem Abandoned.idleSession_iff {ds : List Deck} (h : Abandoned ds s t) (k : Deck) :
    idleSession t k = true ↔ k ∉ ds ∧ idleSession s k = true := by
  have hflight : writeInFlight t k = writeInFlight s k := by unfold writeInFlight; rw [h.staged]
  by_cases hk : k ∈ ds ∧ idleSession s k = true
  · have hdeck := h.deck k
    rw [if_pos hk] at hdeck
    simp [idleSession, hdeck, leaveCalibrating_phase, hk.1]
  · have hdeck := h.deck k
    rw [if_neg hk] at hdeck
    have hsame : idleSession t k = idleSession s k := by unfold idleSession; rw [hdeck, hflight]
    rw [hsame]
    tauto

theorem Abandoned.trans {ds es : List Deck} (h : Abandoned ds s t) (g : Abandoned es t u) :
    Abandoned (ds ++ es) s u where
  deck k := by
    simp only [g.deck, h.deck, h.idleSession_iff]
    by_cases hd : k ∈ ds <;> by_cases he : k ∈ es <;> simp [hd, he]
  working k := by
    simp only [g.working, h.working, h.idleSession_iff]
    by_cases hd : k ∈ ds <;> by_cases he : k ∈ es <;> simp [hd, he]
  cal := by
    obtain ⟨w, hcal⟩ := h.cal
    obtain ⟨x, gcal⟩ := g.cal
    exact ⟨x, by rw [gcal, hcal]⟩
  noticed k hk hidle := by
    by_cases hd : k ∈ ds
    · obtain ⟨hlane, hoffice⟩ := h.noticed k hd hidle
      exact ⟨g.grows _ _ hlane, g.grows _ _ hoffice⟩
    · exact g.noticed k ((List.mem_append.1 hk).resolve_left hd) ((h.idleSession_iff k).2 ⟨hd, hidle⟩)
  grows := h.grows.trans g.grows
  port p := (g.port p).trans (h.port p)
  rest := h.rest.trans g.rest

theorem abandonIdle_abandoned (s : State) (d : Deck) : Abandoned [d] s (abandonIdle s d) := by
  have single : ∀ k : Deck, k ∈ [d] ↔ k = d := fun k => List.mem_singleton
  by_cases hidle : idleSession s d = true
  · have heq : abandonIdle s d = abandonSession d s := if_pos (idleSession_iff.1 hidle)
    rw [heq]
    refine ⟨fun k => ?_, fun k => ?_, ⟨_, rfl⟩, fun k hk _ => ?_, raiseLaneOffice_grows _ _ (endSession d s), fun p => ?_, ?_⟩
    · by_cases hk : k = d
      · subst hk
        rw [if_pos ⟨List.mem_singleton_self k, hidle⟩]
        exact modDeck_deck (setWorking k none s) k _
      · rw [if_neg fun h => hk ((single k).1 h.1)]
        exact modDeck_deck_of_ne (setWorking d none s) _ hk
    · by_cases hk : k = d
      · subst hk
        rw [if_pos ⟨List.mem_singleton_self k, hidle⟩]
        exact Four.get_put_self _ k none
      · rw [if_neg fun h => hk ((single k).1 h.1)]
        exact Four.get_put_of_ne _ none hk
    · rw [(single k).1 hk]
      exact noticed_raiseLaneOffice _ d _
    · exact (raiseNotice_port _ _ p _).trans (raiseNotice_port _ _ p _)
    · exact (modPort_hide (by decide) _ _).trans ((modPort_hide (by decide) _ _).trans
        ((modDeck_hide (by decide) d _).trans rfl))
  · have heq : abandonIdle s d = s := if_neg (mt idleSession_iff.2 hidle)
    rw [heq]
    have none : ∀ k, ¬ (k ∈ [d] ∧ idleSession s k = true) := fun k ⟨hk, h⟩ => hidle ((single k).1 hk ▸ h)
    exact ⟨fun k => (if_neg (none k)).symm, fun k => (if_neg (none k)).symm, ⟨_, rfl⟩, fun k hk h => absurd ⟨hk, h⟩ (none k),
      NoticesGrow.refl s, fun _ => rfl, rfl⟩

theorem abandonIdles_abandoned (ds : List Deck) (s : State) : Abandoned ds s (ds.foldl abandonIdle s) := by
  induction ds generalizing s with
  | nil => exact ⟨fun k => by simp, fun k => by simp, ⟨_, rfl⟩, nofun, NoticesGrow.refl s, fun _ => rfl, rfl⟩
  | cons d ds ih => exact (abandonIdle_abandoned s d).trans (ih _)

theorem Idx.mem_all (k : Idx) : k ∈ Idx.all := by cases k <;> decide

/-- The lock of LOCK CALIBRATION (R29). -/
def lockUntilPower (s : State) : State := { s with cal := { s.cal with lock := .lockedUntilPower } }

/-- LOCK CALIBRATION's exchange is the exchange of `abandonIdle` over the decks, the lock mode moved (R29). -/
theorem exec_lockCalibration (h : Takes s .office) : exec (.lockCalibration .office) s = .next
    (setResult .office 0x78#8 .done ReplyData.zero (Idx.all.foldl abandonIdle
      (lockUntilPower (beginExchange .office s)))) := by
  have hexec : exec (.lockCalibration .office) s = command .office 0x78#8 (isOffice .office)
    (fun s => (.done, Idx.all.foldl abandonIdle (lockUntilPower s))) s := rfl
  rw [hexec, command_of_takes (b := isOffice .office) h 0x78#8 rfl]

/-- With the office port free no calibration write is in flight (R36, R170). -/
theorem WriterOk.writeInFlight_false (hw : WriterOk s) (h : (s.port .office).busy = false) (d : Deck) :
    writeInFlight s d = false := by
  obtain ⟨-, -, hbusy, -⟩ := hw
  unfold writeInFlight
  split
  · rfl
  · rename_i c hc
    have hb := hbusy (.inl (by rw [hc]; rfl))
    rw [h] at hb
    cases hb

theorem lockCalibration_ends (hw : WriterOk s) (h : Takes s .office) : ∃ t, exec (.lockCalibration .office) s = .next t
    ∧ Answered t .office 0x78#8 .done ∧ t.cal.lock = .lockedUntilPower
    ∧ (∀ d, t.deck d = if (s.deck d).phase = .calibrating then (s.deck d).leaveCalibrating else s.deck d)
    ∧ (∀ d, (s.deck d).phase = .calibrating → t.cal.working.get d = none ∧ Noticed t .calib .office
        ∧ Noticed t .calib (.lane d))
    ∧ t.cal.stored = s.cal.stored ∧ t.cal.audit = s.cal.audit ∧ KeepsAllBut [.decks, .cal, .ports] s t := by
  have hidle : ∀ d, idleSession (lockUntilPower (beginExchange .office s)) d = true ↔
      (s.deck d).phase = .calibrating := fun d => by
    have hflight := hw.writeInFlight_false h.2.2.1 d
    rw [Machine.idleSession_iff]
    exact ⟨And.left, fun hp => ⟨hp, hflight⟩⟩
  refine ⟨_, exec_lockCalibration h, ?_⟩
  have hall := abandonIdles_abandoned Idx.all (lockUntilPower (beginExchange .office s))
  generalize Idx.all.foldl abandonIdle (lockUntilPower (beginExchange .office s)) = t at hall ⊢
  have hgrows := setResult_grows .office 0x78#8 .done ReplyData.zero t
  obtain ⟨w, hcal⟩ := hall.cal
  have hanswered := answered_setResult (hall.port .office) 0x78#8 .done
  have hstored := congrArg CalUnit.stored hcal
  have haudit := congrArg CalUnit.audit hcal
  refine ⟨hanswered, congrArg CalUnit.lock hcal, fun d => ?_, fun d hd => ?_, hstored, haudit, ?_⟩
  · refine (hall.deck d).trans ?_
    simp only [Idx.mem_all, hidle, true_and]
    rfl
  · have hw := hall.working d
    rw [if_pos ⟨Idx.mem_all d, (hidle d).2 hd⟩] at hw
    obtain ⟨hlane, hoffice⟩ := hall.noticed d (Idx.mem_all d) ((hidle d).2 hd)
    exact ⟨hw, hgrows _ _ hoffice, hgrows _ _ hlane⟩
  · have hbegin : KeepsAllBut [.decks, .cal, .ports] s (lockUntilPower (beginExchange .office s)) := by
      simp [KeepsAllBut, State.hide, lockUntilPower, beginExchange, State.modPort]
    exact hbegin.trans (hall.rest.trans (modPort_hide (by decide) .office _))

theorem metrologySwitch_opens (hpower : s.power = true) (hclosed : s.cal.switchClosed = true) :
    ∃ t, exec (.metrologySwitchChange false) s = .next t ∧ t.cal.switchClosed = false
    ∧ (∀ d, t.deck d = if (s.deck d).phase = .calibrating ∧ writeInFlight s d = false then (s.deck d).leaveCalibrating
        else s.deck d)
    ∧ (∀ d, (s.deck d).phase = .calibrating → writeInFlight s d = false →
        t.cal.working.get d = none ∧ Noticed t .calib .office)
    ∧ t.cal.stored = s.cal.stored ∧ t.cal.audit = s.cal.audit ∧ KeepsAllBut [.decks, .cal, .ports] s t := by
  have hexec : exec (.metrologySwitchChange false) s =
      .next (Idx.all.foldl abandonIdle (s.setCal { s.cal with switchClosed := false })) := by
    simp [exec, execMetrologySwitchChange, whenRunning, hpower, hclosed, State.setCal]
  have hidle : ∀ d, idleSession (s.setCal { s.cal with switchClosed := false }) d = true ↔
      (s.deck d).phase = .calibrating ∧ writeInFlight s d = false := fun _ => Machine.idleSession_iff
  refine ⟨_, hexec, ?_⟩
  have hall := abandonIdles_abandoned Idx.all (s.setCal { s.cal with switchClosed := false })
  generalize Idx.all.foldl abandonIdle (s.setCal { s.cal with switchClosed := false }) = t at hall ⊢
  obtain ⟨w, hcal⟩ := hall.cal
  have hstored := congrArg CalUnit.stored hcal
  have haudit := congrArg CalUnit.audit hcal
  refine ⟨congrArg CalUnit.switchClosed hcal, fun d => ?_, fun d hd hf => ?_, hstored, haudit, hall.rest⟩
  · refine (hall.deck d).trans ?_
    simp only [Idx.mem_all, hidle, true_and]
    rfl
  · have hw := hall.working d
    rw [if_pos ⟨Idx.mem_all d, (hidle d).2 ⟨hd, hf⟩⟩] at hw
    exact ⟨hw, (hall.noticed d (Idx.mem_all d) ((hidle d).2 ⟨hd, hf⟩)).2⟩

/-- Settles O48: one session ends by `endSession`, and the sessions of all decks by `abandonIdle`. -/
theorem sessionsEndWithoutAStore : Obligations.SessionsEndWithoutAStore := by
  unfold Obligations.SessionsEndWithoutAStore
  intro left
  refine ⟨?_, fun s hw h => lockCalibration_ends hw h, fun s hpower => ⟨?_, fun hopen => ?_, metrologySwitch_opens hpower⟩⟩
  · intro s b d h hd hphase ended
    refine ⟨fun hw => ?_, inSession_eq_answer h _ hd hphase rfl⟩
    refine inSession_eq_answer h _ hd hphase ?_
    rw [recordInUse_of_working hphase hw]
    exact if_pos rfl
  · by_cases hclosed : s.cal.switchClosed = true
    · have hsame : s.setCal { s.cal with switchClosed := true } = s := by rw [← hclosed]; rfl
      simp [exec, execMetrologySwitchChange, whenRunning, hpower, hclosed, hsame]
    · simp [exec, execMetrologySwitchChange, whenRunning, hpower, hclosed, State.setCal]
  · simp [exec, execMetrologySwitchChange, whenRunning, hpower, hopen]

end Abandoned

end Sys2Proof.Machine

/-! PROOFS, 01_deck_weighing. What one OK sample does to its deck, to the other decks and to the rest of the state (R7). -/

namespace Sys2Proof.Machine
open Sys2Proof

/-! ### The spread of a history (R12) -/

section Spread

theorem le_largest (m : Int) (xs : List Int) : ∀ x ∈ m :: xs, x ≤ largest m xs := by
  induction xs generalizing m with
  | nil => simp [largest]
  | cons y ys ih =>
    rw [largest]
    split
    · obtain ⟨hy, hys⟩ := List.forall_mem_cons.1 (ih y)
      exact List.forall_mem_cons.2 ⟨by omega, List.forall_mem_cons.2 ⟨hy, hys⟩⟩
    · obtain ⟨hm, hys⟩ := List.forall_mem_cons.1 (ih m)
      exact List.forall_mem_cons.2 ⟨hm, List.forall_mem_cons.2 ⟨by omega, hys⟩⟩

theorem largest_mem (m : Int) (xs : List Int) : largest m xs ∈ m :: xs := by
  induction xs generalizing m with
  | nil => simp [largest]
  | cons y ys ih =>
    rw [largest]
    split
    · exact List.mem_cons_of_mem m (ih y)
    · exact (List.mem_cons.1 (ih m)).elim (fun h => by simp [h]) fun h => by simp [h]

/-- The smallest is the largest of the opposites. -/
theorem smallest_eq_neg_largest (m : Int) (xs : List Int) : smallest m xs = - largest (-m) (xs.map fun x => -x) := by
  induction xs generalizing m with
  | nil => simp [smallest, largest]
  | cons y ys ih =>
    simp only [smallest, largest, List.map_cons, ih]
    by_cases hm : y < m
    · rw [if_pos hm, if_pos (by omega)]
    · rw [if_neg hm, if_neg (by omega)]

theorem smallest_le (m : Int) (xs : List Int) : ∀ x ∈ m :: xs, smallest m xs ≤ x := fun x hx => by
  have hneg := le_largest (-m) (xs.map fun x => -x) (-x) (by simpa using hx)
  rw [smallest_eq_neg_largest]
  omega

theorem smallest_mem (m : Int) (xs : List Int) : smallest m xs ∈ m :: xs := by
  have hneg := largest_mem (-m) (xs.map fun x => -x)
  rw [smallest_eq_neg_largest]
  simp only [List.mem_cons, List.mem_map] at hneg ⊢
  rcases hneg with h | ⟨a, ha, h⟩
  · left; omega
  · right
    rwa [← h, neg_neg]

/-- The history is stable when it is full and no two of its values are further apart than the motion band. -/
theorem isStable_iff (r : CalRecord) (h : List Int) :
    isStable r h = true ↔ h ≠ [] ∧ h.length = r.w ∧ ∀ x ∈ h, ∀ y ∈ h, x - y ≤ (r.mf : Int) := by
  cases h with
  | nil => simp [isStable]
  | cons m xs =>
    simp only [isStable, Bool.and_eq_true, decide_eq_true_eq, ne_eq, reduceCtorEq, not_false_eq_true, true_and]
    refine and_congr_right fun _ => ⟨fun h x hx y hy => ?_, fun h => h _ (largest_mem m xs) _ (smallest_mem m xs)⟩
    have hle := le_largest m xs x hx
    have hge := smallest_le m xs y hy
    omega

end Spread

/-! ### The stages by the length of the window (R8) -/

section Stages

variable {r : CalRecord} {c : Int} {u : DeckUnit}

/-- With N counts held the weight is valid, a deck that is starting becomes active, and stages 2 to 8 run. -/
theorem eightStages_of_full (hlink : u.linkLost = false) (hfull : (keepLast r.n u.window c).length = r.n) :
    eightStages r c u = weighStages r
      { u with window := keepLast r.n u.window c, sum := sumOf (keepLast r.n u.window c), valid := true,
               phase := if u.phase = .starting then .active else u.phase } := by
  simp [eightStages, filterStage, hlink, hfull]

/-- Before that the weight is invalid. -/
theorem eightStages_of_filling (hfull : (keepLast r.n u.window c).length ≠ r.n) :
    eightStages r c u =
      { u with window := keepLast r.n u.window c, sum := sumOf (keepLast r.n u.window c) }.invalid := by
  simp [eightStages, filterStage, hfull, DeckUnit.invalid]

/-- Occupancy has two thresholds, with the flag held between them (R13). -/
theorem weighStages_occupied (r : CalRecord) (u : DeckUnit) : (weighStages r u).occupied =
    if u.occupied = true then decide (5 * (u.threshold : Int) ≤ (weighStages r u).netFine)
    else decide (10 * (u.threshold : Int) ≤ (weighStages r u).netFine) := by
  simp only [weighStages, ← decide_not, not_lt]

/-- The phase of a deck that begins to recover its link, as an OK sample leaves it (R4). -/
def recoveredPhase (lost : Bool) (p : DeckPhase) : DeckPhase := if lost = true ∧ p = .fault then .starting else p

theorem recoveredPhase_calibrating_iff (lost : Bool) (p : DeckPhase) :
    recoveredPhase lost p = .calibrating ↔ p = .calibrating := by
  cases lost <;> cases p <;> decide

/-- With N counts held every deck outside CALIBRATING is active, but one in FAULT whose link was not lost. -/
theorem phase_of_full {lost : Bool} {p : DeckPhase} (hcal : p ≠ .calibrating) :
    (if recoveredPhase lost p = .starting then .active else recoveredPhase lost p) = DeckPhase.active
      ∨ p = .fault ∧ lost = false := by
  cases p with
  | calibrating => exact absurd rfl hcal
  | starting | active => left; simp [recoveredPhase]
  | fault => cases lost <;> simp [recoveredPhase]

end Stages

/-! ### The state a sample passes through -/

section Sample

variable (s : State) (d : Deck) (c : BitVec 24)

/-- The deck as the stages leave it. -/
def weighedDeck : DeckUnit :=
  eightStages (recordInUse s d) c.toInt ((linkRecover d (trackStep d s)).deck d)

/-- The state at the end of a sample, its tracking count apart. -/
def testedSample : State :=
  captureTests d ((linkRecover d (trackStep d s)).deck d) (weighedDeck s d c)
    (stageEvents d ((linkRecover d (trackStep d s)).deck d)
      ((linkRecover d (trackStep d s)).modDeck d fun _ => weighedDeck s d c))

/-- A recovered link leaves the record in use as it was: the phase becomes or stays CALIBRATING by neither step. -/
theorem recordInUse_recovered : recordInUse (linkRecover d (trackStep d s)) d = recordInUse s d := by
  have hcal : (linkRecover d (trackStep d s)).cal = s.cal := trackStep_cal s d
  obtain ⟨z, h, n, hdeck⟩ := trackStep_deck s d
  have hrecovered : ((linkRecover d (trackStep d s)).deck d).phase =
      recoveredPhase (s.deck d).linkLost (s.deck d).phase := by
    simp only [linkRecover, modDeck_deck, hdeck, recoveredPhase, Bool.and_eq_true, decide_eq_true_eq]
  have hphase : ((linkRecover d (trackStep d s)).deck d).phase = .calibrating ↔ (s.deck d).phase = .calibrating := by
    rw [hrecovered, recoveredPhase_calibrating_iff]
  unfold recordInUse
  simp only [hcal, hphase]

theorem sampleStep_eq : sampleStep d c s = trackAdvance d (testedSample s d c) := by
  have hmod : (linkRecover d (trackStep d s)).modDeck d (eightStages (recordInUse s d) c.toInt) =
      (linkRecover d (trackStep d s)).modDeck d fun _ => weighedDeck s d c := modDeck_congr _ d rfl
  unfold sampleStep testedSample
  dsimp only
  rw [recordInUse_recovered, hmod, modDeck_deck]

/-- The events and the capture's tests leave the deck as the stages left it, its capture apart. -/
theorem testedSample_deck :
    ∃ a n, (testedSample s d c).deck d = { weighedDeck s d c with capture := a, captureLate := n } := by
  have hcores := deckCores_get ((captureTests_deckCores _ d ((linkRecover d (trackStep d s)).deck d) (weighedDeck s d c)).trans
    (stageEvents_deckCores ((linkRecover d (trackStep d s)).modDeck d fun _ => weighedDeck s d c) d
      ((linkRecover d (trackStep d s)).deck d))) d
  rw [modDeck_deck] at hcores
  change ((testedSample s d c).deck d).outsideRoutes = _ at hcores
  refine ⟨((testedSample s d c).deck d).capture, ((testedSample s d c).deck d).captureLate, ?_⟩
  generalize (testedSample s d c).deck d = u at hcores ⊢
  generalize weighedDeck s d c = w at hcores ⊢
  cases u
  cases w
  simp_all [DeckUnit.outsideRoutes]

/-- The deck with its link recovered, before its stages (R2, R4). -/
theorem recovered_deck : (linkRecover d (trackStep d s)).deck d =
    { (trackStep d s).deck d with
        linkLost := false
        linkTimer := (s.deck d).linkTimer.brought s (.linkSilenceTimeout d) (some (s.clock.mono * 1000 + 100))
        phase := recoveredPhase (s.deck d).linkLost (s.deck d).phase } := by
  obtain ⟨z, h, n, heq⟩ := trackStep_eq s d
  rw [heq]
  simp [linkRecover, recoveredPhase, Timer.start, Timer.brought, lateAfter, Timer.running, State.waiting, inMs]

/-- A sample leaves its deck as the stages do, its tracking count and its capture apart. -/
theorem sampleStep_deck :
    ∃ a n m, (sampleStep d c s).deck d = { weighedDeck s d c with capture := a, captureLate := n, trackCount := m } := by
  obtain ⟨a, n, hdeck⟩ := testedSample_deck s d c
  rw [sampleStep_eq]
  refine ⟨a, n, ((trackAdvance d (testedSample s d c)).deck d).trackCount, ?_⟩
  simp only [trackAdvance, modDeck_deck, hdeck]

/-- A sample leaves the decks of the other lanes alone, their captures apart. -/
theorem sampleStep_deck_of_ne {k : Deck} (hk : k ≠ d) :
    ((sampleStep d c s).deck k).outsideRoutes = (s.deck k).outsideRoutes := by
  have hcores := deckCores_get ((captureTests_deckCores _ d ((linkRecover d (trackStep d s)).deck d) (weighedDeck s d c)).trans
    (stageEvents_deckCores ((linkRecover d (trackStep d s)).modDeck d fun _ => weighedDeck s d c) d
      ((linkRecover d (trackStep d s)).deck d))) k
  obtain ⟨z, h, n, heq⟩ := trackStep_eq s d
  have hbefore : ((linkRecover d (trackStep d s)).modDeck d fun _ => weighedDeck s d c).deck k = s.deck k := by
    rw [modDeck_deck_of_ne _ _ hk, linkRecover, modDeck_deck_of_ne _ _ hk, heq, modDeck_deck_of_ne _ _ hk]
  rw [hbefore] at hcores
  rw [sampleStep_eq, trackAdvance, modDeck_deck_of_ne _ _ hk]
  exact hcores

/-! #### The parts a sample reaches -/

variable {ps : List Part}

theorem trackStep_hide (h : .decks ∈ ps) : (trackStep d s).hide ps = s.hide ps := by
  obtain ⟨z, x, n, heq⟩ := trackStep_eq s d
  rw [heq, modDeck_hide h]

theorem stageEvents_hide (hy : HidesYard ps) (hv : .visits ∈ ps) (u : DeckUnit) :
    (stageEvents d u s).hide ps = s.hide ps := by
  have raised : ∀ (b : Bool) (k : EventKind) (x : State), (if b = true then raiseAt k d x else x).hide ps = x.hide ps :=
    fun b k x => by
      split
      · exact raiseAt_hide hy k d
      · rfl
  unfold stageEvents
  dsimp only
  rw [raised]
  split
  · rw [laneOccupied_hide hy, raiseAt_hide hy, raised]
  · split
    · rw [laneClear_hide hy hv, raiseAt_hide hy, raised]
    · rw [raised]

theorem captureTests_hide (hy : HidesYard ps) (hv : .visits ∈ ps) (ha : .allow ∈ ps) (hn : .nv ∈ ps) (ht : .tickets ∈ ps)
    (hr : .tares ∈ ps) (b a : DeckUnit) : (captureTests d b a s).hide ps = s.hide ps := by
  unfold captureTests
  split
  · split
    · exact endCapture_hide hy d _
    · split
      · exact completeCapture_hide hy hv ha hn ht hr d
      · rfl
  · rfl

/-- Before the capture's tests a sample reaches the yard and the visit table. -/
theorem stages_hide (hy : HidesYard ps) (hv : .visits ∈ ps) :
    (stageEvents d ((linkRecover d (trackStep d s)).deck d)
      ((linkRecover d (trackStep d s)).modDeck d fun _ => weighedDeck s d c)).hide ps = s.hide ps := by
  rw [stageEvents_hide _ d hy hv, modDeck_hide hy.decks, linkRecover, modDeck_hide hy.decks, trackStep_hide s d hy.decks]

/-- The yard, and the parts a decision on a visit reaches. -/
def decisionParts : List Part := .visits :: .tares :: .allow :: .tickets :: .nv :: yardParts

theorem testedSample_keeps :
    KeepsAllBut decisionParts s (testedSample s d c) := by
  have hy : HidesYard decisionParts := by unfold HidesYard; decide
  unfold KeepsAllBut testedSample
  rw [captureTests_hide _ d hy (by decide) (by decide) (by decide) (by decide) (by decide),
    stages_hide s d c hy (by decide)]

theorem sampleStep_keeps : KeepsAllBut decisionParts s (sampleStep d c s) := by
  unfold KeepsAllBut
  rw [sampleStep_eq, trackAdvance, modDeck_hide (by decide)]
  exact testedSample_keeps s d c

/-- Without a capture in flight when the sample comes, none is tested. -/
theorem sampleStep_keeps_of_no_capture (h : (s.deck d).capture = none) :
    KeepsAllBut (.visits :: yardParts) s (sampleStep d c s) := by
  have hy : HidesYard (.visits :: yardParts) := by unfold HidesYard; decide
  obtain ⟨z, x, n, heq⟩ := trackStep_deck s d
  have hnone : ((linkRecover d (trackStep d s)).deck d).capture.isSome = false := by rw [recovered_deck, heq, h]; rfl
  unfold KeepsAllBut
  rw [sampleStep_eq, trackAdvance, modDeck_hide (by decide), testedSample, captureTests, if_neg (by rw [hnone]; decide),
    stages_hide s d c hy (by decide)]

/-- The tracking count advances, from what it was before the sample, or clears, as R40 says of the deck at the end. -/
theorem sampleStep_trackCount : ((sampleStep d c s).deck d).trackCount =
    if (s.cal.stored.get d).tracking = true ∧ ((sampleStep d c s).deck d).phase = .active
      ∧ ((sampleStep d c s).deck d).stable = true ∧ ((sampleStep d c s).deck d).occupied = false
      ∧ 2 * ((sampleStep d c s).deck d).netFine.natAbs ≤ 10 * (s.cal.stored.get d).e
      ∧ ((sampleStep d c s).deck d).capture = none
    then (weighedDeck s d c).trackCount + 1 else 0 := by
  have hkeeps := congrArg State.cal (testedSample_keeps s d c)
  have hcal : (testedSample s d c).cal = s.cal := hkeeps
  obtain ⟨a, n, hdeck⟩ := testedSample_deck s d c
  have hcount : (weighedDeck s d c).trackCount = ((testedSample s d c).deck d).trackCount := by rw [hdeck]
  rw [sampleStep_eq, hcount]
  simp only [trackAdvance, modDeck_deck, trackRecord, hcal, trackCounts, Bool.and_eq_true, decide_eq_true_eq,
    Bool.not_eq_true', Option.isNone_iff_eq_none, and_assoc]
  norm_cast

end Sample

/-- Settles O53: the deck is as `eightStages` leaves it, read by the length of its window; the rest is what the stages' events
and the capture's tests can reach. -/
theorem sampleRunsTheStages : Obligations.SampleRunsTheStages := by
  intro s d c hpower r stored before
  obtain ⟨a, n, m, hdeck⟩ := sampleStep_deck s d c
  have hcount := sampleStep_trackCount s d c
  refine ⟨sampleStep d c s, by simp [exec, execSampleOk, whenRunning, hpower], ?_, fun k hk => sampleStep_deck_of_ne s d c hk,
    sampleStep_keeps_of_no_capture s d c, sampleStep_keeps s d c⟩
  have hweighed : weighedDeck s d c = eightStages r c.toInt ((linkRecover d (trackStep d s)).deck d) := rfl
  obtain ⟨z, h, k, hbefore⟩ := trackStep_deck s d
  have hstart : before = { s.deck d with zs := z, history := h, trackCount := k } := hbefore
  rw [recovered_deck] at hweighed
  change _ = eightStages r c.toInt { before with linkLost := _, linkTimer := _, phase := _ } at hweighed
  generalize before = b at hstart hweighed ⊢
  generalize (sampleStep d c s).deck d = u at hdeck hcount ⊢
  subst hdeck
  generalize weighedDeck s d c = w at hcount hweighed ⊢
  by_cases hfull : (keepLast r.n (s.deck d).window c.toInt).length = r.n
  · rw [eightStages_of_full rfl (by rw [hstart]; exact hfull)] at hweighed
    subst hweighed hstart
    exact ⟨rfl, rfl, rfl, rfl, rfl, rfl, rfl, (decide_eq_true hfull).symm,
      fun hphase => by simp [weighStages, recoveredPhase, hphase], fun hcal _ _ => phase_of_full hcal, nofun,
      fun _ => ⟨rfl, rfl, rfl, rfl, rfl, isStable_iff _ _, weighStages_occupied _ _,
        decide_eq_decide.2 (by norm_cast), rfl⟩, hcount⟩
  · rw [eightStages_of_filling (by rw [hstart]; exact hfull)] at hweighed
    subst hweighed hstart
    exact ⟨rfl, rfl, rfl, rfl, rfl, rfl, rfl, (decide_eq_false hfull).symm,
      (recoveredPhase_calibrating_iff _ _).2, nofun,
      fun _ => ⟨rfl, rfl, rfl, rfl, rfl, rfl, rfl⟩, nofun, hcount⟩

end Sys2Proof.Machine

/-! PROOFS, 01_deck_weighing and 06_lanes_and_barriers. What a lane keeps while routes fire and other lanes are at work, and
the sequencer's operations as work at one lane alone. -/

namespace Sys2Proof.Machine
open Sys2Proof

/-! ### A lane aside of the work (R158 to R161) -/

section Aside

variable {s t u : State} {k l : Lane}

/-- A route can start a capture at a lane: it is in AUTO and its deck is in neither of the two phases that refuse (R18). -/
def Startable (s : State) (k : Lane) : Prop :=
  (s.lane k).params.mode = .auto ∧ (s.deck k).phase ≠ .fault ∧ (s.deck k).phase ≠ .calibrating

/-- What routes that fire, and lanes at work elsewhere, leave a lane: all that no route reaches, the notices pending anywhere,
and, where no capture can start, the deck and the sequencer's state. -/
structure Aside (k : Lane) (s t : State) : Prop where
  lane : (t.lane k).outsideRoutes = (s.lane k).outsideRoutes
  core : (t.deck k).outsideRoutes = (s.deck k).outsideRoutes
  kept : ¬ Startable s k → (t.lane k).seqr.state = (s.lane k).seqr.state ∧ t.deck k = s.deck k
  notices : NoticesGrow s t

theorem Aside.of_same (hl : t.lane k = s.lane k) (hd : t.deck k = s.deck k) (hn : NoticesGrow s t) : Aside k s t :=
  ⟨by rw [hl], by rw [hd], fun _ => ⟨by rw [hl], hd⟩, hn⟩

theorem Aside.refl (k : Lane) (s : State) : Aside k s s := .of_same rfl rfl (.refl s)

theorem Aside.params (h : Aside k s t) : (t.lane k).params = (s.lane k).params := by
  have hparams := congrArg LaneUnit.params h.lane
  exact hparams

theorem Aside.startable_iff (h : Aside k s t) : Startable t k ↔ Startable s k := by
  have hcore := congrArg DeckUnit.phase h.core
  have hphase : (t.deck k).phase = (s.deck k).phase := hcore
  unfold Startable
  rw [h.params, hphase]

theorem Aside.trans (h : Aside k s t) (g : Aside k t u) : Aside k s u where
  lane := g.lane.trans h.lane
  core := g.core.trans h.core
  kept hs := by
    obtain ⟨hstate, hdeck⟩ := h.kept hs
    obtain ⟨gstate, gdeck⟩ := g.kept (mt h.startable_iff.1 hs)
    exact ⟨gstate.trans hstate, gdeck.trans hdeck⟩
  notices := h.notices.trans g.notices

/-- What no route reaches is kept at every lane; the rest must be shown. -/
theorem Aside.of_outsideRoutes (h : t.outsideRoutes = s.outsideRoutes) (hn : NoticesGrow s t)
    (hkept : ¬ Startable s k → (t.lane k).seqr.state = (s.lane k).seqr.state ∧ t.deck k = s.deck k) : Aside k s t where
  lane := by simpa [State.lane, State.outsideRoutes] using congrArg (fun x => x.lanes.get k) h
  core := by simpa [State.deck, State.outsideRoutes] using congrArg (fun x => x.decks.get k) h
  kept := hkept
  notices := hn

/-- A change that leaves the lane as it is changes nothing. -/
theorem modLane_id (s : State) (l : Lane) {f : LaneUnit → LaneUnit} (h : f (s.lane l) = s.lane l) : s.modLane l f = s := by
  have hput : s.lanes.put l (s.lanes.get l) = s.lanes := by cases l <;> rfl
  unfold State.modLane
  rw [show f (s.lanes.get l) = s.lanes.get l from h, hput]

/-- The ports stand as they stood, and so do the sequencer's state and the deck of a lane where no capture can start. -/
structure Still (k : Lane) (s t : State) : Prop where
  ports : t.ports = s.ports
  kept : ¬ Startable s k → (t.lane k).seqr.state = (s.lane k).seqr.state ∧ t.deck k = s.deck k

theorem Still.refl (k : Lane) (s : State) : Still k s s := ⟨rfl, fun _ => ⟨rfl, rfl⟩⟩

theorem Still.of_modLane (l : Lane) (f : LaneUnit → LaneUnit)
    (hf : (f (s.lane l)).seqr.state = (s.lane l).seqr.state) : Still k s (s.modLane l f) := by
  refine ⟨rfl, fun _ => ⟨?_, rfl⟩⟩
  by_cases hk : k = l
  · subst hk; rw [modLane_lane, hf]
  · rw [modLane_lane_of_ne s f hk]

theorem Still.of_modSeq (l : Lane) (f : Sequencer → Sequencer) (hf : (f (s.lane l).seqr).state = (s.lane l).seqr.state) :
    Still k s (s.modSeq l f) := .of_modLane l _ hf
theorem Still.of_modBarrier (l : Lane) (f : Barrier → Barrier) : Still k s (s.modBarrier l f) := .of_modLane l _ rfl
theorem Still.of_modReport (l : Lane) (f : LaneReport → LaneReport) : Still k s (s.modReport l f) := .of_modLane l _ rfl

theorem lightTask_still (light : Light) (k l : Lane) (s : State) : Still k s (lightTask light l s).2 := by
  unfold lightTask
  split
  · exact .refl k s
  · dsimp only
    exact .of_modSeq l _ rfl
  · dsimp only
    exact .of_modSeq l _ rfl

theorem barrierTask_still {request : Lane → State → State} (hr : ∀ l s, ∃ f, request l s = s.modBarrier l f) (k l : Lane)
    (s : State) : Still k s (barrierTask request l s).2 := by
  unfold barrierTask
  split
  · obtain ⟨f, hf⟩ := hr l s
    rw [hf]
    exact .of_modBarrier l f
  · exact .refl k s

/-- A deck that accepts a start is in neither phase that refuses one. -/
theorem startRefusal_none_phase (h : startRefusal s l = none) :
    (s.deck l).phase ≠ .fault ∧ (s.deck l).phase ≠ .calibrating := by
  refine ⟨fun hp => ?_, fun hp => ?_⟩
  · cases (startRefusal_state (.inr (.inl hp))).symm.trans h
  · cases (startRefusal_state (.inr (.inr (.inl hp)))).symm.trans h

/-- An accepted start works at its lane's deck and sequencer. -/
theorem acceptStart_eq (l : Lane) (n : Nat) (s : State) :
    ∃ f g, acceptStart l n s = (s.modDeck l f).modLane l g := by
  unfold acceptStart
  dsimp only
  split
  · exact ⟨_, _, rfl⟩
  · exact ⟨_, id, (modLane_id _ l rfl).symm⟩

/-- A start in AUTO works at its lane alone, and there only where a capture can start. -/
theorem startForHead_still (k l : Lane) (n : Nat) (s : State) (hmode : (s.lane l).params.mode = .auto) :
    Still k s (startForHead l n s).2 := by
  unfold startForHead
  split
  · rename_i haccepts
    obtain ⟨f, g, heq⟩ := acceptStart_eq l n s
    rw [heq]
    refine ⟨rfl, fun hk => ?_⟩
    have hne : k ≠ l := fun h => hk (h ▸ ⟨hmode, startRefusal_none_phase haccepts⟩)
    exact ⟨by rw [modLane_lane_of_ne _ _ hne, modDeck_lane], modDeck_deck_of_ne s _ hne⟩
  · dsimp only [reportNotStarted]
    exact .of_modReport l _

theorem startCaptureTask_still (k l : Lane) (s : State) : Still k s (startCaptureTask l s).2 := by
  unfold startCaptureTask
  split
  · rename_i hauto
    obtain ⟨hmode, -, -⟩ := hauto
    split
    · exact .refl k s
    · split
      · exact startForHead_still k l _ s hmode
      · exact .refl k s
  · exact .refl k s

/-- A task on a lane is its effect there, or none where no lane is named. -/
theorem onTaskLane_still {f : Lane → State → Bool × State} (hf : ∀ l, Still k s (f l s).2) (i : Nat) :
    Still k s (onTaskLane i s f).2 := by
  unfold onTaskLane
  split
  · exact .refl k s
  · exact hf _

theorem takeTask_aside (k : Lane) (task : TaskKind) (i : Nat) (s : State) : Aside k s (takeTask task i s).2 := by
  have of_still : Still k s (takeTask task i s).2 → Aside k s (takeTask task i s).2 := fun h =>
    .of_outsideRoutes (takeTask_outsideRoutes s task i) (.of_ports h.ports) h.kept
  cases task with
  | outputSet | outputClear | outputPulse => exact .of_same rfl rfl (.of_ports rfl)
  | lightRed => exact of_still (onTaskLane_still (fun l => lightTask_still .red k l s) i)
  | lightGreen => exact of_still (onTaskLane_still (fun l => lightTask_still .green k l s) i)
  | barrierRaise =>
    exact of_still (onTaskLane_still (fun l => barrierTask_still (request := raiseRequest) (fun _ _ => ⟨_, rfl⟩) k l s) i)
  | barrierLower =>
    exact of_still (onTaskLane_still (fun l => barrierTask_still (request := lowerRequest) (fun _ _ => ⟨_, rfl⟩) k l s) i)
  | startCapture => exact of_still (onTaskLane_still (fun l => startCaptureTask_still k l s) i)
  | notice =>
    unfold takeTask
    dsimp only
    split
    · exact .refl k s
    · exact .of_same rfl rfl (raiseNotice_grows _ _ s)

theorem fireRoute_aside (k : Lane) (e : EventKind) (x : Option Nat) (s : State) (p : Nat × Route) :
    Aside k s (fireRoute e x s p) := by
  unfold fireRoute
  split
  · exact (takeTask_aside k p.2.task p.2.taskIndex s).trans (.of_same rfl rfl (.of_ports rfl))
  · exact .refl k s

theorem raiseEvent_aside (k : Lane) (e : EventKind) (x : Option Nat) (s : State) : Aside k s (raiseEvent e x s) := by
  unfold raiseEvent
  generalize s.routes.routes = table
  induction table generalizing s with
  | nil => exact .refl k s
  | cons p ps ih => exact (fireRoute_aside k e x s p).trans (ih _)

theorem raiseAt_aside (k : Lane) (e : EventKind) (l : Lane) (s : State) : Aside k s (raiseAt e l s) :=
  raiseEvent_aside k e _ s

theorem raiseNotice_aside (k : Lane) (n : Notice) (p : PortId) (s : State) : Aside k s (raiseNotice n p s) :=
  .of_same rfl rfl (raiseNotice_grows n p s)

theorem raiseLaneOffice_aside (k : Lane) (n : Notice) (l : Lane) (s : State) : Aside k s (raiseLaneOffice n l s) :=
  (raiseNotice_aside k n _ s).trans (raiseNotice_aside k n _ _)

end Aside

end Sys2Proof.Machine


/-! ### The sequencer's operations as work at one lane (R99 to R113) -/

namespace Sys2Proof.Machine
open Sys2Proof

section LaneWork

variable {s t u : State} {l k : Lane}

/-- At most a lane and its deck have changed. -/
def LaneWork (l : Lane) (s t : State) : Prop := ∃ f g, t = (s.modLane l f).modDeck l g

theorem LaneWork.of_modLane (f : LaneUnit → LaneUnit) : LaneWork l s (s.modLane l f) :=
  ⟨f, id, (modDeck_id _ l rfl).symm⟩
theorem LaneWork.of_modSeq (f : Sequencer → Sequencer) : LaneWork l s (s.modSeq l f) := .of_modLane _
theorem LaneWork.of_modBarrier (f : Barrier → Barrier) : LaneWork l s (s.modBarrier l f) := .of_modLane _
theorem LaneWork.of_modReport (f : LaneReport → LaneReport) : LaneWork l s (s.modReport l f) := .of_modLane _
theorem LaneWork.of_modPrinter (f : PrintEngine → PrintEngine) : LaneWork l s (s.modPrinter l f) := .of_modLane _
theorem LaneWork.of_modDeck (g : DeckUnit → DeckUnit) : LaneWork l s (s.modDeck l g) :=
  ⟨id, g, by rw [modLane_id s l rfl]⟩
theorem LaneWork.refl (l : Lane) (s : State) : LaneWork l s s := ⟨id, id, by rw [modLane_id s l rfl, modDeck_id s l rfl]⟩

theorem LaneWork.trans (h : LaneWork l s t) (g : LaneWork l t u) : LaneWork l s u := by
  obtain ⟨f, d, rfl⟩ := h
  obtain ⟨f', d', rfl⟩ := g
  exact ⟨f' ∘ f, d' ∘ d, by cases l <;> rfl⟩

theorem LaneWork.lane_of_ne (h : LaneWork l s t) (hk : k ≠ l) : t.lane k = s.lane k := by
  obtain ⟨f, g, rfl⟩ := h
  exact modLane_lane_of_ne s f hk

theorem LaneWork.deck_of_ne (h : LaneWork l s t) (hk : k ≠ l) : t.deck k = s.deck k := by
  obtain ⟨f, g, rfl⟩ := h
  exact modDeck_deck_of_ne (s.modLane l f) g hk

theorem LaneWork.ports (h : LaneWork l s t) : t.ports = s.ports := by
  obtain ⟨f, g, rfl⟩ := h
  rfl

theorem LaneWork.routes (h : LaneWork l s t) : t.routes = s.routes := by
  obtain ⟨f, g, rfl⟩ := h
  rfl

theorem LaneWork.aside (h : LaneWork l s t) (hk : k ≠ l) : Aside k s t :=
  .of_same (h.lane_of_ne hk) (h.deck_of_ne hk) (.of_ports h.ports)

/-- An operation at one lane that neither reads nor changes a port. -/
structure LaneOp (l : Lane) (op : State → State) : Prop where
  works : ∀ s, LaneWork l s (op s)
  modPort : ∀ s p f, op (s.modPort p f) = (op s).modPort p f

theorem raiseRequest_laneOp (l : Lane) : LaneOp l (raiseRequest l) := ⟨fun _ => .of_modBarrier _, fun _ _ _ => rfl⟩
theorem lowerRequest_laneOp (l : Lane) : LaneOp l (lowerRequest l) := ⟨fun _ => .of_modBarrier _, fun _ _ _ => rfl⟩

theorem LaneOp.id (l : Lane) : LaneOp l fun s => s := ⟨.refl l, fun _ _ _ => rfl⟩

theorem LaneOp.of_modSeq {f : State → Sequencer → Sequencer} (hf : ∀ s p g, f (s.modPort p g) = f s) :
    LaneOp l fun s => s.modSeq l (f s) :=
  ⟨fun _ => .of_modSeq _, fun s p g => by rw [hf]; rfl⟩

theorem LaneOp.comp {a b : State → State} (hb : LaneOp l b) (ha : LaneOp l a) : LaneOp l fun s => b (a s) :=
  ⟨fun s => (ha.works s).trans (hb.works _), fun s p f => by rw [ha.modPort, hb.modPort]⟩

theorem LaneOp.ite {c : State → Prop} [DecidablePred c] {a b : State → State} (hc : ∀ s p f, c (State.modPort s p f) ↔ c s)
    (ha : LaneOp l a) (hb : LaneOp l b) : LaneOp l fun s => if c s then a s else b s where
  works s := by
    split
    · exact ha.works s
    · exact hb.works s
  modPort s p f := by
    simp only [hc]
    split
    · exact ha.modPort s p f
    · exact hb.modPort s p f

/-- A choice by the class of the head (R99). -/
theorem LaneOp.byClass {a : HeadClass → State → State} (ha : ∀ c, LaneOp l (a c)) :
    LaneOp l fun s => a (headClass s l) s :=
  ⟨fun s => (ha _).works s, fun s p f => (ha (headClass s l)).modPort s p f⟩

theorem lowerUnlessDown_laneOp (l : Lane) : LaneOp l (lowerUnlessDown l) :=
  .ite (fun _ _ _ => Iff.rfl) (.id l) (lowerRequest_laneOp l)

theorem enterOpen_laneOp (l : Lane) : LaneOp l (enterOpen l) :=
  .ite (fun _ _ _ => Iff.rfl) (.of_modSeq fun _ _ _ => rfl) (.of_modSeq fun _ _ _ => rfl)

theorem enterReleasing_laneOp (l : Lane) : LaneOp l (enterReleasing l) :=
  (LaneOp.ite (c := fun s => (s.lane l).barrier.state = .up) (fun _ _ _ => Iff.rfl) (enterOpen_laneOp l) (.id l)).comp
    ((raiseRequest_laneOp l).comp (.of_modSeq fun _ _ _ => rfl))

theorem enterHeld_laneOp (l : Lane) : LaneOp l (enterHeld l) :=
  (lowerUnlessDown_laneOp l).comp (.of_modSeq fun _ _ _ => rfl)

theorem startForHead_laneOp (l : Lane) (n : Nat) : LaneOp l fun s => (startForHead l n s).2 where
  works s := by
    unfold startForHead
    split
    · obtain ⟨f, g, heq⟩ := acceptStart_eq l n s
      dsimp only
      rw [heq]
      exact (LaneWork.of_modDeck f).trans (.of_modLane g)
    · dsimp only [reportNotStarted]
      exact .of_modReport _
  modPort s p f := by
    have hrefusal : startRefusal (s.modPort p f) l = startRefusal s l := rfl
    unfold startForHead
    rw [hrefusal]
    split
    · exact acceptStart_modPort s l n p f
    · rfl

theorem autoStart_laneOp (l : Lane) : LaneOp l (autoStart l) where
  works s := by
    unfold autoStart
    split
    · exact .refl l s
    · exact (startForHead_laneOp l _).works s
  modPort s p f := by
    have hhead : headNumber (s.modPort p f) l = headNumber s l := rfl
    unfold autoStart
    rw [hhead]
    split
    · rfl
    · exact (startForHead_laneOp l _).modPort s p f

theorem actInOccupied_laneOp (l : Lane) (auto : Bool) : LaneOp l (actInOccupied l auto) := by
  refine .byClass (a := fun c s => match c with
    | .capturable => if auto && (s.lane l).params.autoCapture then autoStart l s else s
    | .cleared => enterReleasing l s
    | .holding => enterHeld l s
    | .none => s) fun c => ?_
  cases c with
  | capturable => exact .ite (fun _ _ _ => Iff.rfl) (autoStart_laneOp l) (.id l)
  | cleared => exact enterReleasing_laneOp l
  | holding => exact enterHeld_laneOp l
  | none => exact .id l

theorem enterOccupied_laneOp (l : Lane) : LaneOp l (enterOccupied l) :=
  (actInOccupied_laneOp l true).comp (.of_modSeq fun _ _ _ => rfl)

theorem enterIdle_laneOp (l : Lane) : LaneOp l (enterIdle l) := .of_modSeq fun _ _ _ => rfl

theorem closingDone_laneOp (l : Lane) : LaneOp l (closingDone l) :=
  .ite (fun _ _ _ => Iff.rfl) (enterOccupied_laneOp l) (enterIdle_laneOp l)

theorem enterClosing_laneOp (l : Lane) : LaneOp l (enterClosing l) :=
  (LaneOp.ite (c := fun s => (s.lane l).barrier.state = .down) (fun _ _ _ => Iff.rfl) (closingDone_laneOp l) (.id l)).comp
    ((lowerRequest_laneOp l).comp (.of_modSeq fun _ _ _ => rfl))

/-- Settling, case by case of the barrier, the head's class and the arm (R103). -/
theorem settle_laneOp (l : Lane) : LaneOp l (settle l) := by
  have idle : LaneOp l fun s => enterIdle l (s.modSeq l fun q => { q with released := none }) :=
    (enterIdle_laneOp l).comp (.of_modSeq fun _ _ _ => rfl)
  have occupied : LaneOp l fun s => enterOccupied l (s.modSeq l fun q => { q with released := none }) :=
    (enterOccupied_laneOp l).comp (.of_modSeq fun _ _ _ => rfl)
  have closing : LaneOp l fun s =>
      if (s.lane l).barrier.state ≠ .down then enterClosing l s
      else if (s.lane l).seqr.occupied then enterOccupied l (s.modSeq l fun q => { q with released := none })
      else enterIdle l (s.modSeq l fun q => { q with released := none }) :=
    .ite (fun _ _ _ => Iff.rfl) (enterClosing_laneOp l) (.ite (fun _ _ _ => Iff.rfl) occupied idle)
  refine .ite (fun _ _ _ => Iff.rfl) (.of_modSeq fun _ _ _ => rfl) (LaneOp.comp (.byClass (a := fun c s => match c with
    | .holding => enterHeld l s
    | .cleared =>
      if (s.lane l).seqr.occupied then enterReleasing l s
      else if (s.lane l).barrier.state = .down then enterIdle l (s.modSeq l fun q => { q with released := none })
      else enterClosing l s
    | .capturable | .none =>
      if (s.lane l).barrier.state ≠ .down then enterClosing l s
      else if (s.lane l).seqr.occupied then enterOccupied l (s.modSeq l fun q => { q with released := none })
      else enterIdle l (s.modSeq l fun q => { q with released := none })) fun c => ?_) (.of_modSeq fun _ _ _ => rfl))
  cases c with
  | holding => exact enterHeld_laneOp l
  | cleared =>
    exact .ite (fun _ _ _ => Iff.rfl) (enterReleasing_laneOp l)
      (.ite (fun _ _ _ => Iff.rfl) idle (enterClosing_laneOp l))
  | capturable | none => exact closing

theorem enterClosed_laneOp (l : Lane) : LaneOp l (enterClosed l) :=
  (lowerRequest_laneOp l).comp (.of_modSeq fun _ _ _ => rfl)

theorem captureFailed_laneOp (l : Lane) : LaneOp l (captureFailed l) :=
  .ite (fun _ _ _ => Iff.rfl)
    (.ite (fun _ _ _ => Iff.rfl) ((actInOccupied_laneOp l false).comp (.of_modSeq fun _ _ _ => rfl)) (enterIdle_laneOp l))
    (.id l)

theorem setUnannounced_works (l : Lane) (f : Sequencer → UnannouncedTimer) (s : State) :
    LaneWork l s (setUnannounced l f s) := .of_modSeq _

theorem syncUnannounced_laneOp (l : Lane) : LaneOp l (syncUnannounced l) :=
  ⟨fun s => setUnannounced_works l _ s, fun _ _ _ => rfl⟩

theorem stopLane_laneOp (l : Lane) : LaneOp l (stopLane l) :=
  ⟨fun _ => (LaneWork.of_modSeq _).trans (setUnannounced_works l _ _), fun _ _ _ => rfl⟩

theorem restartSequencer_laneOp (l : Lane) : LaneOp l (restartSequencer l) where
  works s := by
    unfold restartSequencer
    split
    · exact (settle_laneOp l).works s
    · exact (enterClosed_laneOp l).works s
    · exact .of_modSeq _
  modPort s p f := by
    unfold restartSequencer
    rw [modPort_lane]
    split
    · exact (settle_laneOp l).modPort s p f
    · exact (enterClosed_laneOp l).modPort s p f
    · rfl

theorem reportUp_laneOp (l : Lane) : LaneOp l (reportUp l) where
  works s := by
    unfold reportUp
    split
    · split
      · exact (enterOpen_laneOp l).works s
      · exact .refl l s
    · split
      · exact .of_modSeq _
      · exact .refl l s
    · exact .refl l s
  modPort s p f := by
    unfold reportUp
    rw [modPort_lane]
    split
    · split
      · exact (enterOpen_laneOp l).modPort s p f
      · rfl
    · split <;> rfl
    · rfl

end LaneWork

end Sys2Proof.Machine

/-! PROOFS, 01_deck_weighing. The end of a capture, the link fault, the two timeouts and the tracking step (R1 to R3, R20 to R23,
R40). -/

namespace Sys2Proof.Machine
open Sys2Proof

/-! ### A capture that ends FAILED (R20, R21, R23) -/

section EndCapture

variable {s t : State} {d k l : Deck}

theorem enterReleasing_decks (l : Lane) (s : State) : (enterReleasing l s).decks = s.decks := by
  have opened : ∀ x : State, (enterOpen l x).decks = x.decks := fun x => by
    unfold enterOpen
    split <;> rfl
  unfold enterReleasing
  dsimp only
  split
  · exact opened _
  · rfl

theorem enterHeld_decks (l : Lane) (s : State) : (enterHeld l s).decks = s.decks := by
  unfold enterHeld lowerUnlessDown
  split <;> rfl

/-- The end of a capture is no moment at which the sequencer starts another (R101). -/
theorem captureFailed_decks (l : Lane) (s : State) : (captureFailed l s).decks = s.decks := by
  have act : ∀ x : State, (actInOccupied l false x).decks = x.decks := fun x => by
    unfold actInOccupied
    split
    · rfl
    · exact enterReleasing_decks l x
    · exact enterHeld_decks l x
    · rfl
  unfold captureFailed
  split
  · split
    · exact act _
    · rfl
  · rfl

theorem endCapture_of_none (h : (s.deck d).capture = none) (r : CaptureReason) : endCapture d r s = s := by
  unfold endCapture endCaptureBy
  rw [h]

/-- What ends with a capture at its lane, before the event and the notice. -/
def captureDropped (d : Deck) (r : CaptureReason) (s : State) : State :=
  (captureFailed d (dropCapture d s)).modReport d fun x => { x with lastCapture := .failed r }

theorem endCapture_of_some (h : (s.deck d).capture ≠ none) (r : CaptureReason) :
    endCapture d r s = raiseLaneOffice .capture d (raiseAt .captureFailed d (captureDropped d r s)) := by
  unfold endCapture endCaptureBy
  split
  · exact absurd ‹_› h
  · rfl

theorem captureDropped_works (d : Deck) (r : CaptureReason) (s : State) : LaneWork d s (captureDropped d r s) :=
  (LaneWork.of_modDeck _).trans (((captureFailed_laneOp d).works _).trans (.of_modReport _))

theorem captureDropped_outsideYard (d : Deck) (r : CaptureReason) (s : State) :
    (captureDropped d r s).outsideYard = s.outsideYard := by
  have hdrop : (dropCapture d s).outsideYard = s.outsideYard := modDeck_outsideYard s d _ fun _ => rfl
  simp [captureDropped, hdrop]

/-- Outside the yard's reach a lane is the same. -/
theorem lane_of_outsideYard (h : t.outsideYard = s.outsideYard) (l : Lane) :
    (t.lane l).outsideYard = (s.lane l).outsideYard := by
  simpa [State.lane, State.outsideYard] using congrArg (fun x => x.lanes.get l) h

theorem captureDropped_deck (h : (s.deck d).capture ≠ none) (r : CaptureReason) : (captureDropped d r s).deck d =
    { s.deck d with capture := none, captureLate := s.pending.count (.captureTimeout d) } := by
  have hdecks : (captureDropped d r s).deck d = (dropCapture d s).deck d :=
    congrArg (fun x => x.get d) (captureFailed_decks d (dropCapture d s))
  have hsome : (s.deck d).capture.isSome = true := Option.isSome_iff_ne_none.2 h
  rw [hdecks, dropCapture, modDeck_deck, hsome]
  rfl

theorem captureDropped_report (d : Deck) (r : CaptureReason) (s : State) :
    ((captureDropped d r s).lane d).report.lastCapture = .failed r := by
  rw [captureDropped, modReport_lane]

/-- A capture's end is kept from the other lanes, but for its event's routes. -/
theorem endCapture_aside (hk : k ≠ d) (r : CaptureReason) (s : State) : Aside k s (endCapture d r s) := by
  by_cases h : (s.deck d).capture = none
  · rw [endCapture_of_none h]
    exact .refl k s
  · rw [endCapture_of_some h]
    exact ((captureDropped_works d r s).aside hk).trans ((raiseAt_aside k _ d _).trans (raiseLaneOffice_aside k _ d _))

theorem endCapture_grows (d : Deck) (r : CaptureReason) (s : State) : NoticesGrow s (endCapture d r s) := by
  by_cases h : (s.deck d).capture = none
  · rw [endCapture_of_none h]
    exact .refl s
  · rw [endCapture_of_some h]
    exact (NoticesGrow.of_ports (captureDropped_works d r s).ports).trans
      ((raiseAt_aside d _ d _).notices.trans (raiseLaneOffice_grows _ d _))

/-- Where no capture can start, the ended one is not followed by another. -/
theorem endCapture_deck (hs : ¬ Startable s d) (r : CaptureReason) :
    ∃ n, (endCapture d r s).deck d = { s.deck d with capture := none, captureLate := n } := by
  by_cases h : (s.deck d).capture = none
  · rw [endCapture_of_none h]
    exact ⟨(s.deck d).captureLate, by rw [← h]⟩
  · refine ⟨s.pending.count (.captureTimeout d), ?_⟩
    have hdeck := captureDropped_deck h r
    have hlane := congrArg LaneUnit.params (lane_of_outsideYard (captureDropped_outsideYard d r s) d)
    have hparams : ((captureDropped d r s).lane d).params = (s.lane d).params := hlane
    have hstart : ¬ Startable (captureDropped d r s) d := by
      unfold Startable at hs ⊢
      rwa [hparams, hdeck]
    have haside := (raiseAt_aside d .captureFailed d (captureDropped d r s)).trans (raiseLaneOffice_aside d .capture d _)
    obtain ⟨-, hkept⟩ := haside.kept hstart
    rw [endCapture_of_some h, hkept, hdeck]

end EndCapture

/-! ### The link fault (R3) -/

section LinkFault

variable {s : State} {d : Deck}

/-- The state in which a link fault ends the capture. -/
def linkLostAt (d : Deck) (s : State) : State :=
  (trackStep d s).modDeck d (DeckUnit.linkFault (s.waiting (.linkSilenceTimeout d)))

theorem linkFault_eq (d : Deck) (s : State) :
    linkFault d s = raiseLaneOffice .deck d (raiseAt .deckFault d (endCapture d .deckFault (linkLostAt d s))) := rfl

/-- Of the tracking step before it a link fault leaves the zero offset alone. -/
theorem linkLostAt_deck (d : Deck) (s : State) : ∃ z, (linkLostAt d s).deck d =
    { (s.deck d).linkFault (s.waiting (.linkSilenceTimeout d)) with zs := z } := by
  obtain ⟨z, h, n, hdeck⟩ := trackStep_deck s d
  refine ⟨z, ?_⟩
  rw [linkLostAt, modDeck_deck, hdeck]
  rfl

theorem linkFault_not_startable (d : Deck) (s : State) : ¬ Startable (linkLostAt d s) d := by
  rintro ⟨-, hfault, hcal⟩
  obtain ⟨z, hdeck⟩ := linkLostAt_deck d s
  rw [hdeck] at hfault hcal
  unfold DeckUnit.linkFault at hfault hcal
  cases hp : (s.deck d).phase <;> simp [hp] at hfault hcal

/-- The link fault of a deck, its capture ended for good: in the phase it leaves no route starts another. -/
theorem linkFault_deck (d : Deck) (s : State) : ∃ z n, (linkFault d s).deck d =
    { (s.deck d).linkFault (s.waiting (.linkSilenceTimeout d)) with zs := z, capture := none, captureLate := n } := by
  obtain ⟨z, hdeck⟩ := linkLostAt_deck d s
  obtain ⟨n, hend⟩ := endCapture_deck (linkFault_not_startable d s) .deckFault
  have hstart : ¬ Startable (endCapture d .deckFault (linkLostAt d s)) d := by
    have hnot := linkFault_not_startable d s
    have hlane := congrArg LaneUnit.params (lane_of_outsideYard (endCapture_outsideYard (linkLostAt d s) d .deckFault) d)
    have hparams : ((endCapture d .deckFault (linkLostAt d s)).lane d).params = ((linkLostAt d s).lane d).params := hlane
    unfold Startable at hnot ⊢
    rwa [hparams, hend]
  have haside := (raiseAt_aside d .deckFault d (endCapture d .deckFault (linkLostAt d s))).trans
    (raiseLaneOffice_aside d .deck d _)
  obtain ⟨-, hkept⟩ := haside.kept hstart
  exact ⟨z, n, by rw [linkFault_eq, hkept, hend, hdeck]⟩

theorem linkFault_deck_of_ne {k : Deck} (hk : k ≠ d) :
    ((linkFault d s).deck k).outsideRoutes = (s.deck k).outsideRoutes := by
  have hcores := deckCores_get ((raiseLaneOffice_deckCores _ .deck d).trans ((raiseAt_deckCores _ .deckFault d).trans
    (endCapture_deckCores (linkLostAt d s) d .deckFault))) k
  obtain ⟨z, h, n, heq⟩ := trackStep_eq s d
  have hbefore : (linkLostAt d s).deck k = s.deck k := by
    rw [linkLostAt, modDeck_deck_of_ne _ _ hk, heq, modDeck_deck_of_ne _ _ hk]
  rw [linkFault_eq, hcores, hbefore]

theorem linkFault_keeps (d : Deck) (s : State) : KeepsAllBut yardParts s (linkFault d s) := by
  have hy : HidesYard yardParts := fun _ h => h
  unfold KeepsAllBut
  rw [linkFault_eq, raiseLaneOffice_hide hy, raiseAt_hide hy, endCapture_hide hy, linkLostAt, modDeck_hide hy.decks,
    trackStep_hide s d hy.decks]

theorem linkFault_phase (u : DeckUnit) (n : Nat) :
    (u.linkFault n).phase = if u.phase = .calibrating then .calibrating else .fault := by
  unfold DeckUnit.linkFault
  cases u.phase <;> rfl

theorem exec_captureTimeout (hpower : s.power = true) (hlate : (s.deck d).captureLate = 0) :
    exec (.captureTimeout d) s = .next (endCapture d .timeout s) := by
  simp [exec, execCaptureTimeout, whenDue, whenRunning, hpower, hlate]

/-- A link fault comes by a CELL_ERROR sample or by the silence timer, the mark clear. -/
theorem exec_linkFault {i : Instr} {c : BitVec 24} (hpower : s.power = true) (hlost : (s.deck d).linkLost = false)
    (hi : i = .sampleCellError d c ∨
      (i = .linkSilenceTimeout d ∧ (s.deck d).linkTimer.late = 0 ∧ (s.deck d).linkTimer.deadline ≠ none)) :
    exec i s = .next (linkFault d s) := by
  rcases hi with rfl | ⟨rfl, hlate, hrun⟩
  · simp [exec, execSampleCellError, whenRunning, hpower, hlost]
  · simp [exec, execLinkSilenceTimeout, whenDue, whenRunning, hpower, hlost, hlate, hrun]

end LinkFault

/-- The step of R40: Zs moves by the net fine weight where it stays within 4 % of Max. -/
theorem track_eq (r : CalRecord) (u : DeckUnit) : u.track r =
    if 25 * (u.zs + u.netFine).natAbs ≤ 10 * r.max then
      { u with zs := u.zs + u.netFine, history := u.history.map fun h => h - u.netFine, trackCount := 0 }
    else { u with trackCount := 0 } := by
  have hmove : u.zs + u.netFine - u.zs = u.netFine := by omega
  unfold DeckUnit.track
  simp only [withinZeroRange, decide_eq_true_eq, DeckUnit.setZero, hmove]
  split <;> rfl

/-- Settles O55: the link fault and a capture's end in the deck they leave, and the timers by whether an expiry is late. -/
theorem deckFaultsAndTimeouts : Obligations.DeckFaultsAndTimeouts := by
  intro s d hpower link
  refine ⟨fun c hlost => ?_, fun hlate => ?_, fun hlate hidle => ?_, fun c hrun hpending => ?_, fun c i hlost hi => ?_,
    fun hlate => ?_, fun hlate hnone => ?_, fun hlate hsome => ?_, fun hcount => ?_, fun hcount => ?_⟩
  · simp [exec, execSampleCellError, whenRunning, hpower, hlost]
  · have hforget := modDeck_congr s d (f := fun u => { u with linkTimer := u.linkTimer.forget })
      (g := fun u => { u with linkTimer := { link with late := link.late - 1 } }) rfl
    exact (if_pos hlate).trans (congrArg _ hforget)
  · have hlate : (s.deck d).linkTimer.late = 0 := hlate
    have hidle : (s.deck d).linkLost = true ∨ (s.deck d).linkTimer.deadline = none := hidle
    rcases hidle with h | h
    · simp [exec, execLinkSilenceTimeout, whenDue, whenRunning, hpower, hlate, h]
    · simp [exec, execLinkSilenceTimeout, whenDue, whenRunning, hpower, hlate, h]
  · obtain ⟨t, hexec, ⟨-, -, hlost, htimer, -⟩, -⟩ := sampleRunsTheStages s d c hpower
    refine ⟨t, hexec, hlost, if_pos ?_⟩
    have hsome : (s.deck d).linkTimer.deadline.isSome = true := Option.isSome_iff_ne_none.2 hrun
    rw [htimer, Timer.brought, if_pos hsome]
    exact List.count_pos_iff.2 hpending
  · refine ⟨linkFault d s, exec_linkFault hpower hlost hi, ?_, ?_, ?_, fun k hk => linkFault_deck_of_ne hk, linkFault_keeps d s⟩
    · obtain ⟨z, n, hdeck⟩ := linkFault_deck d s
      intro u
      have hu : u = _ := hdeck
      have hphase := linkFault_phase (s.deck d) (s.waiting (.linkSilenceTimeout d))
      rw [hu]
      exact ⟨rfl, rfl, rfl, rfl, rfl, rfl, rfl, rfl, rfl, rfl, rfl, rfl, rfl, rfl, hphase⟩
    · exact (noticed_raiseLaneOffice _ d _).1
    · exact (noticed_raiseLaneOffice _ d _).2
  · exact if_pos hlate
  · rw [exec_captureTimeout hpower hlate, endCapture_of_none hnone]
  · refine ⟨endCapture d .timeout s, exec_captureTimeout hpower hlate, endCapture_outsideYard s d _, ?_⟩
    rw [endCapture_of_some hsome]
    refine ⟨(noticed_raiseLaneOffice _ d _).1, (noticed_raiseLaneOffice _ d _).2, fun hroutes => ?_⟩
    have hquiet : raiseAt .captureFailed d (captureDropped d .timeout s) = captureDropped d .timeout s :=
      raiseEvent_of_none _ _ _ (by rw [(captureDropped_works d .timeout s).routes]; exact hroutes)
    rw [hquiet]
    have hdeck := captureDropped_deck hsome .timeout
    exact ⟨congrArg DeckUnit.capture hdeck, congrArg DeckUnit.captureLate hdeck, captureDropped_report d .timeout s⟩
  · simp [exec, execZeroTrackingStep, whenRunning, hpower, trackStep, hcount]
  · simp only [exec, execZeroTrackingStep, whenRunning, hpower, trackStep, hcount, if_true]
    exact congrArg _ (modDeck_congr s d (track_eq _ _))

end Sys2Proof.Machine

/-! PROOFS, 06_lanes_and_barriers (R120). RESTART LANES: what the work at one lane keeps, the five steps for a lane, and the
lanes in any order. -/

namespace Sys2Proof.Machine
open Sys2Proof

/-! ### What the work at one lane keeps -/

section Working

variable {s t u : State} {k l : Lane}

/-- What work at a lane keeps: its parameters and sensors, its deck but for the capture, the ports but for their notices, of
which none is lost, and the other lanes. -/
structure Working (l : Lane) (s t : State) : Prop where
  params : (t.lane l).params = (s.lane l).params
  sensors : (t.lane l).sensors = (s.lane l).sensors
  core : (t.deck l).outsideRoutes = (s.deck l).outsideRoutes
  port : ∀ p, (t.port p).outsideRoutes = (s.port p).outsideRoutes
  notices : NoticesGrow s t
  others : ∀ k, k ≠ l → Aside k s t

theorem Working.refl (l : Lane) (s : State) : Working l s s := ⟨rfl, rfl, rfl, fun _ => rfl, .refl s, fun k _ => .refl k s⟩

theorem Working.trans (h : Working l s t) (g : Working l t u) : Working l s u where
  params := g.params.trans h.params
  sensors := g.sensors.trans h.sensors
  core := g.core.trans h.core
  port p := (g.port p).trans (h.port p)
  notices := h.notices.trans g.notices
  others k hk := (h.others k hk).trans (g.others k hk)

theorem port_of_outsideYard (h : t.outsideYard = s.outsideYard) (p : PortId) :
    (t.port p).outsideRoutes = (s.port p).outsideRoutes := by
  cases p with
  | office => simpa [State.port, Ports.get, State.outsideYard] using congrArg (fun x => x.ports.office) h
  | lane l => simpa [State.port, Ports.get, State.outsideYard] using congrArg (fun x => x.ports.lanes.get l) h

/-- Work inside the yard keeps the lane's own part; the other lanes must be shown. -/
theorem Working.of_outsideYard (h : t.outsideYard = s.outsideYard) (hn : NoticesGrow s t)
    (ho : ∀ k, k ≠ l → Aside k s t) : Working l s t := by
  have hlane := lane_of_outsideYard h l
  have hparams := congrArg LaneUnit.params hlane
  have hsensors := congrArg LaneUnit.sensors hlane
  exact ⟨hparams, hsensors, deckCores_get (deckCores_of_outsideYard h) l, port_of_outsideYard h, hn, ho⟩

theorem LaneWork.working (h : LaneWork l s t) (hy : t.outsideYard = s.outsideYard) : Working l s t :=
  .of_outsideYard hy (.of_ports h.ports) fun _ hk => h.aside hk

theorem Working.of_modPrinter (f : PrintEngine → PrintEngine) : Working l s (s.modPrinter l f) := by
  refine ⟨?_, ?_, rfl, fun _ => rfl, .of_ports rfl, fun k hk => (LaneWork.of_modPrinter f).aside hk⟩
  · rw [State.modPrinter, modLane_lane]
  · rw [State.modPrinter, modLane_lane]

theorem Working.of_templates (x : TemplateStore) : Working l s (s.setTemplates x) :=
  ⟨rfl, rfl, rfl, fun _ => rfl, .of_ports rfl, fun _ _ => .of_same rfl rfl (.of_ports rfl)⟩

theorem raiseAt_working (l : Lane) (e : EventKind) (s : State) : Working l s (raiseAt e l s) :=
  .of_outsideYard (raiseAt_outsideYard s e l) (raiseAt_aside l e l s).notices fun k _ => raiseAt_aside k e l s

theorem raiseNotice_working (l : Lane) (n : Notice) (p : PortId) (s : State) : Working l s (raiseNotice n p s) :=
  .of_outsideYard (raiseNotice_outsideYard s n p) (raiseNotice_grows n p s) fun k _ => raiseNotice_aside k n p s

theorem raiseLaneOffice_working (l : Lane) (n : Notice) (s : State) : Working l s (raiseLaneOffice n l s) :=
  (raiseNotice_working l n _ s).trans (raiseNotice_working l n _ _)

theorem endCapture_working (l : Lane) (r : CaptureReason) (s : State) : Working l s (endCapture l r s) :=
  .of_outsideYard (endCapture_outsideYard s l r) (endCapture_grows l r s) fun _ hk => endCapture_aside hk r s

theorem Working.startable_iff (h : Working l s t) : Startable t l ↔ Startable s l := by
  have hcore := congrArg DeckUnit.phase h.core
  have hphase : (t.deck l).phase = (s.deck l).phase := hcore
  unfold Startable
  rw [h.params, hphase]

end Working

/-! ### The print queue emptied (R152, R155) -/

section Jobs

variable {s : State} {l : Lane} {j : PrintJob} {rest : List PrintJob}

/-- A closed job leaves the templates' counts alone but its own. -/
theorem uncountJob_eq (j : PrintJob) (s : State) : ∃ x, uncountJob j s = s.setTemplates x := by
  unfold uncountJob
  split
  · exact ⟨s.templates, rfl⟩
  · exact ⟨_, rfl⟩

/-- A job that fails: the engine's work on it ends, the event and the notice are raised, and it leaves the queue. -/
theorem closeJob_failed (h : (s.lane l).printer.jobs = j :: rest) (a : PrintReason) : ∃ x f,
    closeJob l (.failed a) s = (raiseLaneOffice .print l (raiseAt .printFailed l
      ((s.setTemplates x).modPrinter l f))).modPrinter l fun e => { e with jobs := rest, state := .idle } := by
  obtain ⟨x, hx⟩ := uncountJob_eq j s
  refine ⟨x, fun e => { e with
    fifo := [], byteInProgress := false, lastResult := .failed a,
    pauseTimer := pauseStopped (s.setTemplates x) l e.pauseTimer }, ?_⟩
  unfold closeJob
  rw [h]
  dsimp only
  rw [hx]

theorem closeJob_of_nil (h : (s.lane l).printer.jobs = []) (r : PrintResult) : closeJob l r s = s := by
  unfold closeJob
  rw [h]

theorem closeJob_working (l : Lane) (a : PrintReason) (s : State) : Working l s (closeJob l (.failed a) s) := by
  cases h : (s.lane l).printer.jobs with
  | nil =>
    rw [closeJob_of_nil h]
    exact .refl l s
  | cons j rest =>
    obtain ⟨x, f, heq⟩ := closeJob_failed h a
    rw [heq]
    have hworked : Working l s ((s.setTemplates x).modPrinter l f) :=
      (Working.of_templates x).trans (.of_modPrinter f)
    exact hworked.trans ((raiseAt_working l .printFailed _).trans
      ((raiseLaneOffice_working l .print _).trans (.of_modPrinter _)))

theorem closeJob_jobs (l : Lane) (a : PrintReason) (s : State) :
    ((closeJob l (.failed a) s).lane l).printer.jobs = (s.lane l).printer.jobs.tail := by
  cases h : (s.lane l).printer.jobs with
  | nil =>
    rw [closeJob_of_nil h, h]
    rfl
  | cons j rest =>
    obtain ⟨x, f, heq⟩ := closeJob_failed h a
    rw [heq, State.modPrinter, modLane_lane]
    rfl

/-- The event of a failed job starts no capture where none can start. -/
theorem closeJob_deck (hs : ¬ Startable s l) (a : PrintReason) : (closeJob l (.failed a) s).deck l = s.deck l := by
  cases h : (s.lane l).printer.jobs with
  | nil => rw [closeJob_of_nil h]
  | cons j rest =>
    obtain ⟨x, f, heq⟩ := closeJob_failed h a
    have hworked : Working l s ((s.setTemplates x).modPrinter l f) :=
      (Working.of_templates x).trans (.of_modPrinter f)
    obtain ⟨-, hkept⟩ := (raiseAt_aside l .printFailed l _).kept (mt hworked.startable_iff.1 hs)
    rw [heq]
    exact hkept

theorem abortJobs_working (l : Lane) (s : State) : Working l s (abortJobs l s) :=
  (closeJob_working l .aborted s).trans (closeJob_working l .aborted _)

/-- A lane's queue never holds more than two jobs (R145), and so the abort leaves it empty. -/
theorem abortJobs_jobs (h : (s.lane l).printer.jobs.length ≤ 2) : ((abortJobs l s).lane l).printer.jobs = [] := by
  unfold abortJobs
  rw [closeJob_jobs, closeJob_jobs]
  match hjobs : (s.lane l).printer.jobs with
  | [] | [_] | [_, _] => rfl
  | _ :: _ :: _ :: _ =>
    rw [hjobs] at h
    simp at h

theorem abortJobs_deck (hs : ¬ Startable s l) : (abortJobs l s).deck l = s.deck l :=
  (closeJob_deck (mt (closeJob_working l .aborted s).startable_iff.1 hs) .aborted).trans (closeJob_deck hs .aborted)

theorem abortJobs_hide {ps : List Part} (hy : HidesYard ps) (ht : .templates ∈ ps) (l : Lane) (s : State) :
    (abortJobs l s).hide ps = s.hide ps := (closeJob_hide hy ht l _).trans (closeJob_hide hy ht l _)

end Jobs

/-! ### The five steps for one lane (R120) -/

section RestartLane

variable {s t : State} {k l : Lane} {x : State}

theorem restartSequencer_outsideYard (l : Lane) (s : State) : (restartSequencer l s).outsideYard = s.outsideYard := by
  unfold restartSequencer
  split
  · exact settle_outsideYard s l
  · exact enterClosed_outsideYard s l
  · exact modSeq_outsideYard s l _ rfl

/-- Steps 3 to 5 of a lane: no event is raised in them. -/
def restartTail (l : Lane) (s : State) : State := syncUnannounced l (restartSequencer l (stopLane l s))

theorem restartLane_eq (s : State) (l : Lane) :
    restartLane s l = raiseNotice .lane (.lane l) (restartTail l (abortJobs l (endCapture l .abandoned s))) := rfl

theorem restartTail_works (l : Lane) (s : State) : LaneWork l s (restartTail l s) :=
  ((stopLane_laneOp l).works s).trans (((restartSequencer_laneOp l).works _).trans ((syncUnannounced_laneOp l).works _))

theorem restartTail_outsideYard (l : Lane) (s : State) : (restartTail l s).outsideYard = s.outsideYard :=
  (syncUnannounced_outsideYard _ l).trans ((restartSequencer_outsideYard l _).trans (stopLane_outsideYard s l))

theorem restartLane_working (s : State) (l : Lane) : Working l s (restartLane s l) := by
  rw [restartLane_eq]
  exact (endCapture_working l _ s).trans ((abortJobs_working l _).trans
    (((restartTail_works l _).working (restartTail_outsideYard l _)).trans (raiseNotice_working l _ _ _)))

theorem restartLane_hide {ps : List Part} (hy : HidesYard ps) (ht : .templates ∈ ps) (s : State) (l : Lane) :
    (restartLane s l).hide ps = s.hide ps := by
  rw [restartLane_eq, hide_of_yard hy (raiseNotice_outsideYard _ _ _), hide_of_yard hy (restartTail_outsideYard l _),
    abortJobs_hide hy ht, endCapture_hide hy]

/-- Nothing is released or armed at a lane, and its pass timer is stopped. -/
structure Stopped (l : Lane) (s : State) : Prop where
  released : (s.lane l).seqr.released = none
  passageArmed : (s.lane l).seqr.passageArmed = false
  passTimer : (s.lane l).seqr.passTimer.deadline = none

theorem stopLane_stopped (l : Lane) (s : State) : Stopped l (stopLane l s) := by
  have hseq : ∃ v n, ((stopLane l s).lane l).seqr =
      { (s.lane l).seqr with passTimer := passStopped s l (s.lane l).seqr.passTimer, passageArmed := false, released := none,
                             unannounced := v, unannouncedLate := n } := by
    unfold stopLane setUnannounced
    rw [modSeq_lane, modSeq_lane]
    exact ⟨_, _, rfl⟩
  obtain ⟨v, n, hseq⟩ := hseq
  exact ⟨by rw [hseq], by rw [hseq], by rw [hseq]; rfl⟩

theorem syncUnannounced_seqr (l : Lane) (s : State) :
    ∃ v n, ((syncUnannounced l s).lane l).seqr = { (s.lane l).seqr with unannounced := v, unannouncedLate := n } := by
  unfold syncUnannounced setUnannounced
  rw [modSeq_lane]
  exact ⟨_, _, rfl⟩

/-- In MANUAL and CLOSED the restarted sequencer has its mode's state. -/
theorem restartSequencer_seqr (hmode : (s.lane l).params.mode ≠ .auto) : ∃ light,
    ((restartSequencer l s).lane l).seqr =
      { (s.lane l).seqr with state := if (s.lane l).params.mode = .manual then .manual else .closed, light := light }
    ∧ (restartSequencer l s).deck l = s.deck l := by
  unfold restartSequencer
  split
  · exact absurd ‹_› hmode
  · rename_i hclosed
    refine ⟨.red, ?_, rfl⟩
    rw [hclosed, enterClosed, lowerRequest, modBarrier_lane, modSeq_lane]
    rfl
  · rename_i hmanual
    refine ⟨(s.lane l).seqr.light, ?_, rfl⟩
    rw [hmanual, modSeq_lane]
    rfl

/-- The last steps in MANUAL and CLOSED: the sequencer in its mode's state and stopped, the deck as it was. -/
theorem restartTail_stopped (hmode : (s.lane l).params.mode ≠ .auto) : Stopped l (restartTail l s)
    ∧ ((restartTail l s).lane l).seqr.state = (if (s.lane l).params.mode = .manual then .manual else .closed)
    ∧ (restartTail l s).deck l = s.deck l := by
  have hstop := stopLane_stopped l s
  have hparams := congrArg LaneUnit.params (lane_of_outsideYard (stopLane_outsideYard s l) l)
  have hsame : ((stopLane l s).lane l).params = (s.lane l).params := hparams
  obtain ⟨light, hseq, hdeck⟩ := restartSequencer_seqr (s := stopLane l s) (l := l) (by rw [hsame]; exact hmode)
  obtain ⟨v, n, hsync⟩ := syncUnannounced_seqr l (restartSequencer l (stopLane l s))
  rw [hseq, hsame] at hsync
  refine ⟨⟨?_, ?_, ?_⟩, ?_, hdeck⟩
  · rw [restartTail, hsync]
    exact hstop.released
  · rw [restartTail, hsync]
    exact hstop.passageArmed
  · rw [restartTail, hsync]
    exact hstop.passTimer
  · rw [restartTail, hsync]

/-! ### The lanes in any order (R120, log 9) -/

/-- A lane that has been restarted. -/
structure Restarted (l : Lane) (s : State) : Prop where
  jobs : (s.lane l).printer.jobs = []
  noticed : Noticed s .lane (.lane l)
  stopped : (s.lane l).params.mode ≠ .auto → Stopped l s
    ∧ (s.lane l).seqr.state = (if (s.lane l).params.mode = .manual then .manual else .closed)
    ∧ (s.deck l).capture = none

theorem Restarted.of_aside (h : Restarted l s) (g : Aside l s t) : Restarted l t where
  jobs := by
    have hprinter := congrArg LaneUnit.printer g.lane
    have hsame : (t.lane l).printer = (s.lane l).printer := hprinter
    rw [hsame]
    exact h.jobs
  noticed := g.notices _ _ h.noticed
  stopped hmode := by
    rw [g.params] at hmode ⊢
    obtain ⟨hstop, hstate, hcapture⟩ := h.stopped hmode
    obtain ⟨gstate, gdeck⟩ := g.kept fun hstart => hmode hstart.1
    have hreleased := congrArg (fun u => u.seqr.released) g.lane
    have harmed := congrArg (fun u => u.seqr.passageArmed) g.lane
    have htimer := congrArg (fun u => u.seqr.passTimer.deadline) g.lane
    refine ⟨⟨?_, ?_, ?_⟩, gstate.trans hstate, gdeck ▸ hcapture⟩
    · exact Eq.trans hreleased hstop.released
    · exact Eq.trans harmed hstop.passageArmed
    · exact Eq.trans htimer hstop.passTimer

theorem restartLane_restarted (h : (s.lane l).printer.jobs.length ≤ 2) : Restarted l (restartLane s l) := by
  rw [restartLane_eq]
  have hended := endCapture_working l .abandoned s
  have hprinter := congrArg LaneUnit.printer (lane_of_outsideYard (endCapture_outsideYard s l .abandoned) l)
  have hcapture : ¬ Startable s l → ((endCapture l .abandoned s).deck l).capture = none := fun hs => by
    obtain ⟨n, hdeck⟩ := endCapture_deck hs .abandoned
    rw [hdeck]
  generalize endCapture l .abandoned s = x at hended hprinter hcapture ⊢
  have hjobs : ((abortJobs l x).lane l).printer.jobs = [] :=
    abortJobs_jobs (by rwa [show (x.lane l).printer = (s.lane l).printer from hprinter])
  have hdeck : ¬ Startable x l → (abortJobs l x).deck l = x.deck l := abortJobs_deck
  have hworked := hended.trans (abortJobs_working l x)
  generalize abortJobs l x = y at hjobs hdeck hworked ⊢
  have htail := lane_of_outsideYard (restartTail_outsideYard l y) l
  have htailPrinter := congrArg LaneUnit.printer htail
  have htailParams := congrArg LaneUnit.params htail
  have hparams : ((restartTail l y).lane l).params = (y.lane l).params := htailParams
  refine ⟨?_, noticed_raiseNotice _ _ _, fun hmode => ?_⟩
  · exact (congrArg PrintEngine.jobs htailPrinter).trans hjobs
  · have hauto : (y.lane l).params.mode ≠ .auto := by rwa [← hparams]
    obtain ⟨⟨hreleased, harmed, htimer⟩, hstate, hkept⟩ := restartTail_stopped hauto
    have hstart : ¬ Startable s l := fun hs => hauto (by rw [hworked.params]; exact hs.1)
    refine ⟨⟨hreleased, harmed, htimer⟩, ?_, ?_⟩
    · change ((restartTail l y).lane l).seqr.state =
        if ((restartTail l y).lane l).params.mode = .manual then .manual else .closed
      rw [hparams]
      exact hstate
    · exact (congrArg DeckUnit.capture (hkept.trans (hdeck (mt hended.startable_iff.1 hstart)))).trans (hcapture hstart)

theorem restartLane_jobs_le (s : State) (l : Lane) (h : ∀ k, (s.lane k).printer.jobs.length ≤ 2) :
    ∀ k, ((restartLane s l).lane k).printer.jobs.length ≤ 2 := fun k => by
  by_cases hk : k = l
  · subst hk
    rw [(restartLane_restarted (h k)).jobs]
    exact Nat.zero_le 2
  · have hprinter := congrArg LaneUnit.printer ((restartLane_working s l).others k hk).lane
    have hsame : ((restartLane s l).lane k).printer = (s.lane k).printer := hprinter
    rw [hsame]
    exact h k

/-- A lane outside the order stands aside of it. -/
theorem restartLanes_aside {order : List Lane} (hk : k ∉ order) (s : State) : Aside k s (order.foldl restartLane s) := by
  induction order generalizing s with
  | nil => exact .refl k s
  | cons l ls ih =>
    obtain ⟨hne, hls⟩ := not_or.1 (mt List.mem_cons.2 hk)
    exact ((restartLane_working s l).others k hne).trans (ih hls _)

/-- Each lane of the order ends restarted, whatever the order: the lanes restarted after it leave it so. -/
theorem restartLanes_each {order : List Lane} {s : State} (h : ∀ l, (s.lane l).printer.jobs.length ≤ 2) :
    ∀ k ∈ order, Restarted k (order.foldl restartLane s) := fun k hk => by
  induction order generalizing s with
  | nil => cases hk
  | cons l ls ih =>
    by_cases hlater : k ∈ ls
    · exact ih (restartLane_jobs_le s l h) hlater
    · obtain rfl : k = l := (List.mem_cons.1 hk).resolve_right hlater
      exact (restartLane_restarted (h k)).of_aside (restartLanes_aside hlater _)

/-- What every lane and port keep of a restart of the lanes. -/
theorem restartLanes_keep (order : List Lane) (s : State) :
    (∀ k, ((order.foldl restartLane s).lane k).params = (s.lane k).params
      ∧ ((order.foldl restartLane s).lane k).sensors = (s.lane k).sensors)
    ∧ ∀ p, ((order.foldl restartLane s).port p).outsideRoutes = (s.port p).outsideRoutes := by
  induction order generalizing s with
  | nil => exact ⟨fun _ => ⟨rfl, rfl⟩, fun _ => rfl⟩
  | cons l ls ih =>
    obtain ⟨hlanes, hports⟩ := ih (restartLane s l)
    have hwork := restartLane_working s l
    refine ⟨fun k => ?_, fun p => (hports p).trans (hwork.port p)⟩
    obtain ⟨hparams, hsensors⟩ := hlanes k
    by_cases hk : k = l
    · subst hk
      exact ⟨hparams.trans hwork.params, hsensors.trans hwork.sensors⟩
    · have hlane := (hwork.others k hk).lane
      have hother := congrArg LaneUnit.sensors hlane
      exact ⟨hparams.trans (hwork.others k hk).params, hsensors.trans hother⟩

theorem restartLanes_hide {ps : List Part} (hy : HidesYard ps) (ht : .templates ∈ ps) (order : List Lane) (s : State) :
    (order.foldl restartLane s).hide ps = s.hide ps := by
  induction order generalizing s with
  | nil => rfl
  | cons l ls ih => exact (ih _).trans (restartLane_hide hy ht s l)

/-- The order of the lanes, whatever the free value, has every lane. -/
theorem mem_lanePermutation (n : Fin 24) (l : Lane) : l ∈ lanePermutation n := by
  have hall : ∀ m : Fin 24, ∀ k ∈ Idx.all, k ∈ lanePermutation m := by decide
  exact hall n l (Idx.mem_all l)

end RestartLane

/-! ### RESTART LANES -/

section RestartLanes

variable {s : State}

/-- The parts RESTART LANES reaches. -/
def restartParts : List Part := .templates :: .freeIx :: yardParts

/-- RESTART LANES is the restarts of the lanes in one order, and the office's notice. -/
theorem restartLanes_eq (s : State) : ∃ order : List Lane, (∀ l, l ∈ order)
    ∧ restartLanes s = raiseNotice .lane .office (order.foldl restartLane { s with freeIx := s.freeIx + 1 }) :=
  ⟨_, mem_lanePermutation _, rfl⟩

/-- RESTART LANES, answered at the office port (R120). -/
theorem restartLanes_answered (hjobs : ∀ l, (s.lane l).printer.jobs.length ≤ 2) (h : Takes s .office) :
    ∃ t, exec (.restartLanes .office) s = .next t ∧ Answered t .office 0x60#8 .done
      ∧ (∀ l, Restarted l t ∧ (t.lane l).params = (s.lane l).params ∧ (t.lane l).sensors = (s.lane l).sensors)
      ∧ Noticed t .lane .office
      ∧ (∀ d, (t.deck d).outsideRoutes = (s.deck d).outsideRoutes) ∧ KeepsAllBut restartParts s t := by
  have hexec : exec (.restartLanes .office) s = command .office 0x60#8 (isOffice .office)
    (fun s => (.done, restartLanes s)) s := rfl
  rw [command_of_takes (b := isOffice .office) h 0x60#8 rfl] at hexec
  refine ⟨_, hexec, ?_⟩
  obtain ⟨order, hmem, heq⟩ := restartLanes_eq (beginExchange .office s)
  dsimp only
  rw [heq]
  have hcores := restartLanes_deckCores (beginExchange .office s)
  rw [heq] at hcores
  have heach := restartLanes_each (order := order)
    (s := { beginExchange .office s with freeIx := (beginExchange .office s).freeIx + 1 }) hjobs
  obtain ⟨hlanes, hports⟩ := restartLanes_keep order
    { beginExchange .office s with freeIx := (beginExchange .office s).freeIx + 1 }
  have hhide := restartLanes_hide (ps := restartParts) (fun p hp => by revert p; decide) (by decide) order
    { beginExchange .office s with freeIx := (beginExchange .office s).freeIx + 1 }
  generalize order.foldl restartLane _ = t at hcores heach hlanes hports hhide ⊢
  have hreport : ∀ k, Aside k t (setResult .office 0x60#8 .done ReplyData.zero (raiseNotice .lane .office t)) := fun k =>
    .of_same rfl rfl ((raiseNotice_grows _ _ _).trans (setResult_grows _ _ _ _ _))
  refine ⟨answered_setResult ((raiseNotice_port _ _ _ t).trans (hports .office)) 0x60#8 .done,
    fun l => ⟨(heach l (hmem l)).of_aside (hreport l), (hlanes l).1, (hlanes l).2⟩,
    setResult_grows _ _ _ _ _ _ _ (noticed_raiseNotice _ _ t), fun d => deckCores_get hcores d, ?_⟩
  have hfree : ({ beginExchange .office s with freeIx := (beginExchange .office s).freeIx + 1 } : State).hide restartParts =
      s.hide restartParts := by
    simp [State.hide, restartParts, yardParts, beginExchange, State.modPort]
  exact (modPort_hide (by decide) .office _).trans ((modPort_hide (by decide) .office _).trans (hhide.trans hfree))

end RestartLanes

end Sys2Proof.Machine

/-! PROOFS, 06_lanes_and_barriers (R118). CLEAR LANE FAULT, and with the restart of the lanes the statement of both. -/

namespace Sys2Proof.Machine
open Sys2Proof

section ClearFault

variable {s : State} {l : Lane} {st : BarrierState}

/-- The state a fault is cleared to (R118): DOWN on the down limit alone, UP otherwise. -/
theorem stateFromLimits_of_not_both {up down : Bool} (h : ¬ (up = true ∧ down = true)) :
    stateFromLimits up down = some (if down = true then .down else .up) := by
  cases up with
  | false => cases down <;> rfl
  | true =>
    cases down with
    | false => rfl
    | true => exact absurd ⟨rfl, rfl⟩ h

theorem reportCleared_laneOp (l : Lane) (st : BarrierState) : LaneOp l (reportCleared l st) where
  works s := by
    unfold reportCleared
    split
    · exact (settle_laneOp l).works s
    · exact (lowerRequest_laneOp l).works s
    · split
      · exact (reportUp_laneOp l).works s
      · exact .refl l s
  modPort s p f := by
    unfold reportCleared
    rw [modPort_lane]
    split
    · exact (settle_laneOp l).modPort s p f
    · exact (lowerRequest_laneOp l).modPort s p f
    · split
      · exact (reportUp_laneOp l).modPort s p f
      · rfl

theorem reportCleared_outsideYard (l : Lane) (st : BarrierState) (s : State) :
    (reportCleared l st s).outsideYard = s.outsideYard := by
  unfold reportCleared
  split
  · exact settle_outsideYard s l
  · exact lowerRequest_outsideYard s l
  · split
    · exact reportUp_outsideYard s l
    · rfl

/-- The barrier at the state taken from its limits, before the report to the sequencer. -/
def barrierCleared (l : Lane) (st : BarrierState) (s : State) : State :=
  s.modBarrier l fun b => { b with state := st, pendingLower := false }

theorem clearLaneFault_refused (h : (s.lane l).barrier.state ≠ .fault
    ∨ ((s.lane l).barrier.limitUp = true ∧ (s.lane l).barrier.limitDown = true)) : clearLaneFault l s = (.state, s) := by
  unfold clearLaneFault
  dsimp only
  split
  · rfl
  · rename_i hfault
    obtain ⟨hup, hdown⟩ := h.resolve_left hfault
    rw [hup, hdown]
    rfl

theorem clearLaneFault_done (hfault : (s.lane l).barrier.state = .fault)
    (hlimits : ¬ ((s.lane l).barrier.limitUp = true ∧ (s.lane l).barrier.limitDown = true)) :
    clearLaneFault l s = (.done, reportCleared l (if (s.lane l).barrier.limitDown = true then .down else .up)
      (barrierCleared l (if (s.lane l).barrier.limitDown = true then .down else .up) s)) := by
  unfold clearLaneFault
  dsimp only
  rw [if_neg (not_not.2 hfault), stateFromLimits_of_not_both hlimits]
  rfl

theorem exec_clearLaneFault {b : Byte} {r : Result} {t : State} (h : Takes s .office) (hl : Idx.ofNat? b.toNat = some l)
    (hc : clearLaneFault l (beginExchange .office s) = (r, beginExchange .office t)) :
    exec (.clearLaneFault .office b) s = .next (t.answer .office 0x61#8 r) := by
  have hexec : exec (.clearLaneFault .office b) s = command .office 0x61#8 (isOffice .office)
    (fun s => match Idx.ofNat? b.toNat with
      | none => (.noSuch, s)
      | some l => clearLaneFault l s) s := rfl
  rw [hexec, hl]
  exact command_eq_answer (b := isOffice .office) h 0x61#8 rfl hc

/-- In MANUAL the report moves a raise's wait and the light alone (R113). -/
theorem reportCleared_manual (hmode : (s.lane l).params.mode = .manual) :
    ((reportCleared l st s).lane l).barrier = (s.lane l).barrier
      ∧ ((reportCleared l st s).lane l).seqr.state = (s.lane l).seqr.state := by
  unfold reportCleared
  rw [hmode]
  dsimp only
  split
  · unfold reportUp
    rw [hmode]
    dsimp only
    split
    · rw [modSeq_lane]
      exact ⟨rfl, rfl⟩
    · exact ⟨rfl, rfl⟩
  · exact ⟨rfl, rfl⟩

theorem reportCleared_closed (hmode : (s.lane l).params.mode = .closed) : reportCleared l st s = lowerRequest l s := by
  unfold reportCleared
  rw [hmode]

theorem reportCleared_auto (hmode : (s.lane l).params.mode = .auto) : reportCleared l st s = settle l s := by
  unfold reportCleared
  rw [hmode]

/-- The fault cleared and reported is work at one lane. -/
theorem clearedReport_laneOp (l : Lane) (st : BarrierState) : LaneOp l fun s => reportCleared l st (barrierCleared l st s) :=
  (reportCleared_laneOp l st).comp ⟨fun _ => .of_modBarrier _, fun _ _ _ => rfl⟩

theorem barrierCleared_lane (l : Lane) (st : BarrierState) (s : State) : (barrierCleared l st s).lane l =
    { s.lane l with barrier := { (s.lane l).barrier with state := st, pendingLower := false } } := modBarrier_lane s l _

theorem barrierCleared_outsideYard (l : Lane) (st : BarrierState) (s : State) :
    (barrierCleared l st s).outsideYard = s.outsideYard := modLane_outsideYard s l _ rfl

/-- In CLOSED the lower asked for starts on a clear loop where the arm is UP. -/
theorem lowerRequest_cleared (hst : st = .down ∨ st = .up) (s : State) :
    ((lowerRequest l (barrierCleared l st s)).lane l).seqr = (s.lane l).seqr
    ∧ ((lowerRequest l (barrierCleared l st s)).lane l).barrier.state =
      if st = .down then .down else if (s.lane l).sensors.loopOccupied = true then .up else .lowering := by
  unfold lowerRequest
  rw [modBarrier_lane, barrierCleared_lane]
  refine ⟨rfl, ?_⟩
  rcases hst with rfl | rfl
  · rfl
  · cases (s.lane l).sensors.loopOccupied <;> rfl

/-- An accepted CLEAR LANE FAULT: the fault cleared and reported, in the state answered at the office port. -/
theorem exec_clearLaneFault_done {b : Byte} (h : Takes s .office) (hl : Idx.ofNat? b.toNat = some l)
    (hfault : (s.lane l).barrier.state = .fault)
    (hlimits : ¬ ((s.lane l).barrier.limitUp = true ∧ (s.lane l).barrier.limitDown = true))
    (hst : st = if (s.lane l).barrier.limitDown = true then .down else .up) :
    exec (.clearLaneFault .office b) s =
      .next ((reportCleared l st (barrierCleared l st s)).answer .office 0x61#8 .done) := by
  have hlane : (beginExchange .office s).lane l = s.lane l := rfl
  have hmove : reportCleared l st (barrierCleared l st (beginExchange .office s)) =
      beginExchange .office (reportCleared l st (barrierCleared l st s)) := by
    unfold beginExchange
    exact (clearedReport_laneOp l st).modPort s .office _
  refine exec_clearLaneFault h hl ?_
  rw [clearLaneFault_done (s := beginExchange .office s) hfault hlimits, hlane, ← hst, hmove]

theorem reportCleared_answer (s : State) (l : Lane) (st : BarrierState) (p : PortId) (c : Byte) (r : Result) :
    (reportCleared l st (barrierCleared l st s)).answer p c r = reportCleared l st (barrierCleared l st (s.answer p c r)) :=
  ((clearedReport_laneOp l st).modPort s p _).symm

end ClearFault

/-- Settles O45: each lane ends restarted whatever the order, and a cleared fault is reported to the sequencer in its mode. -/
theorem lanesRestartAndFaultsClear : Obligations.LanesRestartAndFaultsClear := by
  refine ⟨fun s htables h => ?_, ?_⟩
  · obtain ⟨-, -, -, -, -, -, -, -, -, -, -, -, -, hjobs⟩ := htables
    obtain ⟨t, hexec, hanswered, hlanes, hoffice, hdecks, hkeeps⟩ := restartLanes_answered hjobs h
    refine ⟨t, hexec, hanswered, fun l => ?_, fun p => ?_, fun d => ⟨hdecks d, fun hmode => ?_⟩, hkeeps⟩
    · obtain ⟨hrestarted, hparams, hsensors⟩ := hlanes l
      refine ⟨hrestarted.jobs, hparams, hsensors, fun hmode => ?_, fun hmode => ?_, fun hmode => ?_⟩
      · obtain ⟨hstop, -⟩ := hrestarted.stopped (by rwa [hparams])
        exact ⟨hstop.released, hstop.passageArmed, hstop.passTimer⟩
      · obtain ⟨-, hstate, -⟩ := hrestarted.stopped (by rw [hparams, hmode]; decide)
        rw [hstate, hparams, hmode]
        rfl
      · obtain ⟨-, hstate, -⟩ := hrestarted.stopped (by rw [hparams, hmode]; decide)
        rw [hstate, hparams, hmode]
        rfl
    · cases p with
      | office => exact hoffice
      | lane l =>
        obtain ⟨hrestarted, -⟩ := hlanes l
        exact hrestarted.noticed
    · obtain ⟨hrestarted, hparams, -⟩ := hlanes d
      obtain ⟨-, -, hcapture⟩ := hrestarted.stopped (by rwa [hparams])
      exact hcapture
  · intro s b l h hl br st
    refine ⟨fun hrefused => ?_, fun hfault hlimits => ?_⟩
    · exact exec_clearLaneFault h hl (clearLaneFault_refused hrefused)
    · have hst : st = .down ∨ st = .up := by
        by_cases hdown : br.limitDown = true
        · exact .inl (if_pos hdown)
        · exact .inr (if_neg hdown)
      have hworks := (clearedReport_laneOp l st).works s
      have hparams : ((barrierCleared l st s).lane l).params = (s.lane l).params := by rw [barrierCleared_lane]
      refine ⟨_, exec_clearLaneFault_done h hl hfault hlimits rfl, ?_, fun k hk => hworks.lane_of_ne hk,
        fun hmode => ?_, fun hmode => ?_, fun hmode => ?_⟩
      · rw [reportCleared_answer]
        exact (reportCleared_outsideYard l st _).trans (barrierCleared_outsideYard l st _)
      · obtain ⟨hbarrier, hstate⟩ := reportCleared_manual (st := st) (by rwa [hparams])
        rw [barrierCleared_lane] at hbarrier hstate
        exact ⟨hbarrier, hstate⟩
      · obtain ⟨hseq, hbarrier⟩ := lowerRequest_cleared (l := l) hst s
        rw [reportCleared_closed (by rwa [hparams])]
        refine ⟨hseq, hbarrier.trans ?_⟩
        by_cases hdown : br.limitDown = true
        · rw [if_pos hdown, if_pos (if_pos hdown)]
        · have hup : st = .up := if_neg hdown
          rw [if_neg hdown, hup, if_neg (by decide)]
      · rw [reportCleared_auto (by rwa [hparams])]
        rfl

end Sys2Proof.Machine

/-! PROOFS, 02_calibration_zero_setting_and_the_metrology_lock. What the operations that do not calibrate leave of the
calibration unit, and the stored records and audit counter through every command (R28, R36, R37). -/

namespace Sys2Proof.Machine
open Sys2Proof

/-! ### What a frame says of one part -/

section Parts

variable {s t : State} {ps : List Part}

theorem KeepsAllBut.cal (h : KeepsAllBut ps s t) (hp : .cal ∉ ps) : t.cal = s.cal := by
  simpa [State.hide, hp] using congrArg State.cal h
theorem KeepsAllBut.nv (h : KeepsAllBut ps s t) (hp : .nv ∉ ps) : t.nv = s.nv := by
  simpa [State.hide, hp] using congrArg State.nv h
theorem KeepsAllBut.tickets (h : KeepsAllBut ps s t) (hp : .tickets ∉ ps) : t.tickets = s.tickets := by
  simpa [State.hide, hp] using congrArg State.tickets h
theorem KeepsAllBut.journal (h : KeepsAllBut ps s t) (hp : .journal ∉ ps) : t.journal = s.journal := by
  simpa [State.hide, hp] using congrArg State.journal h
theorem KeepsAllBut.ports (h : KeepsAllBut ps s t) (hp : .ports ∉ ps) : t.ports = s.ports := by
  simpa [State.hide, hp] using congrArg State.ports h

/-- Every part but the calibration unit. -/
def otherParts : List Part :=
  [.power, .marker, .visits, .tares, .allow, .tickets, .journal, .templates, .clock, .nv, .freeIx, .pending] ++ yardParts

theorem otherParts_yard : HidesYard otherParts := by unfold HidesYard; decide

theorem cal_of_outsideYard (h : t.outsideYard = s.outsideYard) : t.cal = s.cal :=
  have hcal : t.outsideYard.cal = s.outsideYard.cal := congrArg State.cal h
  hcal

/-- What touches no more than the other parts leaves the calibration unit alone. -/
theorem cal_of_hide (h : t.hide otherParts = s.hide otherParts) : t.cal = s.cal :=
  KeepsAllBut.cal h (by decide)

end Parts

/-! ### The calibration unit under the other units' operations -/

section OtherUnits

variable (s : State)

@[simp] theorem raiseEvent_cal (k : EventKind) (x : Option Nat) : (raiseEvent k x s).cal = s.cal :=
  cal_of_outsideYard (raiseEvent_outsideYard s k x)
@[simp] theorem raiseAt_cal (k : EventKind) (l : Lane) : (raiseAt k l s).cal = s.cal := raiseEvent_cal s k _
@[simp] theorem raiseLaneOffice_cal (n : Notice) (l : Lane) : (raiseLaneOffice n l s).cal = s.cal := rfl
@[simp] theorem handHead_cal (l : Lane) (b : Bool) : (handHead l b s).cal = s.cal :=
  cal_of_outsideYard (handHead_outsideYard s l b)
@[simp] theorem settle_cal (l : Lane) : (settle l s).cal = s.cal := cal_of_outsideYard (settle_outsideYard s l)
@[simp] theorem enterClosing_cal (l : Lane) : (enterClosing l s).cal = s.cal :=
  cal_of_outsideYard (enterClosing_outsideYard s l)
@[simp] theorem enterFault_cal (l : Lane) : (enterFault l s).cal = s.cal :=
  cal_of_outsideYard (enterFault_outsideYard s l)
@[simp] theorem reportUp_cal (l : Lane) : (reportUp l s).cal = s.cal := cal_of_outsideYard (reportUp_outsideYard s l)
@[simp] theorem reportDown_cal (l : Lane) : (reportDown l s).cal = s.cal :=
  cal_of_outsideYard (reportDown_outsideYard s l)
@[simp] theorem acceptStart_cal (l : Lane) (n : Nat) : (acceptStart l n s).cal = s.cal :=
  cal_of_outsideYard (acceptStart_outsideYard s l n)
@[simp] theorem endCapture_cal (l : Lane) (r : CaptureReason) : (endCapture l r s).cal = s.cal :=
  cal_of_outsideYard (endCapture_outsideYard s l r)
@[simp] theorem endCaptureLeaving_cal (l : Lane) (r : CaptureReason) : (endCaptureLeaving l r s).cal = s.cal :=
  cal_of_outsideYard (endCaptureLeaving_outsideYard s l r)

@[simp] theorem nvRequest_cal (r : NvRequest) : (nvRequest r s).cal = s.cal := cal_of_hide (nvRequest_hide (by decide) r)
@[simp] theorem nvServe_cal : (nvServe s).cal = s.cal := cal_of_hide (nvServe_hide (by decide))
@[simp] theorem nvEnd_cal (ok : Bool) : (nvEnd ok s).cal = s.cal := cal_of_hide (nvEnd_hide (by decide) ok)
@[simp] theorem requestFloorWrite_cal (b : Bool) : (requestFloorWrite b s).cal = s.cal :=
  cal_of_hide (requestFloorWrite_hide (by decide) (by decide) b)
@[simp] theorem tryHead_cal : (tryHead s).cal = s.cal := cal_of_hide (tryHead_hide (by decide) (by decide))
@[simp] theorem awaitTicket_cal (n : Nat) : (awaitTicket n s).cal = s.cal :=
  cal_of_hide (awaitTicket_hide (by decide) (by decide) (by decide) n)
@[simp] theorem appendEntry_cal (b : JournalBody) : (appendEntry b s).cal = s.cal :=
  cal_of_hide (appendEntry_hide otherParts_yard (by decide) b)
@[simp] theorem rolloverEvent_cal : (rolloverEvent s).cal = s.cal :=
  cal_of_hide (rolloverEvent_hide otherParts_yard (by decide) (by decide) (by decide))
@[simp] theorem drain_cal : (drain s).cal = s.cal :=
  cal_of_hide (drain_hide otherParts_yard (by decide) (by decide) (by decide) (by decide))

@[simp] theorem joinQueue_cal (l : Lane) (n : Nat) (k : PassKind) : (joinQueue l n k s).cal = s.cal :=
  cal_of_hide (joinQueue_hide otherParts_yard (by decide) l n k)
@[simp] theorem checkPassage_cal (l : Lane) : (checkPassage l s).cal = s.cal :=
  cal_of_hide (checkPassage_hide otherParts_yard (by decide) l)
@[simp] theorem handOut_cal (l : Lane) (n : Nat) : (handOut l n s).cal = s.cal :=
  cal_of_hide (handOut_hide otherParts_yard l n)

@[simp] theorem pumpEngine_cal (l : Lane) : (pumpEngine l s).cal = s.cal :=
  cal_of_hide (pumpEngine_hide otherParts_yard (by decide) l)
@[simp] theorem queueJob_cal (l : Lane) (k : TicketRecord) (b : Bool) : (queueJob l k b s).2.cal = s.cal :=
  cal_of_hide (queueJob_hide otherParts_yard (by decide) l k b)
@[simp] theorem reprint_cal (l : Lane) (n : Nat) : (reprint l n s).2.cal = s.cal :=
  cal_of_hide (reprint_hide otherParts_yard (by decide) l n)
@[simp] theorem endJob_cal (l : Lane) (r : PrintResult) : (endJob l r s).cal = s.cal :=
  cal_of_hide (endJob_hide otherParts_yard (by decide) l r)

/-! #### Tickets -/

theorem settleTicket_cal (v : Visit) (n : Nat) : (settleTicket v n s).cal = s.cal := by
  unfold settleTicket
  split
  · rfl
  · unfold overrunOutcome
    dsimp only
    split
    · exact raiseEvent_cal _ _ _
    · rfl

theorem keepTare_cal (v : Visit) : (keepTare v s).cal = s.cal := by
  unfold keepTare
  split
  · rfl
  · unfold placeTare
    dsimp only
    split
    · split <;> rfl
    · split
      · rfl
      · split <;> rfl

theorem queueOriginal_cal (l : Lane) (k : TicketRecord) : (queueOriginal l k s).cal = s.cal := by
  have hqueue := queueJob_cal s l k false
  unfold queueOriginal
  split <;> rename_i h <;> rw [h] at hqueue
  · exact hqueue
  · exact (raiseAt_cal _ _ l).trans hqueue

theorem issueRecord_cal (v : Visit) (k : TicketRecord) : (issueRecord v k s).cal = s.cal := by
  simp [issueRecord, announceTicket, ticketVisit, queueOriginal_cal, keepTare_cal, settleTicket_cal]

@[simp] theorem issueStep_cal : (issueStep s).cal = s.cal := by
  have head : ∀ n, (issueHead n s).cal = s.cal := fun n => by
    unfold issueHead
    split
    · split
      · exact (tryHead_cal _).trans (issueRecord_cal s _ _)
      · rfl
    · rfl
  unfold issueStep
  split
  · rfl
  · split
    · exact head _
    · exact tryHead_cal s

theorem floorOutcome_cal (f : FloorWrite) (ok : Bool) : (floorOutcome f ok s).cal = s.cal := by
  have retry : ∀ x : State, (retryEnd f ok x).cal = x.cal := fun x => by unfold retryEnd; split <;> rfl
  unfold floorOutcome
  dsimp only
  split
  · exact (tryHead_cal _).trans (retry _)
  · split
    · exact retry _
    · rfl

@[simp] theorem floorWriteEnd_cal (ok : Bool) : (floorWriteEnd ok s).cal = s.cal := by
  unfold floorWriteEnd
  split
  · exact (nvServe_cal _).trans ((floorOutcome_cal _ _ ok).trans (nvEnd_cal s ok))
  · rfl

/-! #### Visits -/

/-- A departure leaves the calibration unit as what it ends with does. -/
theorem depart_cal (n : Nat) (f : State → State) (hf : ∀ x : State, (f x).cal = x.cal) :
    (depart n f s).cal = s.cal := by
  unfold depart
  split
  · rfl
  · split
    · exact hf s
    · dsimp only
      split
      · exact (handHead_cal _ _ true).trans (hf _)
      · exact hf _

@[simp] theorem announceBody_cal (l : Lane) (a : Option Announcement) : (announceBody l a s).2.cal = s.cal := by
  unfold announceBody
  split
  · rfl
  · split
    · rfl
    · exact joinQueue_cal _ l _ _

@[simp] theorem attachBody_cal (l : Lane) (v : Option Text) : (attachBody l v s).2.cal = s.cal := by
  unfold attachBody
  split
  · rfl
  · split
    · rfl
    · unfold attachVisit
      dsimp only
      split <;> exact joinQueue_cal _ l _ _

@[simp] theorem releaseVisit_cal (l : Lane) (n : Nat) : (releaseVisit l n s).2.cal = s.cal := by
  have ended : (if isHead s l n = true then endCaptureLeaving l .abandoned s else s).cal = s.cal := by
    split
    · exact endCaptureLeaving_cal s l _
    · rfl
  unfold releaseVisit
  dsimp only
  split
  · exact ended
  · split
    · exact (depart_cal _ n (removeVisit n) fun _ => rfl).trans ended
    · exact (depart_cal _ n (modVisit n _) fun _ => rfl).trans ended
    · exact (depart_cal _ n id fun _ => rfl).trans ended
    · exact ended

@[simp] theorem captureVisit_cal (l : Lane) (n : Nat) : (captureVisit l n s).2.cal = s.cal := by
  unfold captureVisit
  split
  · rfl
  · split
    · rfl
    · split
      · rfl
      · split
        · rfl
        · exact acceptStart_cal s l n

theorem voidRecord_cal (v : Visit) : (voidRecord v s).cal = s.cal := by
  unfold voidRecord
  dsimp only
  split <;> exact appendEntry_cal s _

@[simp] theorem voidVisit_cal (n : Nat) : (voidVisit n s).2.cal = s.cal := by
  have capture : ∀ v : Visit, (voidCapture v s).cal = s.cal := fun v => by
    unfold voidCapture
    split
    · rfl
    · split
      · exact endCaptureLeaving_cal s _ _
      · rfl
  have hold : ∀ (v : Visit) (x : State), (voidHold v x).cal = x.cal := fun v x => by
    unfold voidHold
    split <;> rfl
  unfold voidVisit
  split
  · rfl
  · exact (depart_cal _ n _ fun x => voidRecord_cal x _).trans ((hold _ _).trans (capture _))

theorem acceptZero_cal (v : Visit) : (acceptZero v s).cal = s.cal := by
  unfold acceptZero
  dsimp only
  split
  · exact awaitTicket_cal _ _
  · exact (handOut_cal _ _ _).trans (awaitTicket_cal _ _)

@[simp] theorem resolveVisit_cal (n : Nat) (c : Option Choice) : (resolveVisit n c s).2.cal = s.cal := by
  unfold resolveVisit
  split
  · rfl
  · split
    · rfl
    · split
      · rfl
      · split
        · exact voidVisit_cal s n
        · exact acceptZero_cal s _

/-! #### The tables and the parameters -/

theorem storeAccount_cal (i : Nat) (w : AccountWrite) : (storeAccount i w s).2.cal = s.cal := by
  unfold storeAccount
  split
  · rfl
  · split
    · rfl
    · split
      · rfl
      · split
        · rfl
        · dsimp only
          split
          · exact raiseEvent_cal _ _ _
          · rfl

theorem storeCap_cal (i cap : Nat) : (storeCap i cap s).2.cal = s.cal := by
  unfold storeCap
  dsimp only
  split
  · rfl
  · split
    · rfl
    · dsimp only
      split
      · exact raiseEvent_cal _ _ _
      · rfl

/-- No owner of a table is the calibration unit. -/
@[simp] theorem ownerWrite_cal (i : Nat) (w : TableWrite) : (ownerWrite i w s).2.cal = s.cal := by
  cases w with
  | category name reserve => unfold ownerWrite storeCategory; dsimp only; split <;> rfl
  | categoryRemove =>
    unfold ownerWrite removeCategory
    dsimp only
    split
    · rfl
    · split
      · rfl
      · split <;> rfl
  | account w => exact storeAccount_cal s i w
  | accountDelete =>
    unfold ownerWrite deleteAccount
    dsimp only
    split
    · rfl
    · split <;> rfl
  | siteCap cap => exact storeCap_cal s i cap
  | siteCapEmpty => unfold ownerWrite emptyCap; dsimp only; split <;> rfl
  | tare v t d =>
    unfold ownerWrite storeTare
    dsimp only
    split
    · rfl
    · split
      · rfl
      · split
        · rfl
        · split <;> rfl
  | tareDelete => rfl
  | template name head =>
    unfold ownerWrite storeTemplate
    dsimp only
    split
    · rfl
    · split <;> rfl
  | templateEmpty => unfold ownerWrite emptyTemplate; dsimp only; split <;> rfl
  | line w =>
    unfold ownerWrite storeLine
    dsimp only
    split
    · rfl
    · split <;> rfl
  | route w =>
    unfold ownerWrite storeRoute
    dsimp only
    split
    · split
      · rfl
      · split <;> rfl
    · rfl

theorem setLaneMode_cal (l : Lane) (m : LaneMode) : (setLaneMode l m s).cal = s.cal := by
  have restart : ∀ x : State, (restartInMode l m x).cal = x.cal := fun x => by
    cases m with
    | closed => rfl
    | manual => rfl
    | auto => exact settle_cal x l
  unfold setLaneMode
  split
  · rfl
  · exact (restart _).trans (endCapture_cal s l _)

@[simp] theorem overstayVisit_cal (n : Nat) : (overstayVisit n s).cal = s.cal := raiseEvent_cal _ _ _

theorem setOverstayLimit_cal (n : Nat) : (setOverstayLimit n s).cal = s.cal := by
  have noticed : ∀ (vs : List Nat) (x : State), (vs.foldl (fun s v => overstayVisit v s) x).cal = x.cal := by
    intro vs
    induction vs with
    | nil => exact fun _ => rfl
    | cons v vs ih => exact fun x => (ih _).trans (overstayVisit_cal x v)
  exact noticed _ _

/-- No parameter that can be written belongs to the calibration unit. -/
@[simp] theorem writeParam_cal (c i : Byte) (v : Nat) : (writeParam c i v s).2.cal = s.cal := by
  have written : ∀ q : Param, (q.write v s).cal = s.cal := fun q => by
    cases q with
    | overstayLimit => exact setOverstayLimit_cal s v
    | laneMode l => exact setLaneMode_cal s l _
    | _ => rfl
  unfold writeParam
  split
  · rfl
  · split
    · rfl
    · exact written _

/-! #### The lanes, the outputs and the clock -/

@[simp] theorem manualRaise_cal (l : Lane) : (manualRaise l s).2.cal = s.cal := by
  unfold manualRaise
  split
  · rfl
  · split <;> rfl

@[simp] theorem manualLower_cal (l : Lane) : (manualLower l s).2.cal = s.cal := by
  unfold manualLower
  split
  · rfl
  · dsimp only
    split <;> rfl

@[simp] theorem archiveUpTo_cal (n : Nat) : (archiveUpTo n s).2.cal = s.cal := by
  unfold archiveUpTo
  split
  · rfl
  · exact drain_cal _

@[simp] theorem setOutput_cal (n k : Nat) : (setOutput n k s).2.cal = s.cal := by
  unfold setOutput
  split
  · rfl
  · split <;> rfl

@[simp] theorem restartLanes_cal : (restartLanes s).cal = s.cal :=
  cal_of_hide ((modPort_hide (by decide) _ _).trans (restartLanes_hide otherParts_yard (by decide) _ _))

@[simp] theorem clearLaneFault_cal (l : Lane) : (clearLaneFault l s).2.cal = s.cal := by
  have report : ∀ (st : BarrierState) (x : State), (reportCleared l st x).cal = x.cal := fun st x => by
    unfold reportCleared
    split
    · exact settle_cal x l
    · rfl
    · split
      · exact reportUp_cal x l
      · rfl
  unfold clearLaneFault
  dsimp only
  split
  · rfl
  · split
    · rfl
    · exact report _ _

@[simp] theorem limitActive_cal (l : Lane) (x : Limit) : (limitActive l x s).cal = s.cal := by
  have travel : ∀ (st : BarrierState) (k : EventKind), (endTravel l st k s).cal = s.cal := fun st k => raiseAt_cal _ k l
  unfold limitActive
  dsimp only
  split
  · exact enterFault_cal s l
  · split
    · exact (reportUp_cal _ l).trans (travel _ _)
    · exact (reportDown_cal _ l).trans (travel _ _)
    · rfl

@[simp] theorem stallLane_cal (l : Lane) : (stallLane l s).cal = s.cal :=
  (enterClosing_cal _ l).trans (raiseAt_cal _ _ l)

@[simp] theorem loopChange_cal (l : Lane) (b : Bool) : (loopChange l b s).cal = s.cal := by
  have occupied : ∀ x : State, (laneLoopOccupied l x).cal = x.cal := fun x => by
    unfold laneLoopOccupied
    dsimp only
    split
    · rfl
    · split <;> rfl
    · split <;> rfl
    · rfl
  unfold loopChange
  dsimp only
  split
  · exact (occupied _).trans (raiseAt_cal _ _ l)
  · exact (checkPassage_cal _ l).trans (raiseAt_cal _ _ l)

@[simp] theorem paperGone_cal (l : Lane) : (paperGone l s).cal = s.cal := by
  unfold paperGone
  dsimp only
  split <;> exact raiseAt_cal _ _ l

@[simp] theorem paperBack_cal (l : Lane) : (paperBack l s).cal = s.cal := by
  unfold paperBack
  dsimp only
  split
  · exact pumpEngine_cal _ l
  · rfl

@[simp] theorem absorbAdvance_cal : (absorbAdvance s).cal = s.cal := (absorbAdvance_keeps s).cal (by decide)

@[simp] theorem countSecond_cal : (countSecond s).cal = s.cal := by
  have counted : (monoAtAdvance { s with clock := s.clock.advance }).cal = s.cal :=
    (monoAtAdvance_keeps { s with clock := s.clock.advance }).cal (by decide)
  have events : ∀ x : State, (clockEvents x).cal = x.cal := fun x => by
    have minute : (if x.clock.second % 60 = 0 then raiseEvent .minute none x else x).cal = x.cal := by
      split
      · exact raiseEvent_cal x _ _
      · rfl
    unfold clockEvents
    dsimp only
    generalize (if x.clock.second % 60 = 0 then raiseEvent .minute none x else x) = y at minute ⊢
    split
    · split
      · exact (rolloverEvent_cal y).trans minute
      · exact minute
    · rfl
  unfold countSecond
  dsimp only
  split
  · exact (events _).trans counted
  · exact counted

@[simp] theorem sampleStep_cal (d : Deck) (c : BitVec 24) : (sampleStep d c s).cal = s.cal :=
  (sampleStep_keeps s d c).cal (by decide)
@[simp] theorem linkFault_cal (d : Deck) : (linkFault d s).cal = s.cal := (linkFault_keeps d s).cal (by decide)

end OtherUnits

end Sys2Proof.Machine

/-! ### The stored records and the audit counter through every command (R28, R36, R37) -/

namespace Sys2Proof.Machine
open Sys2Proof

section Stored

variable {s t : State} {c : CalUnit}

/-- The stored records and the audit counter are those of a calibration unit (R28). -/
def StoredAs (c : CalUnit) (s : State) : Prop := s.cal.stored = c.stored ∧ s.cal.audit = c.audit

theorem StoredAs.of_cal (hs : StoredAs c s) (h : t.cal = s.cal) : StoredAs c t := by
  unfold StoredAs
  rw [h]
  exact hs

theorem portBlind_storedAs : PortBlind (StoredAs c) := fun _ _ _ h => h

/-! #### The sessions and the writes -/

theorem StoredAs.trackStep (hs : StoredAs c s) (d : Deck) : StoredAs c (trackStep d s) := hs.of_cal (trackStep_cal s d)

theorem StoredAs.zeroDeck (hs : StoredAs c s) (d : Deck) : StoredAs c (zeroDeck d s).2 := by
  unfold Machine.zeroDeck
  dsimp only
  split <;> exact hs.trackStep d

theorem StoredAs.calBegin (hs : StoredAs c s) (d : Deck) : StoredAs c (calBegin d s).2 := by
  have tracked := hs.trackStep d
  unfold Machine.calBegin
  dsimp only
  split
  · exact tracked
  · split
    · exact tracked
    · split
      · exact tracked
      · split <;> exact tracked

theorem StoredAs.calSet (hs : StoredAs c s) (f : CalFields) (r : CalRecord) (d : Deck) :
    StoredAs c (calSet f r d s).2 := by
  unfold Machine.calSet
  split
  · exact hs
  · split <;> exact hs

theorem StoredAs.calZero (hs : StoredAs c s) (r : CalRecord) (d : Deck) : StoredAs c (calZero r d s).2 := by
  unfold Machine.calZero
  dsimp only
  split <;> exact hs

theorem StoredAs.calSpan (hs : StoredAs c s) (n : Nat) (r : CalRecord) (d : Deck) : StoredAs c (calSpan n r d s).2 := by
  unfold Machine.calSpan
  dsimp only
  split
  · exact hs
  · split
    · exact hs
    · split
      · exact hs
      · split <;> exact hs

/-- CAL END stages a record; what is stored waits for the write's end (R36). -/
theorem StoredAs.calEnd (hs : StoredAs c s) (p : PortId) (r : CalRecord) (d : Deck) : StoredAs c (calEnd p r d s).2 := by
  unfold Machine.calEnd
  split
  · exact hs
  · split
    · exact hs
    · split
      · exact hs
      · have staged : StoredAs c (s.setCal { s.cal with staged := some (stagedOf s d (s.cal.stored.get d) r) }) := hs
        exact staged.of_cal (t := beginStore p d r s) (nvRequest_cal _ _)

theorem StoredAs.abandonIdles (hs : StoredAs c s) (ds : List Deck) : StoredAs c (ds.foldl abandonIdle s) := by
  obtain ⟨w, hcal⟩ := (abandonIdles_abandoned ds s).cal
  unfold StoredAs
  rw [hcal]
  exact hs

theorem StoredAs.writeSiteNumber (hs : StoredAs c s) (p : PortId) (v : Nat) : StoredAs c (writeSiteNumber p v s).2 := by
  unfold Machine.writeSiteNumber
  split
  · exact hs
  · split
    · exact hs
    · exact hs.of_cal (nvRequest_cal s _)

theorem StoredAs.retryStore (hs : StoredAs c s) (p : PortId) : StoredAs c (retryStore p s).2 := by
  unfold Machine.retryStore
  split
  · exact hs
  · split
    · exact hs
    · exact hs.of_cal (requestFloorWrite_cal s _)

/-- A site number write's end sets the site number alone (R41). -/
theorem StoredAs.siteWriteEnd (hs : StoredAs c s) (ok : Bool) : StoredAs c (siteWriteEnd ok s) := by
  unfold Machine.siteWriteEnd
  split
  · have ended : StoredAs c (nvEnd ok s) := hs.of_cal (nvEnd_cal s ok)
    refine StoredAs.of_cal ?_ (nvServe_cal _)
    unfold siteOutcome
    split
    · rename_i v _ _
      have set : StoredAs c ((nvEnd ok s).setCal { (nvEnd ok s).cal with site := some v }) := ended
      exact set.of_cal (tryHead_cal _)
    · exact ended
  · exact hs

/-- The drain and the try that follow a calibration write's end leave the calibration unit alone. -/
theorem afterCalWrite_cal (b : Bool) (s : State) : (afterCalWrite b s).cal = s.cal := by
  unfold afterCalWrite
  dsimp only
  split
  · exact (tryHead_cal _).trans (drain_cal s)
  · exact drain_cal s

/-- A failed calibration write leaves what is stored (R37). -/
theorem StoredAs.calWriteEnd_failed (hs : StoredAs c s) : StoredAs c (calWriteEnd false s) := by
  unfold calWriteEnd
  split
  · have ended : StoredAs c (nvEnd false s) := hs.of_cal (nvEnd_cal s false)
    refine StoredAs.of_cal (t := nvServe _) (s := calNotStored _ (nvEnd false s)) ?_
      ((nvServe_cal _).trans (afterCalWrite_cal _ _))
    unfold calNotStored
    dsimp only
    split <;> exact ended
  · exact hs

/-! #### The commands -/

/-- A command whose body leaves the calibration unit alone keeps what is stored. -/
theorem command_storedAs {p : PortId} {k : Byte} {b : Bool} {body : State → Result × State}
    (hb : ∀ x, (body x).2.cal = x.cal) (hs : StoredAs c s) : ∀ t, command p k b body s = .next t → StoredAs c t :=
  command_keeps portBlind_storedAs (fun x hx => hx.of_cal (hb x)) hs

theorem laneCommand_storedAs {p : PortId} {k b : Byte} {body : Lane → State → Result × State}
    (hb : ∀ l x, (body l x).2.cal = x.cal) (hs : StoredAs c s) :
    ∀ t, laneCommand p k b body s = .next t → StoredAs c t :=
  laneCommand_keeps portBlind_storedAs (fun l x hx => hx.of_cal (hb l x)) hs

theorem writeRecordExchange_storedAs (p : PortId) (framed : Port → Bool) (w : TableId → Option TableWrite)
    (hs : StoredAs c s) : ∀ t, writeRecordExchange p framed w s = .next t → StoredAs c t :=
  writeRecordExchange_keeps portBlind_storedAs (fun i w x hx => hx.of_cal (ownerWrite_cal x i w)) hs

theorem writeTable_storedAs (p : PortId) (k : TableId) (w : TableWrite) (hs : StoredAs c s) :
    ∀ t, writeTable p k w s = .next t → StoredAs c t := writeRecordExchange_storedAs _ _ _ hs

/-- An event of a running part that leaves the calibration unit alone keeps what is stored. -/
theorem whenRunning_storedAs {f : State → State} (hf : (f s).cal = s.cal) (hs : StoredAs c s) :
    ∀ t, whenRunning s f = .next t → StoredAs c t := whenRunning_keeps hs (hs.of_cal hf)

/-- Every command keeps what is stored, but the success of a calibration write and the starts. -/
theorem exec_keeps_storedAs (i : Instr) (hwrite : i ≠ .calWriteEnd true)
    (hstart : ∀ x, i ≠ .powerOn x ∧ i ≠ .externalReset x) (hs : StoredAs c s) :
    ∀ t, exec i s = .next t → StoredAs c t := by
  have blind := portBlind_storedAs (c := c)
  cases i with
  | readStatus p => exact whenRunning_keeps hs (exchange_keeps blind (fun _ hx => hx) hs)
  | clearNotices p set => exact command_storedAs (fun x => by split <;> rfl) hs
  | setNoticeEnable p set => exact command_storedAs (fun x => by split <;> rfl) hs
  | readParameter p k i => exact whenRunning_keeps hs (exchange_keeps blind (fun _ hx => readReply_keeps blind hx) hs)
  | writeParameter p k i v => exact command_storedAs (fun x => writeParam_cal x _ _ _) hs
  | writeLaneMode p i v => exact command_storedAs (fun x => writeParam_cal x _ _ _) hs
  | writeLanePortEnable p i v => exact command_storedAs (fun x => writeParam_cal x _ _ _) hs
  | selectTable p k i =>
    refine servedCommand_keeps blind (fun x hx => ?_) hs
    unfold selectTable
    split
    · exact hx
    · split
      · exact hx
      · split <;> exact hx
  | readRecord p => exact whenRunning_keeps hs (exchange_keeps blind (fun _ hx => readReply_keeps blind hx) hs)
  | writeRecord p args =>
    exact writeRecordExchange_storedAs p (fun x => writeRecordFramed x args.length) (fun k => tableWriteOf k args) hs
  | writeCategory p name reserve => exact writeTable_storedAs p .categories (.category name reserve.toNat) hs
  | removeCategory p => exact writeTable_storedAs p .categories .categoryRemove hs
  | writeAccount p w => exact writeTable_storedAs p .accounts (.account w) hs
  | deleteAccount p => exact writeTable_storedAs p .accounts .accountDelete hs
  | writeSiteCap p cap => exact writeTable_storedAs p .siteCaps (.siteCap cap.toNat) hs
  | emptySiteCap p => exact writeTable_storedAs p .siteCaps .siteCapEmpty hs
  | writeTare p v t d => exact writeTable_storedAs p .tares (.tare v t.toNat d.toNat) hs
  | deleteTare p => exact writeTable_storedAs p .tares .tareDelete hs
  | writeTemplate p name head => exact writeTable_storedAs p .templates (.template name head.toNat) hs
  | emptyTemplate p => exact writeTable_storedAs p .templates .templateEmpty hs
  | writeLine p w => exact writeTable_storedAs p .lines (.line w) hs
  | writeRoute p w => exact writeTable_storedAs p .routes (.route w) hs
  | readWeight p d => exact whenRunning_keeps hs (exchange_keeps blind (fun _ hx => readReply_keeps blind hx) hs)
  | followJournal p => exact servedCommand_keeps blind (fun _ hx => hx) hs
  | leaveFollow p =>
    unfold exec execLeaveFollow
    refine whenRunning_keeps hs ?_
    dsimp only
    split
    · exact hs
    · exact takeWithData_keeps blind (s := beginExchange p s) (fun _ hx => hx) hs
  | followExchange p =>
    unfold exec execFollowExchange
    refine whenRunning_keeps hs ?_
    split <;> exact hs
  | readJournal p => exact whenRunning_keeps hs (exchange_keeps blind (fun _ hx => readReply_keeps blind hx) hs)
  | readCursorMove p =>
    unfold exec execReadCursorMove
    exact whenRunning_keeps hs hs
  | framingDiscard p k a r =>
    unfold exec execFramingDiscard
    refine whenRunning_keeps hs ?_
    split <;> exact hs
  | unknownCommand p k =>
    unfold exec execUnknownCommand
    refine whenRunning_keeps hs ?_
    split
    · exact exchange_keeps blind (fun _ hx => hx) hs
    · exact hs
  | announce p b v a k n w =>
    refine whenRunning_keeps hs (exchange_keeps blind (fun x hx => takeWithData_keeps blind (fun y hy => ?_) hx) hs)
    split
    exacts [hy, hy.of_cal (announceBody_cal y _ _)]
  | attach p b v =>
    refine whenRunning_keeps hs (exchange_keeps blind (fun x hx => takeWithData_keeps blind (fun y hy => ?_) hx) hs)
    split
    exacts [hy, hy.of_cal (attachBody_cal y _ _)]
  | release p b ref => exact laneCommand_storedAs (fun l x => by split; exacts [rfl, releaseVisit_cal x l _]) hs
  | capture p b ref => exact laneCommand_storedAs (fun l x => by split; exacts [rfl, captureVisit_cal x l _]) hs
  | manualRaise p b => exact laneCommand_storedAs (fun l x => manualRaise_cal x l) hs
  | manualLower p b => exact laneCommand_storedAs (fun l x => manualLower_cal x l) hs
  | reprintLast p b =>
    refine laneCommand_storedAs (fun l x => ?_) hs
    unfold reprintLast
    split
    exacts [rfl, reprint_cal x l _]
  | reprintTicket p n b => exact command_storedAs (fun x => by split; exacts [rfl, reprint_cal x _ _]) hs
  | abortPrint p b =>
    refine laneCommand_storedAs (fun l x => ?_) hs
    unfold abortPrint
    split
    exacts [rfl, endJob_cal x l _]
  | zeroDeck p b => exact command_keeps blind (fun x hx => by split; exacts [hx, hx.zeroDeck _]) hs
  | voidVisit p n => exact command_storedAs (fun x => voidVisit_cal x _) hs
  | resolve p n k => exact command_storedAs (fun x => resolveVisit_cal x _ _) hs
  | archiveUpTo p n => exact command_storedAs (fun x => archiveUpTo_cal x _) hs
  | setClock p d n => exact command_storedAs (fun x => by unfold setClock; split <;> rfl) hs
  | forceRollover p => exact command_storedAs rolloverEvent_cal hs
  | setOutput p n k => exact command_storedAs (fun x => setOutput_cal x _ _) hs
  | restartLanes p => exact command_storedAs restartLanes_cal hs
  | clearLaneFault p b => exact command_storedAs (fun x => by split; exacts [rfl, clearLaneFault_cal x _]) hs
  | calBegin p b => exact calCommand_keeps blind (fun d _ hx => hx.calBegin d) hs
  | calSet p b f => exact calCommand_keeps blind (inSession_keeps fun r d _ hx => hx.calSet f r d) hs
  | calZero p b => exact calCommand_keeps blind (inSession_keeps fun r d _ hx => hx.calZero r d) hs
  | calSpan p b n => exact calCommand_keeps blind (inSession_keeps fun r d _ hx => hx.calSpan _ r d) hs
  | calEnd p b => exact calCommand_keeps blind (inSession_keeps fun r d _ hx => hx.calEnd p r d) hs
  | calAbandon p b => exact calCommand_keeps blind (inSession_keeps fun _ _ _ hx => hx) hs
  | lockCalibration p =>
    exact command_keeps blind (fun x hx => StoredAs.abandonIdles (s := lockUntilPower x) hx Idx.all) hs
  | writeSiteNumber p n => exact command_keeps blind (fun _ hx => hx.writeSiteNumber p _) hs
  | retryStore p => exact command_keeps blind (fun _ hx => hx.retryStore p) hs
  | sampleOk d n => exact whenRunning_storedAs (sampleStep_cal s d n) hs
  | sampleCellError d n =>
    unfold exec execSampleCellError
    refine whenRunning_storedAs ?_ hs
    split
    exacts [rfl, linkFault_cal s d]
  | linkSilenceTimeout d =>
    unfold exec execLinkSilenceTimeout
    refine whenDue_keeps hs hs (hs.of_cal ?_)
    split
    exacts [linkFault_cal s d, rfl]
  | captureTimeout d =>
    unfold exec execCaptureTimeout
    exact whenDue_keeps hs hs (hs.of_cal (endCapture_cal s d _))
  | zeroTrackingStep d => exact whenRunning_storedAs (trackStep_cal s d) hs
  | ticketIssue => exact whenRunning_storedAs (issueStep_cal s) hs
  | floorWriteEnd ok => exact whenRunning_storedAs (floorWriteEnd_cal s ok) hs
  | calWriteEnd ok =>
    cases ok with
    | true => exact absurd rfl hwrite
    | false => exact whenRunning_keeps hs hs.calWriteEnd_failed
  | siteNumberWriteEnd ok => exact whenRunning_keeps hs (hs.siteWriteEnd ok)
  | clockAdvance =>
    rintro t ⟨⟩
    split
    exacts [hs.of_cal (absorbAdvance_cal s), hs.of_cal (countSecond_cal s)]
  | overstay n =>
    unfold exec execOverstay
    refine whenRunning_storedAs ?_ hs
    split
    · rfl
    · split
      exacts [overstayVisit_cal s _, rfl]
  | loopFilterChange l b =>
    unfold exec execLoopFilterChange
    refine whenRunning_storedAs ?_ hs
    split
    exacts [rfl, loopChange_cal s l b]
  | beamFilterChange l b x =>
    unfold exec execBeamFilterChange
    exact whenRunning_keeps hs hs
  | barrierLimitChange l x a =>
    show ∀ t, execBarrierLimitChange l x a s = .next t → StoredAs c t
    unfold execBarrierLimitChange
    split
    · rintro t ⟨⟩; exact hs
    · rintro t ⟨⟩
      split
      · exact hs.of_cal (limitActive_cal _ l x)
      · exact hs
  | travelTimeout l =>
    unfold exec execTravelTimeout
    refine whenDue_keeps hs hs (hs.of_cal ?_)
    split
    exacts [enterFault_cal s l, rfl]
  | passTimeout l =>
    unfold exec execPassTimeout
    refine whenDue_keeps hs hs (hs.of_cal ?_)
    split
    · split
      exacts [rfl, stallLane_cal s l]
    · rfl
  | unannouncedOccupancyTimeout l =>
    unfold exec execUnannouncedOccupancyTimeout
    refine whenDue_keeps hs hs ?_
    split <;> exact hs
  | metrologySwitchChange b =>
    unfold exec execMetrologySwitchChange
    refine whenRunning_keeps hs ?_
    split
    · exact hs
    · split
      · exact hs
      · exact StoredAs.abandonIdles (s := { s with cal := { s.cal with switchClosed := b } }) hs Idx.all
  | printByteSent l =>
    unfold exec execPrintByteSent
    refine whenRunning_storedAs ?_ hs
    split
    exacts [pumpEngine_cal _ l, rfl]
  | printerReadyChange l b => rintro t ⟨⟩; exact hs
  | paperOutChange l b =>
    unfold exec execPaperOutChange
    refine whenRunning_storedAs ?_ hs
    split
    · rfl
    · split
      exacts [paperGone_cal s l, paperBack_cal s l]
  | pauseTimeout l =>
    unfold exec execPauseTimeout
    refine whenDue_keeps hs hs (hs.of_cal ?_)
    split
    exacts [endJob_cal s l _, rfl]
  | inputFilterChange n b =>
    unfold exec execInputFilterChange
    refine whenRunning_storedAs ?_ hs
    split
    exacts [raiseEvent_cal _ _ _, rfl]
  | outputPulseExpiry n =>
    unfold exec execOutputPulseExpiry
    refine whenDue_keeps hs hs ?_
    split <;> exact hs
  | powerOn x => exact absurd rfl (hstart x).1
  | externalReset x => exact absurd rfl (hstart x).2
  | powerLoss b => exact whenRunning_keeps hs hs

/-! #### The success of a calibration write (R37) -/

/-- What a successful calibration write makes of the calibration unit (R37). -/
def storedCal (d : Deck) (r : CalRecord) (k : StagedCal) (x : CalUnit) : CalUnit :=
  { x with stored := x.stored.put d r, audit := k.audit, staged := none, working := x.working.put d none }

theorem calStored_cal (d : Deck) (r : CalRecord) (k : StagedCal) (s : State) :
    (calStored d r k s).cal = storedCal d r k s.cal := rfl

theorem calWriteEnd_eq {d : Deck} {r : CalRecord} {a : Nat} {k : StagedCal} (hflight : s.nv.inFlight = some (.cal d r a))
    (hstaged : s.cal.staged = some k) (ok : Bool) : calWriteEnd ok s = nvServe (afterCalWrite (ok && s.nv.storeFault)
      (if ok then calStored d r k (nvEnd ok s) else calNotStored d (nvEnd ok s))) := by
  unfold calWriteEnd
  rw [hflight, hstaged]

theorem calWriteEnd_success_cal {d : Deck} {r : CalRecord} {a : Nat} {k : StagedCal}
    (hflight : s.nv.inFlight = some (.cal d r a)) (hstaged : s.cal.staged = some k) :
    (calWriteEnd true s).cal = storedCal d r k s.cal := by
  rw [calWriteEnd_eq hflight hstaged, nvServe_cal, afterCalWrite_cal, if_pos rfl, calStored_cal, nvEnd_cal]

/-- Without a calibration write in flight there is no end of one. -/
theorem calWriteEnd_of_none (h : ∀ d r a k, s.nv.inFlight = some (.cal d r a) → s.cal.staged ≠ some k) (ok : Bool) :
    calWriteEnd ok s = s := by
  unfold calWriteEnd
  split
  · rename_i hflight hstaged
    exact absurd hstaged (h _ _ _ _ hflight)
  · rfl

/-- Settles O11: every command but the success of a calibration write and the starts keeps what is stored, and that
success stores the staged audit value, which `WriterOk` has be the next one. -/
theorem calibrationChangesOnlyByAStoredWrite : Obligations.CalibrationChangesOnlyByAStoredWrite := by
  intro i s t hw h hchange
  have unkept : ¬ StoredAs s.cal t := fun hk => hchange.elim (fun hs => hs hk.1) fun ha => ha hk.2
  by_cases hstart : ∃ x, i = .powerOn x ∨ i = .externalReset x
  · exact .inr hstart
  by_cases hwrite : i = .calWriteEnd true
  · subst hwrite
    obtain ⟨-, -, -, -, hnext, -⟩ := hw
    cases h
    by_cases hpower : s.power = true
    · rw [if_pos hpower] at unkept ⊢
      by_cases hnone : ∀ d r a k, s.nv.inFlight = some (.cal d r a) → s.cal.staged ≠ some k
      · rw [calWriteEnd_of_none hnone] at unkept
        exact absurd ⟨rfl, rfl⟩ unkept
      · push Not at hnone
        obtain ⟨d, r, a, k, hflight, hstaged⟩ := hnone
        have hcal := calWriteEnd_success_cal hflight hstaged
        refine .inl ⟨rfl, ?_, by rw [hstaged]; rfl, by rw [hcal]; rfl⟩
        rw [hcal]
        exact hnext k hstaged
    · rw [if_neg hpower] at unkept
      exact absurd ⟨rfl, rfl⟩ unkept
  · have hno : ∀ x, i ≠ .powerOn x ∧ i ≠ .externalReset x := fun x =>
      ⟨fun hi => hstart ⟨x, .inl hi⟩, fun hi => hstart ⟨x, .inr hi⟩⟩
    exact absurd (exec_keeps_storedAs i hwrite hno ⟨rfl, rfl⟩ t h) unkept

end Stored

end Sys2Proof.Machine

/-! PROOFS, 02_calibration_zero_setting_and_the_metrology_lock, 07_tickets_and_the_journal and
11_clock_retained_memory_and_start_up. The ends of the three non-volatile writes (R37, R41, R123, R124, R186). -/

namespace Sys2Proof.Machine
open Sys2Proof

/-! ### Entries retained under further appends (R131) -/

section Retained

variable {j : Journal} {n : Nat} {e : JournalEntry}

theorem oldestRetained_eq (j : Journal) : oldestRetained j = max 1 (j.last - 1023) := by
  unfold oldestRetained
  split <;> omega

theorem push_last (j : Journal) (b : JournalBody) : (j.push b).last = j.last + 1 := rfl

theorem retainedEntry_push_last (j : Journal) (b : JournalBody) :
    retainedEntry (j.push b) (j.last + 1) = some { seq := j.last + 1, body := b } := by
  have holdest : oldestRetained (j.push b) ≤ j.last + 1 ∧ j.last + 1 ≤ (j.push b).last := by
    rw [oldestRetained_eq, push_last]
    omega
  unfold retainedEntry
  rw [if_pos holdest]
  simp [Journal.push]

/-- A retained entry that is not the oldest of a full ring outlives the next append. -/
theorem retainedEntry_push (h : retainedEntry j n = some e) (hn : j.last < n + 1023) (b : JournalBody) :
    retainedEntry (j.push b) n = some e := by
  unfold retainedEntry at h
  split at h
  · rename_i hrange
    have hpushed : oldestRetained (j.push b) ≤ n ∧ n ≤ (j.push b).last := by
      rw [oldestRetained_eq, Nat.max_le] at hrange
      obtain ⟨⟨hone, -⟩, hlast⟩ := hrange
      rw [oldestRetained_eq, push_last, Nat.max_le]
      exact ⟨⟨hone, by omega⟩, by omega⟩
    have hplace : n % 1024 ≠ (j.last + 1) % 1024 := by omega
    have hfind : Table.find (j.push b).ring (n % 1024) = Table.find j.ring (n % 1024) :=
      Table.find_insert_of_ne j.ring _ hplace
    unfold retainedEntry
    rw [if_pos hpushed, hfind]
    exact h
  · cases h

theorem retainedEntry_pushes (bs : List JournalBody) (h : retainedEntry j n = some e)
    (hn : j.last + bs.length < n + 1024) : retainedEntry (bs.foldl Journal.push j) n = some e := by
  induction bs generalizing j with
  | nil => exact h
  | cons b bs ih =>
    rw [List.length_cons] at hn
    exact ih (retainedEntry_push h (by omega) b) (by rw [push_last]; omega)

theorem pushes_reservations (bs : List JournalBody) (j : Journal) :
    (bs.foldl Journal.push j).reservations = j.reservations := by
  induction bs generalizing j with
  | nil => rfl
  | cons b bs ih => exact ih (j.push b)

end Retained

/-! ### What the drain and the ticket unit's tries leave (R126, R137) -/

section Appends

variable {s t u : State} {m n : Nat}

/-- At most `n` entries have been appended, the cells and the store fault are as they were, and of the ports at most their
pending sets have grown. -/
structure Appends (n : Nat) (s t : State) : Prop where
  pushed : ∃ bs : List JournalBody, bs.length ≤ n ∧ t.journal = bs.foldl Journal.push s.journal
  cells : t.nv.cells = s.nv.cells
  storeFault : t.nv.storeFault = s.nv.storeFault
  port : ∀ p, (t.port p).outsideRoutes = (s.port p).outsideRoutes
  grows : NoticesGrow s t

theorem Appends.refl (n : Nat) (s : State) : Appends n s s :=
  ⟨⟨[], Nat.zero_le _, rfl⟩, rfl, rfl, fun _ => rfl, NoticesGrow.refl s⟩

theorem Appends.trans (h : Appends m s t) (g : Appends n t u) : Appends (m + n) s u where
  pushed := by
    obtain ⟨bs, hlength, hjournal⟩ := h.pushed
    obtain ⟨ds, glength, gjournal⟩ := g.pushed
    refine ⟨bs ++ ds, by rw [List.length_append]; omega, ?_⟩
    rw [List.foldl_append, ← hjournal, gjournal]
  cells := g.cells.trans h.cells
  storeFault := g.storeFault.trans h.storeFault
  port p := (g.port p).trans (h.port p)
  grows := h.grows.trans g.grows

theorem Appends.mono (h : Appends m s t) (hmn : m ≤ n) : Appends n s t where
  pushed := by
    obtain ⟨bs, hlength, hjournal⟩ := h.pushed
    exact ⟨bs, hlength.trans hmn, hjournal⟩
  cells := h.cells
  storeFault := h.storeFault
  port := h.port
  grows := h.grows

/-- What a work inside the yard does is no append. -/
theorem Appends.of_outsideYard (h : t.outsideYard = s.outsideYard) (hn : NoticesGrow s t) : Appends 0 s t where
  pushed := by
    have hjournal : t.outsideYard.journal = s.outsideYard.journal := congrArg State.journal h
    exact ⟨[], Nat.le_refl _, hjournal⟩
  cells := by
    have hcells : t.outsideYard.nv.cells = s.outsideYard.nv.cells := congrArg (fun x : State => x.nv.cells) h
    exact hcells
  storeFault := by
    have hfault : t.outsideYard.nv.storeFault = s.outsideYard.nv.storeFault :=
      congrArg (fun x : State => x.nv.storeFault) h
    exact hfault
  port := port_of_outsideYard h
  grows := hn

/-- Nor is what the ticket unit and the writer do among themselves. -/
theorem Appends.of_keeps (h : KeepsAllBut [.nv, .tickets] s t) (hcells : t.nv.cells = s.nv.cells)
    (hfault : t.nv.storeFault = s.nv.storeFault) : Appends 0 s t where
  pushed := ⟨[], Nat.le_refl _, h.journal (by decide)⟩
  cells := hcells
  storeFault := hfault
  port p := by unfold State.port; rw [h.ports (by decide)]
  grows := .of_ports (h.ports (by decide))

theorem raiseEvent_appends (k : EventKind) (x : Option Nat) (s : State) : Appends 0 s (raiseEvent k x s) :=
  .of_outsideYard (raiseEvent_outsideYard s k x) (raiseEvent_aside .i1 k x s).notices

theorem raiseNotice_appends (k : Notice) (p : PortId) (s : State) : Appends 0 s (raiseNotice k p s) :=
  .of_outsideYard (raiseNotice_outsideYard s k p) (raiseNotice_grows k p s)

/-- A request reaches the writer and changes no cell. -/
theorem nvRequest_appends (r : NvRequest) (s : State) : Appends 0 s (nvRequest r s) := by
  refine .of_keeps (nvRequest_hide (by decide) r) ?_ ?_ <;> unfold nvRequest <;> split
  · rfl
  · split <;> rfl
  · rfl
  · split <;> rfl

theorem nvServe_appends (s : State) : Appends 0 s (nvServe s) := by
  refine .of_keeps (nvServe_hide (by decide)) ?_ ?_ <;> unfold nvServe <;> split
  · rfl
  · split
    · rfl
    · split <;> rfl
  · rfl
  · split
    · rfl
    · split <;> rfl

theorem tryHead_appends (s : State) : Appends 0 s (tryHead s) := by
  have waited : ∀ (x : TicketUnit), Appends 0 s (s.setTickets x) := fun x => .of_keeps rfl rfl rfl
  unfold tryHead
  split
  · exact waited _
  · dsimp only
    split
    · exact (waited _).trans (nvRequest_appends _ _)
    · exact waited _

theorem countEvents_appends (k : Nat) (s : State) : Appends 0 s (countEvents k s) := by
  unfold countEvents
  split
  · exact (raiseEvent_appends _ _ _).trans (raiseNotice_appends _ _ _)
  · split
    · exact (raiseEvent_appends _ _ _).trans (raiseNotice_appends _ _ _)
    · exact .refl 0 s

theorem appendEntry_appends (b : JournalBody) (s : State) : Appends 1 s (appendEntry b s) := by
  have pushed : Appends 1 s (s.setJournal (s.journal.push b)) :=
    ⟨⟨[b], Nat.le_refl _, rfl⟩, rfl, rfl, fun _ => rfl, .of_ports rfl⟩
  exact pushed.trans (countEvents_appends _ _)

theorem appendRollover_appends (d : Nat) (s : State) : Appends 1 s (appendRollover d s) := by
  have begun : Appends 0 (appendEntry (.rollover d (nowStamp s)) s)
      (beginYardDay d (appendEntry (.rollover d (nowStamp s)) s)) :=
    ⟨⟨[], Nat.le_refl _, rfl⟩, rfl, rfl, fun _ => rfl, .of_ports rfl⟩
  exact (appendEntry_appends _ s).trans (begun.trans (raiseEvent_appends _ _ _))

/-- The drain appends a RESTART and a ROLLOVER record at most (R137). -/
theorem drain_appends (s : State) : Appends 2 s (drain s) := by
  have unpended : ∀ (y : State) (x : TicketUnit), Appends 0 y (y.setTickets x) := fun y x => .of_keeps rfl rfl rfl
  have restart : Appends 1 s (drainRestart s) := by
    unfold drainRestart
    split
    · exact .refl 1 s
    · split
      · exact (unpended _ _).trans (appendEntry_appends _ _)
      · exact .refl 1 s
  have rollover : ∀ y : State, Appends 1 y (drainRollover y) := fun y => by
    unfold drainRollover
    split
    · exact .refl 1 y
    · split
      · exact (unpended _ _).trans (appendRollover_appends _ _)
      · exact .refl 1 y
  unfold drain
  dsimp only
  split
  · exact restart.mono (by omega)
  · split
    · exact restart.trans (rollover _)
    · exact (restart.trans (rollover _)).trans (tryHead_appends _)

end Appends

/-! ### The office port at a write's end (R168, R170) -/

section OfficeEnd

variable {s t : State} {c : Byte} {ok : Bool}

/-- What a write's end shows at the office port: no longer busy, with the write's code and outcome, and reason STORE after
a failure (R168, R170). -/
def OfficeEnded (t : State) (c : Byte) (ok : Bool) : Prop :=
  (t.port .office).busy = false ∧ (t.port .office).lastCommand = c
    ∧ (t.port .office).lastResult = (if ok then .done else .failed) ∧ (t.port .office).reasonStore = !ok

theorem officeWriteEnd_ended (c : Byte) (ok : Bool) (s : State) : OfficeEnded (officeWriteEnd c ok s) c ok := by
  unfold OfficeEnded officeWriteEnd
  rw [modPort_port]
  exact ⟨rfl, rfl, rfl, rfl⟩

theorem OfficeEnded.of_port (h : OfficeEnded s c ok)
    (hp : (t.port .office).outsideRoutes = (s.port .office).outsideRoutes) :
    OfficeEnded t c ok := by
  obtain ⟨hbusy, hcommand, hresult, hreason⟩ := h
  exact ⟨(congrArg Port.busy hp).trans hbusy, (congrArg Port.lastCommand hp).trans hcommand,
    (congrArg Port.lastResult hp).trans hresult, (congrArg Port.reasonStore hp).trans hreason⟩

theorem officeWriteEnd_grows (c : Byte) (ok : Bool) (s : State) : NoticesGrow s (officeWriteEnd c ok s) := fun n q h => by
  unfold Noticed officeWriteEnd at *
  by_cases hq : q = .office
  · subst hq; rwa [modPort_port]
  · rwa [modPort_port_of_ne s _ hq]

theorem raiseLaneOffice_port (n : Notice) (l : Lane) (p : PortId) (s : State) :
    ((raiseLaneOffice n l s).port p).outsideRoutes = (s.port p).outsideRoutes :=
  (raiseNotice_port n _ p _).trans (raiseNotice_port n _ p s)

end OfficeEnd

/-! ### The writer's end of a write (R186) -/

section WriterEnd

variable {s : State} {r : NvRequest}

/-- The writer after a write that succeeded: its content in the cells, the store fault cleared (R186). -/
def NvUnit.succeeded (r : NvRequest) (x : NvUnit) : NvUnit :=
  { x with cells := x.cells.written r, inFlight := none, storeFault := false }

/-- The writer after a write that failed (R186). -/
def NvUnit.failed (x : NvUnit) : NvUnit := { x with inFlight := none, storeFault := true }

theorem nvEnd_success (h : s.nv.inFlight = some r) : nvEnd true s = s.setNv (s.nv.succeeded r) := by
  unfold nvEnd
  rw [h]
  rfl

theorem nvEnd_failure (h : s.nv.inFlight = some r) : nvEnd false s = s.setNv s.nv.failed := by
  unfold nvEnd
  rw [h]
  rfl

theorem setNv_keeps (s : State) (x : NvUnit) : KeepsAllBut [.nv] s (s.setNv x) := rfl

end WriterEnd

/-! ### The calibration write's end (R37) -/

section CalWrite

variable {s : State} {d : Deck} {r : CalRecord} {a : Nat} {k : StagedCal}

/-- What a calibration write's end reaches. -/
def calWriteParts : List Part := [.cal, .nv, .allow, .tickets, .journal] ++ yardParts

theorem calWriteParts_yard : HidesYard calWriteParts := by unfold HidesYard; decide

theorem endSession_keeps (d : Deck) (s : State) : KeepsAllBut calWriteParts s (endSession d s) := by
  refine (modDeck_hide (by decide) d _).trans ?_
  simp [State.hide, setWorking, calWriteParts]

/-- What follows the end leaves the session's outcome alone and appends two system records at most. -/
structure Settles (s t : State) : Prop where
  appends : Appends 2 s t
  cal : t.cal = s.cal
  cores : t.deckCores = s.deckCores
  rest : KeepsAllBut calWriteParts s t

theorem afterCalWrite_settles (b : Bool) (s : State) : Settles s (nvServe (afterCalWrite b s)) := by
  have hy := calWriteParts_yard
  have drained : Settles s (drain s) :=
    ⟨drain_appends s, drain_cal s, drain_deckCores s,
      drain_hide hy (by decide) (by decide) (by decide) (by decide)⟩
  have tried : Settles s (afterCalWrite b s) := by
    unfold afterCalWrite
    dsimp only
    split
    · exact ⟨drained.appends.trans (tryHead_appends _), (tryHead_cal _).trans drained.cal,
        (tryHead_deckCores _).trans drained.cores, (tryHead_hide (by decide) (by decide)).trans drained.rest⟩
    · exact drained
  exact ⟨tried.appends.trans (nvServe_appends _), (nvServe_cal _).trans tried.cal,
    (nvServe_deckCores _).trans tried.cores, (nvServe_hide (by decide)).trans tried.rest⟩

/-! #### Success -/

/-- The state at the append of the CALIBRATION record: record, audit counter and Zs stored (R37). -/
def calPut (d : Deck) (r : CalRecord) (k : StagedCal) (s : State) : State :=
  (s.setCal { s.cal with stored := s.cal.stored.put d r, audit := k.audit }).modDeck d fun u => u.setZero 0

/-- The state with the CALIBRATION record in its reservation and the staged record gone (R37, R133). -/
def calAppended (d : Deck) (r : CalRecord) (k : StagedCal) (s : State) : State :=
  (appendReserved (.calibration k (nowStamp s)) (calPut d r k s)).setCal { (calPut d r k s).cal with staged := none }

theorem calStored_eq (d : Deck) (r : CalRecord) (k : StagedCal) (s : State) : calStored d r k s =
    officeWriteEnd 0x74#8 true (raiseLaneOffice .calib d (endSession d (calAppended d r k s))) := rfl

theorem calStored_journal (d : Deck) (r : CalRecord) (k : StagedCal) (s : State) : (calStored d r k s).journal =
    { s.journal with reservations := s.journal.reservations - 1 }.push (.calibration k (nowStamp s)) :=
  appendEntry_journal _ _

theorem calAppended_nv (d : Deck) (r : CalRecord) (k : StagedCal) (s : State) : (calAppended d r k s).nv = s.nv := by
  have hy : HidesYard (.journal :: yardParts) := by unfold HidesYard; decide
  have hkeeps : KeepsAllBut (.journal :: yardParts) (calPut d r k s)
    (appendReserved (.calibration k (nowStamp s)) (calPut d r k s)) := appendReserved_hide hy (by decide) _
  exact hkeeps.nv (by decide)

theorem calStored_nv (d : Deck) (r : CalRecord) (k : StagedCal) (s : State) : (calStored d r k s).nv = s.nv :=
  calAppended_nv d r k s

theorem calAppended_deck (d : Deck) (r : CalRecord) (k : StagedCal) (s : State) :
    ((calAppended d r k s).deck d).outsideRoutes = ((s.deck d).setZero 0).outsideRoutes := by
  have hzero : (calPut d r k s).deck d = (s.deck d).setZero 0 := modDeck_deck _ d _
  rw [← hzero]
  exact deckCores_get (appendReserved_deckCores (calPut d r k s) _) d

theorem endSession_deck (d : Deck) (s : State) : (endSession d s).deck d = (s.deck d).leaveCalibrating :=
  modDeck_deck (setWorking d none s) d _

theorem calStored_deck (d : Deck) (r : CalRecord) (k : StagedCal) (s : State) :
    ((calStored d r k s).deck d).outsideRoutes = (((s.deck d).setZero 0).leaveCalibrating).outsideRoutes := by
  have hdeck : (calStored d r k s).deck d = ((calAppended d r k s).deck d).leaveCalibrating :=
    endSession_deck d (calAppended d r k s)
  rw [hdeck]
  exact congrArg DeckUnit.leaveCalibrating (calAppended_deck d r k s)

theorem calStored_keeps (d : Deck) (r : CalRecord) (k : StagedCal) (s : State) :
    KeepsAllBut calWriteParts s (calStored d r k s) := by
  have hy := calWriteParts_yard
  have hput : KeepsAllBut calWriteParts s (calPut d r k s) := (modDeck_hide hy.decks d _).trans rfl
  have happended : KeepsAllBut calWriteParts s (calAppended d r k s) :=
    (appendReserved_hide hy (by decide) (.calibration k (nowStamp s))).trans hput
  rw [calStored_eq]
  exact (modPort_hide hy.ports _ _).trans ((raiseLaneOffice_hide hy _ d).trans
    ((endSession_keeps d _).trans happended))

theorem calStored_ended (d : Deck) (r : CalRecord) (k : StagedCal) (s : State) :
    OfficeEnded (calStored d r k s) 0x74#8 true := by
  rw [calStored_eq]
  exact officeWriteEnd_ended _ _ _

theorem calStored_noticed (d : Deck) (r : CalRecord) (k : StagedCal) (s : State) :
    Noticed (calStored d r k s) .calib (.lane d) ∧ Noticed (calStored d r k s) .calib .office := by
  obtain ⟨hlane, hoffice⟩ := noticed_raiseLaneOffice .calib d (endSession d (calAppended d r k s))
  exact ⟨officeWriteEnd_grows _ _ _ _ _ hlane, officeWriteEnd_grows _ _ _ _ _ hoffice⟩

/-! #### Failure -/

/-- The state after a failed calibration write while its session lasts: reservation and staged record gone, the office
port answered (R37). -/
def calDropped (s : State) : State :=
  officeWriteEnd 0x74#8 false ((s.setJournal { s.journal with reservations := s.journal.reservations - 1 }).setCal
    { s.cal with staged := none })

theorem calNotStored_eq (d : Deck) (s : State) : calNotStored d s =
    if s.cal.switchClosed = true then calDropped s else abandonSession d (calDropped s) := rfl

theorem calNotStored_of_closed (h : s.cal.switchClosed = true) : calNotStored d s = calDropped s := if_pos h

theorem calNotStored_of_open (h : s.cal.switchClosed = false) : calNotStored d s = abandonSession d (calDropped s) := by
  rw [calNotStored_eq, h]
  rfl

theorem calNotStored_journal (d : Deck) (s : State) : (calNotStored d s).journal =
    { s.journal with reservations := s.journal.reservations - 1 } := by
  rw [calNotStored_eq]
  split <;> rfl

theorem calNotStored_nv (d : Deck) (s : State) : (calNotStored d s).nv = s.nv := by
  rw [calNotStored_eq]
  split <;> rfl

theorem calNotStored_cal (d : Deck) (s : State) :
    ∃ w, (calNotStored d s).cal = { s.cal with staged := none, working := w } := by
  rw [calNotStored_eq]
  split <;> exact ⟨_, rfl⟩

theorem calNotStored_ended (d : Deck) (s : State) : OfficeEnded (calNotStored d s) 0x74#8 false := by
  have dropped : OfficeEnded (calDropped s) 0x74#8 false := officeWriteEnd_ended _ _ _
  rw [calNotStored_eq]
  split
  · exact dropped
  · exact dropped.of_port (raiseLaneOffice_port .calib d .office (endSession d (calDropped s)))

theorem calNotStored_keeps (d : Deck) (s : State) : KeepsAllBut calWriteParts s (calNotStored d s) := by
  have dropped : KeepsAllBut calWriteParts s (calDropped s) := (modPort_hide (by decide) .office _).trans rfl
  rw [calNotStored_eq]
  split
  · exact dropped
  · exact dropped.trans ((raiseLaneOffice_hide calWriteParts_yard _ d).trans (endSession_keeps d _))

/-! #### The two ends -/

theorem exec_calWriteEnd (hpower : s.power = true) (ok : Bool) : exec (.calWriteEnd ok) s = .next (calWriteEnd ok s) := by
  simp [exec, execCalWriteEnd, whenRunning, hpower]

/-- With a staged record one reservation stands (R133). -/
theorem JournalOk.reservations_of_staged (h : JournalOk s) (hstaged : s.cal.staged = some k) :
    s.journal.reservations = 1 := by
  obtain ⟨-, -, hreservations, -⟩ := h
  rw [hreservations, hstaged]
  rfl

theorem calWriteEnd_success (hflight : s.nv.inFlight = some (.cal d r a)) (hstaged : s.cal.staged = some k) :
    Settles (calStored d r k (s.setNv (s.nv.succeeded (.cal d r a)))) (calWriteEnd true s) := by
  rw [calWriteEnd_eq hflight hstaged, if_pos rfl, nvEnd_success hflight]
  exact afterCalWrite_settles _ _

theorem calWriteEnd_failure (hflight : s.nv.inFlight = some (.cal d r a)) (hstaged : s.cal.staged = some k) :
    Settles (calNotStored d (s.setNv s.nv.failed)) (calWriteEnd false s) := by
  rw [calWriteEnd_eq hflight hstaged, if_neg nofun, nvEnd_failure hflight]
  exact afterCalWrite_settles _ _

/-- Settles O50: the write's end is `calStored` or `calNotStored` on the writer's own end, and what follows settles it. -/
theorem calibrationWriteEnds : Obligations.CalibrationWriteEnds := by
  intro s d r a c hjournal hpower hflight hstaged _
  have hone := hjournal.reservations_of_staged hstaged
  have begun : ∀ x, KeepsAllBut calWriteParts s (s.setNv x) := fun x => (setNv_keeps s x).mono (by decide)
  refine ⟨⟨_, exec_calWriteEnd hpower true, ?_⟩, ⟨_, exec_calWriteEnd hpower false, ?_⟩⟩
  · have hset := calWriteEnd_success hflight hstaged
    generalize calWriteEnd true s = t at hset ⊢
    generalize hx : s.nv.succeeded (.cal d r a) = x at hset
    have hcal : t.cal = storedCal d r c s.cal := hset.cal
    have hnv : (calStored d r c (s.setNv x)).nv = x := calStored_nv d r c (s.setNv x)
    have hcore := (deckCores_get hset.cores d).trans (calStored_deck d r c (s.setNv x))
    obtain ⟨bs, hlength, hpushes⟩ := hset.appends.pushed
    rw [calStored_journal] at hpushes
    obtain ⟨hbusy, hcommand, hresult, hreason⟩ :=
      (calStored_ended d r c (s.setNv x)).of_port (hset.appends.port .office)
    obtain ⟨hlane, hoffice⟩ := calStored_noticed d r c (s.setNv x)
    refine ⟨by rw [hcal]; rfl, by rw [hcal]; rfl, by rw [hcal]; rfl, by rw [hcal]; exact Four.get_put_self _ d none,
      ?_, ?_, congrArg DeckUnit.zs hcore, congrArg DeckUnit.valid hcore, congrArg DeckUnit.window hcore,
      congrArg DeckUnit.phase hcore, ?_, ?_, hbusy, hcommand, hresult, hreason, hset.appends.grows _ _ hoffice,
      hset.appends.grows _ _ hlane, (begun x).trans ((calStored_keeps d r c _).trans hset.rest)⟩
    · rw [hset.appends.cells, hnv, ← hx]; rfl
    · rw [hset.appends.storeFault, hnv, ← hx]; rfl
    · rw [hpushes]
      exact retainedEntry_pushes bs (retainedEntry_push_last _ _) (by rw [push_last]; dsimp only [State.setNv]; omega)
    · rw [hpushes, pushes_reservations]
      exact Nat.sub_eq_zero_of_le hone.le
  · have hset := calWriteEnd_failure hflight hstaged
    generalize calWriteEnd false s = t at hset ⊢
    generalize hx : s.nv.failed = x at hset
    obtain ⟨w, hdropped⟩ := calNotStored_cal d (s.setNv x)
    have hcal := hset.cal.trans hdropped
    have hnv : (calNotStored d (s.setNv x)).nv = x := calNotStored_nv d (s.setNv x)
    have hcore := deckCores_get hset.cores d
    obtain ⟨bs, -, hpushes⟩ := hset.appends.pushed
    rw [calNotStored_journal] at hpushes
    obtain ⟨hbusy, hcommand, hresult, hreason⟩ :=
      (calNotStored_ended d (s.setNv x)).of_port (hset.appends.port .office)
    refine ⟨by rw [hcal]; rfl, by rw [hcal]; rfl, by rw [hcal], ?_, ?_, ?_, hbusy, hcommand, hresult, hreason,
      fun hclosed => ?_, fun hopen => ?_, (begun x).trans ((calNotStored_keeps d _).trans hset.rest)⟩
    · rw [hset.appends.cells, hnv, ← hx]; rfl
    · rw [hset.appends.storeFault, hnv, ← hx]; rfl
    · rw [hpushes, pushes_reservations]
      exact Nat.sub_eq_zero_of_le hone.le
    · have heq : calNotStored d (s.setNv x) = calDropped (s.setNv x) := calNotStored_of_closed hclosed
      rw [heq] at hcore
      have hphase := congrArg DeckUnit.phase hcore
      exact ⟨hphase, by rw [hset.cal, heq]; rfl⟩
    · have heq : calNotStored d (s.setNv x) = abandonSession d (calDropped (s.setNv x)) := calNotStored_of_open hopen
      have hleft : (abandonSession d (calDropped (s.setNv x))).deck d = (s.deck d).leaveCalibrating :=
        endSession_deck d (calDropped (s.setNv x))
      obtain ⟨-, hoffice⟩ := noticed_raiseLaneOffice .calib d (endSession d (calDropped (s.setNv x)))
      rw [heq, hleft] at hcore
      exact ⟨by rw [hset.cal, heq]; exact Four.get_put_self _ d none,
        hset.appends.grows _ _ (by rw [heq]; exact hoffice), congrArg DeckUnit.phase hcore⟩

end CalWrite

end Sys2Proof.Machine

/-! ### The ends of a floor write and of a site number write (R41, R123, R124) -/

namespace Sys2Proof.Machine
open Sys2Proof

section FloorAndSite

variable {s : State} {w v : Nat} {f : FloorWrite}

/-- A try of the head and what the writer serves next leave the numbering, the queue, the cells and the store fault (R123,
R126, R186). -/
structure Tried (s t : State) : Prop where
  keeps : KeepsAllBut [.nv, .tickets] s t
  next : t.tickets.next = s.tickets.next
  floor : t.tickets.floor = s.tickets.floor
  queue : t.tickets.queue = s.tickets.queue
  cells : t.nv.cells = s.nv.cells
  storeFault : t.nv.storeFault = s.nv.storeFault

theorem officeWriteEnd_keeps (c : Byte) (ok : Bool) (s : State) : KeepsAllBut [.ports] s (officeWriteEnd c ok s) :=
  modPort_hide (by decide) .office _

theorem nvServe_keeps (s : State) : KeepsAllBut [.nv] s (nvServe s) := nvServe_hide (by decide)

theorem nvServe_tryHead_tried (s : State) : Tried s (nvServe (tryHead s)) := by
  have happends := (tryHead_appends s).trans (nvServe_appends (tryHead s))
  have htried : KeepsAllBut [.nv, .tickets] s (tryHead s) := tryHead_hide (by decide) (by decide)
  have htickets := (nvServe_keeps (tryHead s)).tickets (by decide)
  obtain ⟨hnext, hfloor, hqueue, -⟩ := tryHead_tickets (s := s)
  exact ⟨htried.trans ((nvServe_keeps _).mono (by decide)), by rw [htickets, hnext], by rw [htickets, hfloor],
    by rw [htickets, hqueue], happends.cells, happends.storeFault⟩

theorem Tried.ended {t : State} (h : Tried s t) {c : Byte} {ok : Bool} (hs : OfficeEnded s c ok) : OfficeEnded t c ok :=
  hs.of_port (by unfold State.port; rw [h.keeps.ports (by decide)])

/-! #### The floor write -/

theorem exec_floorWriteEnd (hpower : s.power = true) (hflight : s.nv.inFlight = some (.floor w))
    (hwrite : s.tickets.floorWrite = some f) (ok : Bool) :
    exec (.floorWriteEnd ok) s = .next (nvServe (floorOutcome f ok (nvEnd ok s))) := by
  simp [exec, execFloorWriteEnd, whenRunning, hpower, floorWriteEnd, hflight, hwrite]

/-- The state a floor write's success leaves before the head is tried (R123, R124). -/
def floorStored (f : FloorWrite) (s : State) : State :=
  retryEnd f true (s.setTickets { s.tickets with floorWrite := none, floor := f.value })

theorem floorOutcome_success (f : FloorWrite) (s : State) : floorOutcome f true s = tryHead (floorStored f s) := rfl

/-- RETRY STORE's part of an end reaches the ports alone. -/
theorem retryEnd_keeps (f : FloorWrite) (ok : Bool) (s : State) : KeepsAllBut [.ports] s (retryEnd f ok s) := by
  unfold retryEnd
  split
  · exact officeWriteEnd_keeps _ _ s
  · rfl

theorem floorStored_tickets (f : FloorWrite) (s : State) :
    (floorStored f s).tickets = { s.tickets with floorWrite := none, floor := f.value } :=
  (retryEnd_keeps f true _).tickets (by decide)

theorem floorStored_nv (f : FloorWrite) (s : State) : (floorStored f s).nv = s.nv :=
  (retryEnd_keeps f true (s.setTickets { s.tickets with floorWrite := none, floor := f.value })).nv (by decide)

theorem floorStored_keeps (f : FloorWrite) (s : State) : KeepsAllBut [.tickets, .ports] s (floorStored f s) := by
  have set : ∀ x, KeepsAllBut [.tickets, .ports] s (s.setTickets x) := fun x => rfl
  exact (set _).trans ((retryEnd_keeps f true _).mono (by decide))

theorem floorStored_of_retry (h : f.retry = true) (s : State) : floorStored f s =
    officeWriteEnd 0x7D#8 true (s.setTickets { s.tickets with floorWrite := none, floor := f.value }) := if_pos h

theorem floorStored_of_own (h : f.retry = false) (s : State) : floorStored f s =
    s.setTickets { s.tickets with floorWrite := none, floor := f.value } := by
  rw [floorStored, retryEnd, h]
  rfl

theorem floorOutcome_failed_of_retry (h : f.retry = true) (s : State) : floorOutcome f false s =
    officeWriteEnd 0x7D#8 false (s.setTickets { s.tickets with floorWrite := none }) := by
  simp [floorOutcome, retryEnd, h, State.setTickets]

theorem floorOutcome_failed_of_own (h : f.retry = false) (s : State) : floorOutcome f false s =
    setWait .storeFault (raiseNotice .store .office (s.setTickets { s.tickets with floorWrite := none })) := by
  simp [floorOutcome, h, State.setTickets]

/-- A failed floor write leaves the ticket unit all but its floor write and its wait (R123). -/
theorem floorOutcome_failed (f : FloorWrite) (s : State) : ∃ x, (floorOutcome f false s).tickets =
    { s.tickets with floorWrite := none, wait := x } ∧ (floorOutcome f false s).nv = s.nv
    ∧ KeepsAllBut [.tickets, .ports] s (floorOutcome f false s) := by
  have set : ∀ x, KeepsAllBut [.tickets, .ports] s (s.setTickets x) := fun x => rfl
  cases h : f.retry with
  | true =>
    rw [floorOutcome_failed_of_retry h]
    exact ⟨_, rfl, rfl, (set _).trans ((officeWriteEnd_keeps _ _ _).mono (by decide))⟩
  | false =>
    rw [floorOutcome_failed_of_own h]
    exact ⟨_, rfl, rfl, (setWait_hide (by decide) _).trans ((modPort_hide (by decide) .office _).trans (set _))⟩

theorem floorWrite_succeeds (hpower : s.power = true) (hflight : s.nv.inFlight = some (.floor w))
    (hwrite : s.tickets.floorWrite = some f) :
    ∃ t, exec (.floorWriteEnd true) s = .next t ∧ t.tickets.floor = f.value ∧ t.tickets.next = s.tickets.next
      ∧ t.tickets.queue = s.tickets.queue ∧ t.nv.cells = { s.nv.cells with floor := some w }
      ∧ t.nv.storeFault = false ∧ (f.retry = true → OfficeEnded t 0x7D#8 true) ∧ (f.retry = false → t.ports = s.ports)
      ∧ KeepsAllBut [.tickets, .nv, .ports] s t := by
  refine ⟨_, exec_floorWriteEnd hpower hflight hwrite true, ?_⟩
  rw [nvEnd_success hflight, floorOutcome_success]
  generalize hx : s.nv.succeeded (.floor w) = x
  have htried := nvServe_tryHead_tried (floorStored f (s.setNv x))
  generalize nvServe (tryHead (floorStored f (s.setNv x))) = t at htried ⊢
  have htickets := floorStored_tickets f (s.setNv x)
  have hnv := floorStored_nv f (s.setNv x)
  refine ⟨by rw [htried.floor, htickets], by rw [htried.next, htickets]; rfl, by rw [htried.queue, htickets]; rfl,
    by rw [htried.cells, hnv, ← hx]; rfl, by rw [htried.storeFault, hnv, ← hx]; rfl, fun hretry => htried.ended ?_,
    fun hown => ?_, ?_⟩
  · rw [floorStored_of_retry hretry]
    exact officeWriteEnd_ended _ _ _
  · rw [htried.keeps.ports (by decide), floorStored_of_own hown]
    rfl
  · exact ((setNv_keeps s x).mono (by decide)).trans
      (((floorStored_keeps f _).mono (by decide)).trans (htried.keeps.mono (by decide)))

theorem floorWrite_fails (hpower : s.power = true) (hflight : s.nv.inFlight = some (.floor w))
    (hwrite : s.tickets.floorWrite = some f) :
    ∃ t, exec (.floorWriteEnd false) s = .next t ∧ t.tickets.floor = s.tickets.floor ∧ t.tickets.floorWrite = none
      ∧ t.tickets.next = s.tickets.next ∧ t.tickets.queue = s.tickets.queue ∧ t.nv.cells = s.nv.cells
      ∧ t.nv.storeFault = true ∧ (f.retry = true → OfficeEnded t 0x7D#8 false)
      ∧ (f.retry = false → Noticed t .store .office ∧ t.tickets.wait = .storeFault)
      ∧ KeepsAllBut [.tickets, .nv, .ports] s t := by
  refine ⟨_, exec_floorWriteEnd hpower hflight hwrite false, ?_⟩
  rw [nvEnd_failure hflight]
  generalize hx : s.nv.failed = x
  have hserved := nvServe_keeps (floorOutcome f false (s.setNv x))
  have happends := nvServe_appends (floorOutcome f false (s.setNv x))
  generalize nvServe (floorOutcome f false (s.setNv x)) = t at hserved happends ⊢
  obtain ⟨wait, hfailed, hnv, hkeeps⟩ := floorOutcome_failed f (s.setNv x)
  have htickets := (hserved.tickets (by decide)).trans hfailed
  refine ⟨by rw [htickets]; rfl, by rw [htickets], by rw [htickets]; rfl, by rw [htickets]; rfl,
    by rw [happends.cells, hnv, ← hx]; rfl, by rw [happends.storeFault, hnv, ← hx]; rfl,
    fun hretry => ?_, fun hown => ?_, ?_⟩
  · refine OfficeEnded.of_port ?_ (happends.port .office)
    rw [floorOutcome_failed_of_retry hretry]
    exact officeWriteEnd_ended _ _ _
  · have heq := floorOutcome_failed_of_own hown (s.setNv x)
    refine ⟨happends.grows _ _ ?_, ?_⟩
    · rw [heq]
      exact noticed_raiseNotice .store .office _
    · rw [hserved.tickets (by decide), heq]
      rfl
  · exact ((setNv_keeps s x).mono (by decide)).trans ((hkeeps.mono (by decide)).trans (hserved.mono (by decide)))

/-! #### The site number write -/

theorem exec_siteNumberWriteEnd (hpower : s.power = true) (hflight : s.nv.inFlight = some (.site v)) (ok : Bool) :
    exec (.siteNumberWriteEnd ok) s = .next (nvServe (siteOutcome v ok (nvEnd ok s))) := by
  simp [exec, execSiteNumberWriteEnd, whenRunning, hpower, siteWriteEnd, hflight]

/-- The state a site number write's success leaves before the head is tried (R41). -/
def siteStored (v : Nat) (s : State) : State := officeWriteEnd 0x7C#8 true (s.setCal { s.cal with site := some v })

theorem siteOutcome_success (v : Nat) (s : State) : siteOutcome v true s = tryHead (siteStored v s) := rfl

theorem siteNumberWrite_succeeds (hpower : s.power = true) (hflight : s.nv.inFlight = some (.site v)) :
    ∃ t, exec (.siteNumberWriteEnd true) s = .next t ∧ t.cal = { s.cal with site := some v }
      ∧ t.nv.cells = { s.nv.cells with site := some v } ∧ t.nv.storeFault = false ∧ OfficeEnded t 0x7C#8 true
      ∧ t.tickets.queue = s.tickets.queue ∧ t.tickets.next = s.tickets.next
      ∧ KeepsAllBut [.cal, .tickets, .nv, .ports] s t := by
  have set : ∀ x, KeepsAllBut [.cal, .tickets, .nv, .ports] s ((s.setNv x).setCal { s.cal with site := some v }) :=
    fun x => rfl
  refine ⟨_, exec_siteNumberWriteEnd hpower hflight true, ?_⟩
  rw [nvEnd_success hflight, siteOutcome_success]
  generalize hx : s.nv.succeeded (.site v) = x
  have htried := nvServe_tryHead_tried (siteStored v (s.setNv x))
  generalize nvServe (tryHead (siteStored v (s.setNv x))) = t at htried ⊢
  exact ⟨by rw [htried.keeps.cal (by decide)]; rfl, by rw [htried.cells, ← hx]; rfl,
    by rw [htried.storeFault, ← hx]; rfl, htried.ended (officeWriteEnd_ended _ _ _), by rw [htried.queue]; rfl,
    by rw [htried.next]; rfl,
    (set x).trans (((officeWriteEnd_keeps _ _ _).mono (by decide)).trans (htried.keeps.mono (by decide)))⟩

theorem siteNumberWrite_fails (hpower : s.power = true) (hflight : s.nv.inFlight = some (.site v)) :
    ∃ t, exec (.siteNumberWriteEnd false) s = .next t ∧ t.nv.cells = s.nv.cells ∧ t.nv.storeFault = true
      ∧ OfficeEnded t 0x7C#8 false ∧ KeepsAllBut [.nv, .ports] s t := by
  have failed : ∀ x, KeepsAllBut [.ports] (s.setNv x) (siteOutcome v false (s.setNv x)) := fun x =>
    officeWriteEnd_keeps 0x7C#8 false (s.setNv x)
  refine ⟨_, exec_siteNumberWriteEnd hpower hflight false, ?_⟩
  rw [nvEnd_failure hflight]
  generalize hx : s.nv.failed = x
  have hserved := nvServe_keeps (siteOutcome v false (s.setNv x))
  have happends := nvServe_appends (siteOutcome v false (s.setNv x))
  generalize nvServe (siteOutcome v false (s.setNv x)) = t at hserved happends ⊢
  exact ⟨by rw [happends.cells, ← hx]; rfl, by rw [happends.storeFault, ← hx]; rfl,
    (officeWriteEnd_ended _ _ _).of_port (happends.port .office), ((setNv_keeps s x).mono (by decide)).trans
      (((failed x).mono (by decide)).trans (hserved.mono (by decide)))⟩

/-- Settles O51: the four ends, the office port's answer taken apart. -/
theorem floorAndSiteWritesEnd : Obligations.FloorAndSiteWritesEnd := by
  intro s hpower
  refine ⟨fun w f hflight hwrite =>
      ⟨floorWrite_succeeds hpower hflight hwrite, floorWrite_fails hpower hflight hwrite⟩, fun v hflight => ⟨?_, ?_⟩⟩
  · obtain ⟨t, hexec, hcal, hcells, hfault, ⟨hbusy, hcommand, hresult, -⟩, hrest⟩ :=
      siteNumberWrite_succeeds hpower hflight
    exact ⟨t, hexec, hcal, hcells, hfault, hbusy, hcommand, hresult, hrest⟩
  · obtain ⟨t, hexec, hcells, hfault, ⟨hbusy, hcommand, hresult, hreason⟩, hrest⟩ :=
      siteNumberWrite_fails hpower hflight
    exact ⟨t, hexec, hcells, hfault, hbusy, hcommand, hresult, hreason, hrest⟩

end FloorAndSite

end Sys2Proof.Machine

/-! PROOFS, 03_visits. The visit table: finding a visit after each change of a record, and the operations on queues and
records that keep the visits unique and the queues in agreement with them (R43, R44, R46). -/

namespace Sys2Proof

/-! ### A table with a record added where nothing is listed -/

section FreeEntry

variable {α : Type} {t : Table α} {i : Nat}

theorem Table.find_eq_none_iff : Table.find t i = none ↔ ∀ p ∈ t, p.1 ≠ i := by
  induction t with
  | nil => simp [Table.find]
  | cons q t ih =>
    obtain ⟨j, y⟩ := q
    rw [List.forall_mem_cons, ← ih, Table.find]
    split <;> simp_all

/-- Listed at a free index, a record joins the others and takes the place of none. -/
theorem Table.insert_perm (h : Table.find t i = none) (x : α) : (Table.insert t i x).Perm ((i, x) :: t) := by
  induction t with
  | nil => exact .refl _
  | cons q t ih =>
    obtain ⟨j, y⟩ := q
    rw [Table.find_eq_none_iff, List.forall_mem_cons] at h
    obtain ⟨hj, ht⟩ := h
    rw [Table.insert]
    split
    · exact .refl _
    · rw [if_neg (Ne.symm hj)]
      exact ((ih (Table.find_eq_none_iff.2 ht)).cons _).trans (.swap _ _ _)

theorem Table.lowestFree_some {n : Nat} (h : Table.lowestFree t n = some i) : i < n ∧ Table.find t i = none :=
  ⟨List.mem_range.1 (List.mem_of_find?_eq_some h), by simpa using List.find?_some h⟩

theorem Table.lowestFree_eq_none_iff {n : Nat} : Table.lowestFree t n = none ↔ ∀ e, e < n → Table.find t e ≠ none := by
  simp [Table.lowestFree, List.find?_eq_none]

/-- A table of indices below `n` with a free one lists fewer than `n` records. -/
theorem Table.length_lt_of_free {n : Nat} (hr : Table.rising t = true) (hb : ∀ p ∈ t, p.1 < n) (hi : i < n)
    (h : Table.find t i = none) : t.length < n := by
  have hnodup : (i :: t.map Prod.fst).Nodup := by
    refine List.nodup_cons.2 ⟨fun hm => ?_, ?_⟩
    · obtain ⟨p, hp, hpi⟩ := List.mem_map.1 hm
      exact Table.find_eq_none_iff.1 h p hp hpi
    · exact List.pairwise_map.2 (((Table.rising_iff t).1 hr).imp fun h => Nat.ne_of_lt h)
  have hsub : i :: t.map Prod.fst ⊆ List.range n := by
    intro k hk
    rcases List.mem_cons.1 hk with rfl | hk
    · exact List.mem_range.2 hi
    · obtain ⟨p, hp, rfl⟩ := List.mem_map.1 hk
      exact List.mem_range.2 (hb p hp)
  simpa using (List.subperm_of_subset hnodup hsub).length_le

/-- What a change of every record leaves of a figure that it keeps. -/
theorem Table.map_mapVals {β : Type} {g : α → α} {φ : α → β} (h : ∀ x, φ (g x) = φ x) (t : Table α) :
    (Table.mapVals t g).map (fun p => φ p.2) = t.map fun p => φ p.2 := by
  simp [Table.mapVals, Function.comp_def, h]

end FreeEntry

end Sys2Proof

namespace Sys2Proof.Machine
open Sys2Proof

/-! ### The visit table alone -/

section VisitParts

variable {s t : State} {ps : List Part}

theorem KeepsAllBut.visits (h : KeepsAllBut ps s t) (hp : .visits ∉ ps) : t.visits = s.visits := by
  simpa [State.hide, hp] using congrArg State.visits h

theorem visits_of_outsideYard (h : t.outsideYard = s.outsideYard) : t.visits = s.visits :=
  have hvisits : t.outsideYard.visits = s.outsideYard.visits := congrArg State.visits h
  hvisits

theorem findVisit_congr (h : t.visits = s.visits) (n : Nat) : findVisit t n = findVisit s n := by
  unfold findVisit
  rw [h]

theorem queueOf_congr (h : t.visits = s.visits) (l : Lane) : queueOf t l = queueOf s l := by
  unfold queueOf
  rw [h]

theorem isHead_congr (h : t.visits = s.visits) (l : Lane) (n : Nat) : isHead t l n = isHead s l n := by
  unfold isHead
  rw [queueOf_congr h]

end VisitParts

/-! ### Finding a visit -/

section Finding

variable {s t : State} {n m : Nat} {v : Visit}

theorem number_of_findVisit (h : findVisit s n = some v) : v.number = n := by
  simpa using List.find?_some h

/-- A visit that is found is in the table. -/
theorem mem_of_findVisit (h : findVisit s n = some v) : ∃ p ∈ s.visits.records, p.2 = v := by
  simpa using List.mem_of_find?_eq_some h

theorem findVisit_eq_none_iff : findVisit s n = none ↔ ∀ p ∈ s.visits.records, p.2.number ≠ n := by
  simp [findVisit]

theorem findVehicle_eq_none_iff {x : Text} : findVehicle s x = none ↔ ∀ p ∈ s.visits.records, p.2.vehicle ≠ x := by
  simp [findVehicle]

/-- A change of a visit that keeps its number shows where that visit is found, and nowhere else. -/
theorem findVisit_modVisit {f : Visit → Visit} (hf : ∀ x, (f x).number = x.number) (s : State) (n m : Nat) :
    findVisit (modVisit n f s) m = if m = n then (findVisit s n).map f else findVisit s m := by
  have hnumber : ∀ x : Visit, (if x.number = n then f x else x).number = x.number := fun x => by
    split
    · exact hf x
    · rfl
  have hfound : findVisit (modVisit n f s) m = (findVisit s m).map fun x => if x.number = n then f x else x := by
    unfold findVisit
    simp only [modVisit, Table.mapVals, List.map_map]
    rw [show (Prod.snd ∘ fun p : Nat × Visit => (p.1, if p.2.number = n then f p.2 else p.2))
        = (fun x : Visit => if x.number = n then f x else x) ∘ Prod.snd from rfl, ← List.map_map, List.find?_map]
    simp only [Function.comp_def, hnumber]
  rw [hfound]
  split
  · rename_i h
    subst h
    cases h : findVisit s m with
    | none => rfl
    | some v => simp [number_of_findVisit h]
  · rename_i h
    cases hv : findVisit s m with
    | none => rfl
    | some v => simp [number_of_findVisit hv, h]

theorem findVisit_removeVisit (s : State) (n m : Nat) :
    findVisit (removeVisit n s) m = if m = n then none else findVisit s m := by
  split
  · rename_i h
    subst h
    exact findVisit_eq_none_iff.2 fun p hp => by simpa using (List.mem_filter.1 hp).2
  · rename_i h
    unfold findVisit removeVisit
    generalize s.visits.records = table
    induction table with
    | nil => rfl
    | cons p table ih =>
      by_cases hp : p.2.number = n
      · have hm : p.2.number ≠ m := fun e => h (e.symm.trans hp)
        rw [List.filter_cons_of_neg (by simp [hp]), List.map_cons, List.find?_cons_of_neg (by simp [hm])]
        exact ih
      · rw [List.filter_cons_of_pos (by simp [hp]), List.map_cons, List.map_cons, List.find?_cons, List.find?_cons]
        simp only [ih]

/-- Where no visit has the number, nothing changes. -/
theorem modVisit_of_none (h : findVisit s n = none) (f : Visit → Visit) : (modVisit n f s).visits = s.visits := by
  have hid : (Table.mapVals s.visits.records fun v => if v.number = n then f v else v) = s.visits.records := by
    unfold Table.mapVals
    refine (List.map_congr_left fun p hp => ?_).trans (List.map_id _)
    simp [findVisit_eq_none_iff.1 h p hp]
  unfold modVisit
  rw [hid]

end Finding

/-! ### Visits and queues in agreement (R43, R46) -/

section Agreement

variable {s t : State} {l : Lane} {n : Nat} {v : Visit}

theorem VisitsOk.of_visits (hs : VisitsOk s) (h : t.visits = s.visits) : VisitsOk t := by
  unfold VisitsOk queueOf at *
  rw [h]
  exact hs

theorem portBlind_visitsOk : PortBlind VisitsOk := fun _ _ _ h => h

/-- The records' part of the agreement: indices rise below 64, and no two visits share a number or a vehicle (R43). -/
def RecordsOk (t : Table Visit) : Prop :=
  Table.rising t = true ∧ (∀ p ∈ t, p.1 < 64) ∧ (t.map fun p => p.2.number).Nodup ∧ (t.map fun p => p.2.vehicle).Nodup

theorem VisitsOk.records (hs : VisitsOk s) : RecordsOk s.visits.records := by
  obtain ⟨hrising, hbound, hnumbers, hvehicles, -⟩ := hs
  exact ⟨hrising, hbound, hnumbers, hvehicles⟩

/-- The records' part with the queues' part. -/
theorem RecordsOk.visitsOk (hr : RecordsOk s.visits.records) (hslots : ∀ l : Lane, ((queueOf s l).map Prod.fst).Nodup)
    (hagree : ∀ (l : Lane) (slot : Slot) (n : Nat), (slot, n) ∈ queueOf s l ↔
      ∃ p ∈ s.visits.records, p.2.number = n ∧ ∃ pl, p.2.place = some pl ∧ pl.lane = l ∧ pl.slot = slot)
    (hgen : ∀ l slot : Idx, (s.visits.queues.get l).generations.get slot < 16) : VisitsOk s := by
  obtain ⟨hrising, hbound, hnumbers, hvehicles⟩ := hr
  exact ⟨hrising, hbound, hnumbers, hvehicles, hslots, hagree, hgen⟩

theorem modVisit_records (n : Nat) (f : Visit → Visit) (s : State) : (modVisit n f s).visits.records =
    Table.mapVals s.visits.records fun v => if v.number = n then f v else v := rfl

theorem mem_modVisit {f : Visit → Visit} {p : Nat × Visit} : p ∈ (modVisit n f s).visits.records ↔
    ∃ q ∈ s.visits.records, (q.1, if q.2.number = n then f q.2 else q.2) = p := List.mem_map

/-- A change of a visit that keeps its number and vehicle. -/
theorem RecordsOk.modVisit (hr : RecordsOk s.visits.records) (n : Nat) {f : Visit → Visit}
    (hnumber : ∀ x, (f x).number = x.number) (hvehicle : ∀ x, (f x).vehicle = x.vehicle) :
    RecordsOk (modVisit n f s).visits.records := by
  obtain ⟨hrising, hbound, hnumbers, hvehicles⟩ := hr
  have keepsNumber : ∀ x : Visit, (if x.number = n then f x else x).number = x.number := fun x => by
    split
    exacts [hnumber x, rfl]
  have keepsVehicle : ∀ x : Visit, (if x.number = n then f x else x).vehicle = x.vehicle := fun x => by
    split
    exacts [hvehicle x, rfl]
  refine ⟨?_, fun p hp => ?_, ?_, ?_⟩
  · rw [modVisit_records]
    exact Table.rising_mapVals hrising _
  · obtain ⟨q, hq, rfl⟩ := mem_modVisit.1 hp
    exact hbound q hq
  · rwa [modVisit_records, Table.map_mapVals keepsNumber]
  · rwa [modVisit_records, Table.map_mapVals keepsVehicle]

/-- Two open visits of one number are one record. -/
theorem VisitsOk.record_unique (hs : VisitsOk s) {p q : Nat × Visit} (hp : p ∈ s.visits.records)
    (hq : q ∈ s.visits.records) (h : p.2.number = q.2.number) : p = q := by
  obtain ⟨-, -, hnumbers, -⟩ := hs
  exact List.inj_on_of_nodup_map hnumbers hp hq h

theorem VisitsOk.findVisit_of_mem (hs : VisitsOk s) {p : Nat × Visit} (hp : p ∈ s.visits.records) :
    findVisit s p.2.number = some p.2 := by
  cases h : findVisit s p.2.number with
  | none => exact absurd rfl (findVisit_eq_none_iff.1 h p hp)
  | some v =>
    obtain ⟨q, hq, rfl⟩ := mem_of_findVisit h
    rw [hs.record_unique hq hp (number_of_findVisit h)]

/-- A number stands in a queue where the visit's place says so. -/
theorem VisitsOk.mem_queue_iff (hs : VisitsOk s) (hv : findVisit s n = some v) (l : Lane) (slot : Slot) :
    (slot, n) ∈ queueOf s l ↔ ∃ pl, v.place = some pl ∧ pl.lane = l ∧ pl.slot = slot := by
  obtain ⟨p, hp, rfl⟩ := mem_of_findVisit hv
  obtain ⟨-, -, -, -, -, hagree, -⟩ := id hs
  rw [hagree]
  constructor
  · rintro ⟨q, hq, hqn, hplace⟩
    rwa [← hs.record_unique hq hp (hqn.trans (number_of_findVisit hv).symm)]
  · exact fun hplace => ⟨p, hp, number_of_findVisit hv, hplace⟩

/-- The visit of a number is at no lane. -/
def Away (n : Nat) (s : State) : Prop := ∀ p ∈ s.visits.records, p.2.number = n → p.2.place = none

theorem VisitsOk.away (hs : VisitsOk s) (hv : findVisit s n = some v) (hplace : v.place = none) : Away n s := by
  intro p hp hn
  have hfound := hs.findVisit_of_mem hp
  rw [hn, hv, Option.some.injEq] at hfound
  rw [← hfound, hplace]

/-- No queue holds the number of a visit that is at no lane. -/
theorem VisitsOk.not_mem_queue (hs : VisitsOk s) (h : Away n s) (l : Lane) (slot : Slot) : (slot, n) ∉ queueOf s l := by
  intro hm
  obtain ⟨-, -, -, -, -, hagree, -⟩ := hs
  obtain ⟨p, hp, hpn, pl, hplace, -⟩ := (hagree l slot n).1 hm
  rw [h p hp hpn] at hplace
  cases hplace

/-- A change of a visit that keeps its number, vehicle and place keeps the agreement. -/
theorem VisitsOk.modVisit (hs : VisitsOk s) (n : Nat) {f : Visit → Visit} (hnumber : ∀ x, (f x).number = x.number)
    (hvehicle : ∀ x, (f x).vehicle = x.vehicle) (hplace : ∀ x, (f x).place = x.place) :
    VisitsOk (modVisit n f s) := by
  obtain ⟨-, -, -, -, hslots, hagree, hgen⟩ := id hs
  refine (hs.records.modVisit n hnumber hvehicle).visitsOk hslots (fun l slot m => ?_) hgen
  have hshown : ∀ x : Visit, (if x.number = n then f x else x).number = x.number
      ∧ (if x.number = n then f x else x).place = x.place := fun x => by
    split
    exacts [⟨hnumber x, hplace x⟩, ⟨rfl, rfl⟩]
  rw [modVisit_queueOf, hagree]
  simp only [mem_modVisit, exists_exists_and_eq_and, hshown]

/-- A visit that is at no lane can be removed. -/
theorem VisitsOk.removeVisit (hs : VisitsOk s) (h : Away n s) : VisitsOk (removeVisit n s) := by
  have hnot := hs.not_mem_queue h
  obtain ⟨hrising, hbound, hnumbers, hvehicles, hslots, hagree, hgen⟩ := hs
  refine ⟨Table.rising_filter hrising _, fun p hp => hbound p (List.mem_filter.1 hp).1,
    hnumbers.sublist (List.filter_sublist.map _), hvehicles.sublist (List.filter_sublist.map _), hslots, fun l slot m => ?_,
    hgen⟩
  rw [removeVisit_queueOf]
  constructor
  · intro hm
    obtain ⟨p, hp, hpm, hplace⟩ := (hagree l slot m).1 hm
    have hne : m ≠ n := fun e => hnot l slot (e ▸ hm)
    exact ⟨p, List.mem_filter.2 ⟨hp, by simp [hpm, hne]⟩, hpm, hplace⟩
  · rintro ⟨p, hp, hpm, hplace⟩
    exact (hagree l slot m).2 ⟨p, (List.mem_filter.1 hp).1, hpm, hplace⟩

/-! #### Leaving a place -/

theorem modQueue_queueOf (s : State) (l k : Lane) (f : LaneQueue → LaneQueue) :
    queueOf (s.modQueue l f) k = if k = l then (f (s.visits.queues.get l)).members else queueOf s k := by
  unfold queueOf State.modQueue
  split
  · rename_i h
    rw [h, Four.get_put_self]
  · rename_i h
    rw [Four.get_put_of_ne _ _ h]

theorem freePlace_queueOf (pl : LanePlace) (n : Nat) (s : State) (k : Lane) :
    queueOf (freePlace pl n s) k = if k = pl.lane then (queueOf s pl.lane).filter (fun m => m.2 ≠ n) else queueOf s k := by
  rw [freePlace, modVisit_queueOf, modQueue_queueOf]
  rfl

theorem freePlace_generations (pl : LanePlace) (n : Nat) (s : State) (k : Lane) :
    ((freePlace pl n s).visits.queues.get k).generations =
      if k = pl.lane then (s.visits.queues.get pl.lane).generations.put pl.slot
        (((s.visits.queues.get pl.lane).generations.get pl.slot + 1) % 16)
      else (s.visits.queues.get k).generations := by
  show ((s.visits.queues.put pl.lane _).get k).generations = _
  split
  · rename_i h
    rw [h, Four.get_put_self]
  · rename_i h
    rw [Four.get_put_of_ne _ _ h]

theorem freePlace_findVisit (pl : LanePlace) (n : Nat) (s : State) (m : Nat) : findVisit (freePlace pl n s) m =
    if m = n then (findVisit s n).map fun v => { v with place := none } else findVisit s m := by
  rw [freePlace, findVisit_modVisit (f := fun v => { v with place := none }) (fun _ => rfl)]
  rfl

theorem freePlace_away (pl : LanePlace) (n : Nat) (s : State) : Away n (freePlace pl n s) := by
  intro p hp hn
  obtain ⟨q, -, rfl⟩ := List.mem_map.1 hp
  by_cases hq : q.2.number = n
  · simp [hq]
  · simp [hq] at hn

/-- A visit leaves the place it has, and the agreement stands. -/
theorem VisitsOk.freePlace (hs : VisitsOk s) {pl : LanePlace} (hv : findVisit s n = some v) (hplace : v.place = some pl) :
    VisitsOk (freePlace pl n s) := by
  have hqueue : ∀ l slot m, (slot, m) ∈ queueOf (Machine.freePlace pl n s) l ↔ (slot, m) ∈ queueOf s l ∧ m ≠ n := by
    intro l slot m
    rw [freePlace_queueOf]
    split
    · rename_i h
      simp [h]
    · rename_i h
      refine ⟨fun hm => ⟨hm, fun e => ?_⟩, fun hm => hm.1⟩
      subst e
      obtain ⟨x, hx, hlane, -⟩ := (hs.mem_queue_iff hv l slot).1 hm
      rw [hplace, Option.some.injEq] at hx
      exact h (hlane.symm.trans (congrArg LanePlace.lane hx.symm))
  obtain ⟨-, -, -, -, hslots, hagree, hgen⟩ := id hs
  refine RecordsOk.visitsOk (RecordsOk.modVisit (s := s.modQueue pl.lane _) hs.records n (fun _ => rfl) fun _ => rfl)
    (fun l => ?_) (fun l slot m => ?_) fun l slot => ?_
  · rw [freePlace_queueOf]
    split
    · exact (hslots pl.lane).sublist (List.filter_sublist.map _)
    · exact hslots l
  · rw [hqueue, hagree]
    constructor
    · rintro ⟨⟨p, hp, hpm, hat⟩, hne⟩
      exact ⟨_, mem_modVisit.2 ⟨p, hp, rfl⟩, by simp [hpm, hne], by simpa [hpm, hne] using hat⟩
    · rintro ⟨q, hq, hqm, hat⟩
      obtain ⟨p, hp, rfl⟩ := mem_modVisit.1 hq
      by_cases hpn : p.2.number = n
      · simp [hpn] at hat
      · simp only [hpn, if_false] at hqm hat
        exact ⟨⟨p, hp, hqm, hat⟩, fun e => hpn (hqm.trans e)⟩
  · rw [freePlace_generations]
    split
    · by_cases hslot : slot = pl.slot
      · rw [hslot, Four.get_put_self]
        exact Nat.mod_lt _ (by decide)
      · rw [Four.get_put_of_ne _ _ hslot]
        exact hgen _ _
    · exact hgen l slot

theorem handHead_visits (l : Lane) (b : Bool) (s : State) : (handHead l b s).visits = s.visits :=
  visits_of_outsideYard (handHead_outsideYard s l b)

/-- A departure keeps the agreement as what it ends with does, for a visit that is at no lane by then. -/
theorem VisitsOk.depart (hs : VisitsOk s) (n : Nat) {f : State → State}
    (hf : ∀ x, VisitsOk x → Away n x → VisitsOk (f x)) : VisitsOk (depart n f s) := by
  unfold Machine.depart
  split
  · exact hs
  · rename_i v hv
    split
    · rename_i hplace
      exact hf s hs (hs.away hv hplace)
    · rename_i pl hplace
      have left : VisitsOk (f (Machine.freePlace pl n s)) := hf _ (hs.freePlace hv hplace) (freePlace_away pl n s)
      dsimp only
      split
      · exact left.of_visits (handHead_visits pl.lane true _)
      · exact left

/-! #### Joining a queue -/

theorem freeSlot_some {q : List (Slot × Nat)} {slot : Slot} (h : freeSlot q = some slot) : slot ∉ q.map Prod.fst := by
  have hfree := List.find?_some h
  intro hm
  obtain ⟨m, hm', rfl⟩ := List.mem_map.1 hm
  simp only [Bool.not_eq_true', List.any_eq_false] at hfree
  exact hfree _ hm' (by simp)

/-- The visits of a state in which a visit has joined a queue. -/
def placeVisit (l : Lane) (slot : Slot) (n : Nat) (pass : PassKind) (s : State) : State :=
  modVisit n (fun v => { v with place := some { lane := l, slot := slot, pass := pass } })
    (s.modQueue l fun q => { q with members := q.members ++ [(slot, n)] })

theorem joinQueue_eq {slot : Slot} (h : freeSlot (queueOf s l) = some slot) (n : Nat) (pass : PassKind) :
    joinQueue l n pass s = syncUnannounced l
      (if (queueOf s l).isEmpty then handHead l true (placeVisit l slot n pass s) else placeVisit l slot n pass s) := by
  unfold joinQueue
  rw [h]
  rfl

theorem joinQueue_visits {slot : Slot} (h : freeSlot (queueOf s l) = some slot) (n : Nat) (pass : PassKind) :
    (joinQueue l n pass s).visits = (placeVisit l slot n pass s).visits := by
  rw [joinQueue_eq h]
  refine Eq.trans (b := (ite _ _ _ : State).visits) rfl ?_
  split
  · exact handHead_visits l true _
  · rfl

theorem placeVisit_queueOf (l : Lane) (slot : Slot) (n : Nat) (pass : PassKind) (s : State) (k : Lane) :
    queueOf (placeVisit l slot n pass s) k = if k = l then queueOf s l ++ [(slot, n)] else queueOf s k := by
  rw [placeVisit, modVisit_queueOf, modQueue_queueOf]
  rfl

theorem placeVisit_findVisit (l : Lane) (slot : Slot) (n : Nat) (pass : PassKind) (s : State) (m : Nat) :
    findVisit (placeVisit l slot n pass s) m =
      if m = n then (findVisit s n).map fun v => { v with place := some { lane := l, slot := slot, pass := pass } }
      else findVisit s m := by
  rw [placeVisit, findVisit_modVisit (f := fun v => { v with place := some { lane := l, slot := slot, pass := pass } })
    (fun _ => rfl)]
  rfl

theorem placeVisit_generations (l : Lane) (slot : Slot) (n : Nat) (pass : PassKind) (s : State) (k : Lane) :
    ((placeVisit l slot n pass s).visits.queues.get k).generations = (s.visits.queues.get k).generations := by
  show ((s.visits.queues.put l _).get k).generations = _
  by_cases h : k = l
  · rw [h, Four.get_put_self]
  · rw [Four.get_put_of_ne _ _ h]

/-- An open visit that is at no lane takes a free slot at the tail of a queue, and the agreement stands. -/
theorem VisitsOk.placeVisit (hs : VisitsOk s) {slot : Slot} (hopen : findVisit s n ≠ none) (haway : Away n s)
    (hslot : freeSlot (queueOf s l) = some slot) (pass : PassKind) : VisitsOk (placeVisit l slot n pass s) := by
  have hnot := hs.not_mem_queue haway
  obtain ⟨v, hv⟩ := Option.ne_none_iff_exists'.1 hopen
  obtain ⟨p₀, hp₀, hpv⟩ := mem_of_findVisit hv
  have hn₀ : p₀.2.number = n := by rw [hpv, number_of_findVisit hv]
  obtain ⟨-, -, -, -, hslots, hagree, hgen⟩ := id hs
  refine RecordsOk.visitsOk (RecordsOk.modVisit (s := s.modQueue l _) hs.records n (fun _ => rfl) fun _ => rfl)
    (fun k => ?_) (fun k slot' m => ?_) fun k slot' => ?_
  · rw [placeVisit_queueOf]
    split
    · rw [List.map_append]
      exact List.nodup_append.2 ⟨hslots l, List.nodup_singleton _, fun a ha b hb e => freeSlot_some hslot (by simp_all)⟩
    · exact hslots k
  · have hrecords : (∃ p ∈ (Machine.placeVisit l slot n pass s).visits.records, p.2.number = m ∧
        ∃ pl, p.2.place = some pl ∧ pl.lane = k ∧ pl.slot = slot') ↔
        (m ≠ n ∧ (slot', m) ∈ queueOf s k) ∨ (m = n ∧ l = k ∧ slot = slot') := by
      rw [hagree]
      constructor
      · rintro ⟨q, hq, hqm, hat⟩
        obtain ⟨p, hp, rfl⟩ := mem_modVisit.1 hq
        by_cases hpn : p.2.number = n
        · simp only [hpn, if_true, Option.some.injEq, exists_eq_left'] at hqm hat
          exact .inr ⟨hqm.symm, hat⟩
        · simp only [hpn, if_false] at hqm hat
          exact .inl ⟨fun e => hpn (hqm.trans e), p, hp, hqm, hat⟩
      · rintro (⟨hne, p, hp, hpm, hat⟩ | ⟨rfl, rfl, rfl⟩)
        · exact ⟨_, mem_modVisit.2 ⟨p, hp, rfl⟩, by simp [hpm, hne], by simpa [hpm, hne] using hat⟩
        · exact ⟨_, mem_modVisit.2 ⟨p₀, hp₀, rfl⟩, by simp [hn₀], by simp [hn₀]⟩
    rw [hrecords, placeVisit_queueOf]
    have hfree : (slot', m) ∈ queueOf s k → m ≠ n := fun hm e => hnot k slot' (e ▸ hm)
    split
    · rename_i hk
      subst hk
      simp only [List.mem_append, List.mem_singleton, Prod.mk.injEq, true_and]
      tauto
    · rename_i hk
      have hk' : ¬ l = k := fun e => hk e.symm
      tauto
  · rw [placeVisit_generations]
    exact hgen k slot'

/-- An open visit that is at no lane joins a queue, and the agreement stands. -/
theorem VisitsOk.joinQueue (hs : VisitsOk s) (l : Lane) (hopen : findVisit s n ≠ none) (haway : Away n s)
    (pass : PassKind) : VisitsOk (joinQueue l n pass s) := by
  cases hslot : freeSlot (queueOf s l) with
  | none =>
    have hsame : Machine.joinQueue l n pass s = s := by simp [Machine.joinQueue, hslot]
    rwa [hsame]
  | some slot => exact (hs.placeVisit hopen haway hslot pass).of_visits (joinQueue_visits hslot n pass)

end Agreement

/-! ### The number of a new visit (R44) -/

section Numbers

variable {s : State}

/-- Up to one turn, the numbers after a number run on, from 65 535 to 1. -/
theorem nextNumber_iterate (n k : Nat) (hk : k ≤ 65535) :
    nextNumber^[k] n = if n + k ≤ 65535 ∨ 65535 < n then n + k else n + k - 65535 := by
  induction k with
  | zero => simp
  | succ k ih =>
    rw [Function.iterate_succ_apply', ih (by omega), nextNumber]
    split <;> split <;> split <;> omega

/-- A number that is taken all the same has only taken ones before it. -/
theorem freeNumber_taken {fuel n : Nat} (h : findVisit s (freeNumber s fuel n) ≠ none) :
    ∀ k, k < fuel → findVisit s (nextNumber^[k] n) ≠ none := by
  induction fuel generalizing n with
  | zero => exact fun k hk => absurd hk (Nat.not_lt_zero k)
  | succ fuel ih =>
    intro k hk
    rw [freeNumber] at h
    split at h
    · rename_i hn
      cases k with
      | zero => exact Option.isSome_iff_ne_none.1 hn
      | succ k => exact ih h k (Nat.lt_of_succ_lt_succ hk)
    · rename_i hn
      exact absurd h (by simpa using hn)

/-- With an entry free a free number is found: 64 numbers in a row cannot all be those of fewer than 64 visits. -/
theorem VisitsOk.takenNumber_free (hs : VisitsOk s) {e : Nat} (he : Table.lowestFree s.visits.records 64 = some e) :
    findVisit s (takenNumber s) = none := by
  by_contra h
  have htaken := freeNumber_taken h
  obtain ⟨hrising, hbound, -⟩ := hs
  obtain ⟨hlt, hfree⟩ := Table.lowestFree_some he
  have hnodup : ((List.range 64).map fun k => nextNumber^[k] s.visits.next).Nodup := by
    refine List.Nodup.map_on (fun a ha b hb hab => ?_) List.nodup_range
    rw [List.mem_range] at ha hb
    rw [nextNumber_iterate _ a (by omega), nextNumber_iterate _ b (by omega)] at hab
    split at hab <;> split at hab <;> omega
  have hsub : ((List.range 64).map fun k => nextNumber^[k] s.visits.next) ⊆ s.visits.records.map fun p => p.2.number := by
    intro n hn
    obtain ⟨k, hk, rfl⟩ := List.mem_map.1 hn
    obtain ⟨v, hv⟩ := Option.ne_none_iff_exists'.1 (htaken k (List.mem_range.1 hk))
    obtain ⟨p, hp, rfl⟩ := mem_of_findVisit hv
    exact List.mem_map.2 ⟨p, hp, number_of_findVisit hv⟩
  have hle := (List.subperm_of_subset hnodup hsub).length_le
  have hcount := Table.length_lt_of_free hrising hbound hlt hfree
  simp at hle
  omega

end Numbers

end Sys2Proof.Machine

/-! PROOFS, 03_visits. What the operations of the other units leave of the visit table. -/

namespace Sys2Proof.Machine
open Sys2Proof

section OtherUnitsVisits

/-- Every part but the visit table. -/
def unvisitedParts : List Part :=
  [.power, .marker, .cal, .tares, .allow, .tickets, .journal, .templates, .clock, .nv, .freeIx, .pending] ++ yardParts

theorem unvisitedParts_yard : HidesYard unvisitedParts := by unfold HidesYard; decide

/-- What touches no more than the other parts leaves the visit table alone. -/
theorem visits_of_hide {s t : State} (h : t.hide unvisitedParts = s.hide unvisitedParts) : t.visits = s.visits :=
  KeepsAllBut.visits h (by decide)

variable (s : State)

/-! ### The yard, the writer, the ticket unit, the journal and the printers -/

theorem raiseEvent_visits (k : EventKind) (x : Option Nat) : (raiseEvent k x s).visits = s.visits :=
  visits_of_outsideYard (raiseEvent_outsideYard s k x)
theorem raiseAt_visits (k : EventKind) (l : Lane) : (raiseAt k l s).visits = s.visits := raiseEvent_visits s k _
theorem settle_visits (l : Lane) : (settle l s).visits = s.visits := visits_of_outsideYard (settle_outsideYard s l)
theorem enterClosing_visits (l : Lane) : (enterClosing l s).visits = s.visits :=
  visits_of_outsideYard (enterClosing_outsideYard s l)
theorem enterFault_visits (l : Lane) : (enterFault l s).visits = s.visits :=
  visits_of_outsideYard (enterFault_outsideYard s l)
theorem reportUp_visits (l : Lane) : (reportUp l s).visits = s.visits := visits_of_outsideYard (reportUp_outsideYard s l)
theorem reportDown_visits (l : Lane) : (reportDown l s).visits = s.visits :=
  visits_of_outsideYard (reportDown_outsideYard s l)
theorem acceptStart_visits (l : Lane) (n : Nat) : (acceptStart l n s).visits = s.visits :=
  visits_of_outsideYard (acceptStart_outsideYard s l n)
theorem endCapture_visits (l : Lane) (r : CaptureReason) : (endCapture l r s).visits = s.visits :=
  visits_of_outsideYard (endCapture_outsideYard s l r)
theorem endCaptureLeaving_visits (l : Lane) (r : CaptureReason) : (endCaptureLeaving l r s).visits = s.visits :=
  visits_of_outsideYard (endCaptureLeaving_outsideYard s l r)
theorem handOut_visits (l : Lane) (n : Nat) : (handOut l n s).visits = s.visits :=
  visits_of_hide (handOut_hide unvisitedParts_yard l n)

theorem nvRequest_visits (r : NvRequest) : (nvRequest r s).visits = s.visits :=
  visits_of_hide (nvRequest_hide (by decide) r)
theorem nvServe_visits : (nvServe s).visits = s.visits := visits_of_hide (nvServe_hide (by decide))
theorem nvEnd_visits (ok : Bool) : (nvEnd ok s).visits = s.visits := visits_of_hide (nvEnd_hide (by decide) ok)
theorem requestFloorWrite_visits (b : Bool) : (requestFloorWrite b s).visits = s.visits :=
  visits_of_hide (requestFloorWrite_hide (by decide) (by decide) b)
theorem tryHead_visits : (tryHead s).visits = s.visits := visits_of_hide (tryHead_hide (by decide) (by decide))
theorem requestTicket_visits (n : Nat) : (requestTicket n s).visits = s.visits :=
  visits_of_hide (requestTicket_hide (by decide) (by decide) n)

theorem appendEntry_visits (b : JournalBody) : (appendEntry b s).visits = s.visits :=
  visits_of_hide (appendEntry_hide unvisitedParts_yard (by decide) b)
theorem appendReserved_visits (b : JournalBody) : (appendReserved b s).visits = s.visits :=
  visits_of_hide (appendReserved_hide unvisitedParts_yard (by decide) b)
theorem rolloverEvent_visits : (rolloverEvent s).visits = s.visits :=
  visits_of_hide (rolloverEvent_hide unvisitedParts_yard (by decide) (by decide) (by decide))
theorem drain_visits : (drain s).visits = s.visits :=
  visits_of_hide (drain_hide unvisitedParts_yard (by decide) (by decide) (by decide) (by decide))

theorem pumpEngine_visits (l : Lane) : (pumpEngine l s).visits = s.visits :=
  visits_of_hide (pumpEngine_hide unvisitedParts_yard (by decide) l)
theorem queueJob_visits (l : Lane) (k : TicketRecord) (b : Bool) : (queueJob l k b s).2.visits = s.visits :=
  visits_of_hide (queueJob_hide unvisitedParts_yard (by decide) l k b)
theorem reprint_visits (l : Lane) (n : Nat) : (reprint l n s).2.visits = s.visits :=
  visits_of_hide (reprint_hide unvisitedParts_yard (by decide) l n)
theorem endJob_visits (l : Lane) (r : PrintResult) : (endJob l r s).visits = s.visits :=
  visits_of_hide (endJob_hide unvisitedParts_yard (by decide) l r)
theorem restartLanes_visits : (restartLanes s).visits = s.visits :=
  visits_of_hide ((modPort_hide (by decide) _ _).trans (restartLanes_hide unvisitedParts_yard (by decide) _ _))

theorem queueOriginal_visits (l : Lane) (k : TicketRecord) : (queueOriginal l k s).visits = s.visits := by
  have hqueue := queueJob_visits s l k false
  unfold queueOriginal
  split <;> rename_i h <;> rw [h] at hqueue
  · exact hqueue
  · exact (raiseAt_visits _ _ l).trans hqueue

theorem keepTare_visits (v : Visit) : (keepTare v s).visits = s.visits := by
  unfold keepTare
  split
  · rfl
  · unfold placeTare
    dsimp only
    split
    · split <;> rfl
    · split
      · rfl
      · split <;> rfl

theorem tareLookup_visits (v : Text) : (tareLookup v s).2.visits = s.visits :=
  visits_of_hide (tareLookup_hide (by decide) v)

/-! ### The tables and the lanes -/

theorem storeAccount_visits (i : Nat) (w : AccountWrite) : (storeAccount i w s).2.visits = s.visits := by
  unfold storeAccount
  split
  · rfl
  · split
    · rfl
    · split
      · rfl
      · split
        · rfl
        · dsimp only
          split
          · exact raiseEvent_visits _ _ _
          · rfl

theorem storeCap_visits (i cap : Nat) : (storeCap i cap s).2.visits = s.visits := by
  unfold storeCap
  dsimp only
  split
  · rfl
  · split
    · rfl
    · dsimp only
      split
      · exact raiseEvent_visits _ _ _
      · rfl

/-- No owner of a table is the visit table. -/
theorem ownerWrite_visits (i : Nat) (w : TableWrite) : (ownerWrite i w s).2.visits = s.visits := by
  cases w with
  | category name reserve => unfold ownerWrite storeCategory; dsimp only; split <;> rfl
  | categoryRemove =>
    unfold ownerWrite removeCategory
    dsimp only
    split
    · rfl
    · split
      · rfl
      · split <;> rfl
  | account w => exact storeAccount_visits s i w
  | accountDelete =>
    unfold ownerWrite deleteAccount
    dsimp only
    split
    · rfl
    · split <;> rfl
  | siteCap cap => exact storeCap_visits s i cap
  | siteCapEmpty => unfold ownerWrite emptyCap; dsimp only; split <;> rfl
  | tare v t d =>
    unfold ownerWrite storeTare
    dsimp only
    split
    · rfl
    · split
      · rfl
      · split
        · rfl
        · split <;> rfl
  | tareDelete => rfl
  | template name head =>
    unfold ownerWrite storeTemplate
    dsimp only
    split
    · rfl
    · split <;> rfl
  | templateEmpty => unfold ownerWrite emptyTemplate; dsimp only; split <;> rfl
  | line w =>
    unfold ownerWrite storeLine
    dsimp only
    split
    · rfl
    · split <;> rfl
  | route w =>
    unfold ownerWrite storeRoute
    dsimp only
    split
    · split
      · rfl
      · split <;> rfl
    · rfl

theorem restartInMode_visits (l : Lane) (m : LaneMode) : (restartInMode l m s).visits = s.visits := by
  cases m with
  | closed => rfl
  | manual => rfl
  | auto => exact settle_visits s l

theorem setLaneMode_visits (l : Lane) (m : LaneMode) : (setLaneMode l m s).visits = s.visits := by
  unfold setLaneMode
  split
  · rfl
  · exact (restartInMode_visits _ l m).trans (endCapture_visits s l _)

theorem captureVisit_visits (l : Lane) (n : Nat) : (captureVisit l n s).2.visits = s.visits := by
  unfold captureVisit
  split
  · rfl
  · split
    · rfl
    · split
      · rfl
      · split
        · rfl
        · exact acceptStart_visits s l n

theorem manualRaise_visits (l : Lane) : (manualRaise l s).2.visits = s.visits := by
  unfold manualRaise
  split
  · rfl
  · split <;> rfl

theorem manualLower_visits (l : Lane) : (manualLower l s).2.visits = s.visits := by
  unfold manualLower
  split
  · rfl
  · dsimp only
    split <;> rfl

theorem archiveUpTo_visits (n : Nat) : (archiveUpTo n s).2.visits = s.visits := by
  unfold archiveUpTo
  split
  · rfl
  · exact drain_visits _

theorem setOutput_visits (n k : Nat) : (setOutput n k s).2.visits = s.visits := by
  unfold setOutput
  split
  · rfl
  · split <;> rfl

theorem clearLaneFault_visits (l : Lane) : (clearLaneFault l s).2.visits = s.visits := by
  have report : ∀ (st : BarrierState) (x : State), (reportCleared l st x).visits = x.visits := fun st x => by
    unfold reportCleared
    split
    · exact settle_visits x l
    · rfl
    · split
      · exact reportUp_visits x l
      · rfl
  unfold clearLaneFault
  dsimp only
  split
  · rfl
  · split
    · rfl
    · exact report _ _

theorem limitActive_visits (l : Lane) (x : Limit) : (limitActive l x s).visits = s.visits := by
  have travel : ∀ (st : BarrierState) (k : EventKind), (endTravel l st k s).visits = s.visits := fun st k =>
    raiseAt_visits _ k l
  unfold limitActive
  dsimp only
  split
  · exact enterFault_visits s l
  · split
    · exact (reportUp_visits _ l).trans (travel _ _)
    · exact (reportDown_visits _ l).trans (travel _ _)
    · rfl

theorem stallLane_visits (l : Lane) : (stallLane l s).visits = s.visits :=
  (enterClosing_visits _ l).trans (raiseAt_visits _ _ l)

theorem laneLoopOccupied_visits (l : Lane) : (laneLoopOccupied l s).visits = s.visits := by
  unfold laneLoopOccupied
  dsimp only
  split
  · rfl
  · split <;> rfl
  · split <;> rfl
  · rfl

theorem laneOccupied_visits (l : Lane) : (laneOccupied l s).visits = s.visits :=
  visits_of_hide (laneOccupied_hide unvisitedParts_yard l)

theorem paperGone_visits (l : Lane) : (paperGone l s).visits = s.visits := by
  unfold paperGone
  dsimp only
  split <;> exact raiseAt_visits _ _ l

theorem paperBack_visits (l : Lane) : (paperBack l s).visits = s.visits := by
  unfold paperBack
  dsimp only
  split
  · exact pumpEngine_visits _ l
  · rfl

/-! ### The clock -/

theorem monoTick_visits : (monoTick s).visits = s.visits := (monoTick_keeps s).visits (by decide)
theorem absorbAdvance_visits : (absorbAdvance s).visits = s.visits := (absorbAdvance_keeps s).visits (by decide)

theorem countSecond_visits : (countSecond s).visits = s.visits := by
  have counted : (monoAtAdvance { s with clock := s.clock.advance }).visits = s.visits :=
    (monoAtAdvance_keeps { s with clock := s.clock.advance }).visits (by decide)
  have events : ∀ x : State, (clockEvents x).visits = x.visits := fun x => by
    have minute : (if x.clock.second % 60 = 0 then raiseEvent .minute none x else x).visits = x.visits := by
      split
      · exact raiseEvent_visits x _ _
      · rfl
    unfold clockEvents
    dsimp only
    generalize (if x.clock.second % 60 = 0 then raiseEvent .minute none x else x) = y at minute ⊢
    split
    · split
      · exact (rolloverEvent_visits y).trans minute
      · exact minute
    · rfl
  unfold countSecond
  dsimp only
  split
  · exact (events _).trans counted
  · exact counted

/-! ### The decks and the calibration unit -/

theorem trackStep_visits (d : Deck) : (trackStep d s).visits = s.visits := by
  unfold trackStep
  split <;> rfl

theorem zeroDeck_visits (d : Deck) : (zeroDeck d s).2.visits = s.visits := by
  unfold zeroDeck
  dsimp only
  split <;> exact trackStep_visits s d

theorem linkFault_visits (d : Deck) : (linkFault d s).visits = s.visits := (linkFault_keeps d s).visits (by decide)

theorem abandonIdles_visits (ds : List Deck) : (ds.foldl abandonIdle s).visits = s.visits := by
  induction ds generalizing s with
  | nil => rfl
  | cons d ds ih =>
    refine (ih _).trans ?_
    unfold abandonIdle
    split <;> rfl

theorem calBegin_visits (d : Deck) : (calBegin d s).2.visits = s.visits := by
  have tracked := trackStep_visits s d
  unfold calBegin
  dsimp only
  split
  · exact tracked
  · split
    · exact tracked
    · split
      · exact tracked
      · split <;> exact tracked

theorem inSession_visits {body : CalRecord → Deck → State → Result × State}
    (hb : ∀ r d x, (body r d x).2.visits = x.visits) (d : Deck) : (inSession body d s).2.visits = s.visits := by
  unfold inSession
  split
  · exact hb _ _ _
  all_goals rfl

theorem calSet_visits (f : CalFields) (r : CalRecord) (d : Deck) : (calSet f r d s).2.visits = s.visits := by
  unfold calSet
  split
  · rfl
  · split <;> rfl

theorem calZero_visits (r : CalRecord) (d : Deck) : (calZero r d s).2.visits = s.visits := by
  unfold calZero
  dsimp only
  split <;> rfl

theorem calSpan_visits (n : Nat) (r : CalRecord) (d : Deck) : (calSpan n r d s).2.visits = s.visits := by
  unfold calSpan
  dsimp only
  split
  · rfl
  · split
    · rfl
    · split
      · rfl
      · split <;> rfl

theorem calEnd_visits (p : PortId) (r : CalRecord) (d : Deck) : (calEnd p r d s).2.visits = s.visits := by
  unfold calEnd
  split
  · rfl
  · split
    · rfl
    · split
      · rfl
      · exact nvRequest_visits _ _

theorem writeSiteNumber_visits (p : PortId) (v : Nat) : (writeSiteNumber p v s).2.visits = s.visits := by
  unfold writeSiteNumber
  split
  · rfl
  · split
    · rfl
    · exact nvRequest_visits s _

theorem retryStore_visits (p : PortId) : (retryStore p s).2.visits = s.visits := by
  unfold retryStore
  split
  · rfl
  · split
    · rfl
    · exact requestFloorWrite_visits s _

theorem calWriteEnd_visits (ok : Bool) : (calWriteEnd ok s).visits = s.visits := by
  have after : ∀ (b : Bool) (x : State), (afterCalWrite b x).visits = x.visits := fun b x => by
    unfold afterCalWrite
    dsimp only
    split
    · exact (tryHead_visits _).trans (drain_visits x)
    · exact drain_visits x
  have failed : ∀ (d : Deck) (x : State), (calNotStored d x).visits = x.visits := fun d x => by
    unfold calNotStored
    dsimp only
    split <;> rfl
  unfold calWriteEnd
  split
  · refine (nvServe_visits _).trans ((after _ _).trans (Eq.trans ?_ (nvEnd_visits s ok)))
    split
    · exact appendReserved_visits _ _
    · exact failed _ _
  · rfl

theorem floorWriteEnd_visits (ok : Bool) : (floorWriteEnd ok s).visits = s.visits := by
  have outcome : ∀ (f : FloorWrite) (x : State), (floorOutcome f ok x).visits = x.visits := fun f x => by
    have retry : ∀ y : State, (retryEnd f ok y).visits = y.visits := fun y => by unfold retryEnd; split <;> rfl
    unfold floorOutcome
    dsimp only
    split
    · exact (tryHead_visits _).trans (retry _)
    · split
      · exact retry _
      · rfl
  unfold floorWriteEnd
  split
  · exact (nvServe_visits _).trans ((outcome _ _).trans (nvEnd_visits s ok))
  · rfl

theorem siteWriteEnd_visits (ok : Bool) : (siteWriteEnd ok s).visits = s.visits := by
  have outcome : ∀ (v : Nat) (x : State), (siteOutcome v ok x).visits = x.visits := fun v x => by
    unfold siteOutcome
    split
    · exact tryHead_visits _
    · rfl
  unfold siteWriteEnd
  split
  · exact (nvServe_visits _).trans ((outcome _ _).trans (nvEnd_visits s ok))
  · rfl

/-! ### Starts -/

theorem startLane_visits (l : Lane) : (startLane s l).visits = s.visits := by
  have barrier : (if (s.lane l).barrier.limitUp && (s.lane l).barrier.limitDown then enterFault l s
      else lowerUnlessDown l s).visits = s.visits := by
    split
    · exact enterFault_visits s l
    · exact visits_of_outsideYard (lowerUnlessDown_outsideYard s l)
  exact (restartInMode_visits _ l _).trans barrier

theorem startLanes_visits (ls : List Lane) : (ls.foldl startLane s).visits = s.visits := by
  induction ls generalizing s with
  | nil => rfl
  | cons l ls ih => exact (ih _).trans (startLane_visits s l)

theorem startNotices_visits (x : CellsReadable) : (startNotices x s).visits = s.visits := by
  have raised : ∀ (ps : List PortId) (y : State),
      (ps.foldl (fun s p => raiseNotice .restart p s) y).visits = y.visits := by
    intro ps
    induction ps with
    | nil => exact fun _ => rfl
    | cons p ps ih => exact fun y => (ih _).trans (raiseNotice_visits y _ _)
  unfold startNotices
  dsimp only
  split
  · exact raised _ s
  · exact (raiseNotice_visits _ _ _).trans (raised _ s)

theorem warmRestartRecord_visits : (warmRestartRecord s).visits = s.visits := by
  unfold warmRestartRecord
  split
  · rfl
  · dsimp only
    split
    · exact appendEntry_visits s _
    · rfl

theorem resolveStaged_visits : (resolveStaged s).visits = s.visits := by
  unfold resolveStaged
  split
  · rfl
  · dsimp only
    split
    · exact appendReserved_visits s _
    · rfl

/-- A warm start keeps the visit table (R66, R187). -/
theorem warmStart_visits (x : CellsReadable) : (warmStart x s).visits = s.visits :=
  (startNotices_visits _ x).trans ((drain_visits _).trans ((warmRestartRecord_visits _).trans ((resolveStaged_visits _).trans
    (startLanes_visits (takeLaneOrder (warmValues x s)).2 _))))

/-- A cold start empties the visit table (R188). -/
theorem coldStart_visits (x : CellsReadable) : (coldStart x s).visits = State.reset.visits :=
  (startNotices_visits _ x).trans ((appendEntry_visits _ _).trans (startLanes_visits (coldValues x s) Idx.all))

end OtherUnitsVisits

end Sys2Proof.Machine

/-! PROOFS, 03_visits. Every step keeps the open visits unique and the queues in agreement with them (R43, R46). -/

namespace Sys2Proof.Machine
open Sys2Proof

section VisitsKept

variable {s t : State}

/-! ### A new visit (R43, R44, R49) -/

/-- A visit that is at no lane, with a number and a vehicle of its own, takes a free entry. -/
theorem VisitsOk.insertVisit (hs : VisitsOk s) {e : Nat} {v : Visit} (he : e < 64)
    (hentry : Table.find s.visits.records e = none) (hnumber : findVisit s v.number = none)
    (hvehicle : findVehicle s v.vehicle = none) (hplace : v.place = none) (k : Nat) :
    VisitsOk { s with visits := { s.visits with records := Table.insert s.visits.records e v, next := k } } := by
  have hperm := Table.insert_perm hentry v
  have hmem : ∀ p, p ∈ Table.insert s.visits.records e v ↔ p = (e, v) ∨ p ∈ s.visits.records := fun p => by
    rw [hperm.mem_iff, List.mem_cons]
  obtain ⟨hrising, hbound, hnumbers, hvehicles, hslots, hagree, hgen⟩ := hs
  refine ⟨Table.rising_insert hrising e v, fun p hp => ?_, ?_, ?_, hslots, fun l slot n => ?_, hgen⟩
  · rcases (hmem p).1 hp with rfl | hp
    · exact he
    · exact hbound p hp
  · refine (hperm.map fun p => p.2.number).nodup_iff.2 (List.nodup_cons.2 ⟨fun hm => ?_, hnumbers⟩)
    obtain ⟨p, hp, hpn⟩ := List.mem_map.1 hm
    exact findVisit_eq_none_iff.1 hnumber p hp hpn
  · refine (hperm.map fun p => p.2.vehicle).nodup_iff.2 (List.nodup_cons.2 ⟨fun hm => ?_, hvehicles⟩)
    obtain ⟨p, hp, hpv⟩ := List.mem_map.1 hm
    exact findVehicle_eq_none_iff.1 hvehicle p hp hpv
  · refine (hagree l slot n).trans ⟨fun ⟨p, hp, h⟩ => ⟨p, (hmem p).2 (.inr hp), h⟩, ?_⟩
    rintro ⟨p, hp, hpn, pl, hpl, hat⟩
    rcases (hmem p).1 hp with rfl | hp
    · rw [hplace] at hpl
      cases hpl
    · exact ⟨p, hp, hpn, pl, hpl, hat⟩

/-- The table with a visit listed at an entry. -/
def listVisit (e : Nat) (v : Visit) (k : Nat) (s : State) : State :=
  { s with visits := { s.visits with records := Table.insert s.visits.records e v, next := k } }

theorem mem_listVisit {e : Nat} {v : Visit} {k : Nat} (h : Table.find s.visits.records e = none) {p : Nat × Visit} :
    p ∈ (listVisit e v k s).visits.records ↔ p = (e, v) ∨ p ∈ s.visits.records := by
  show p ∈ Table.insert s.visits.records e v ↔ _
  rw [(Table.insert_perm h v).mem_iff, List.mem_cons]

/-- An accepted ANNOUNCE has a free entry, room in the queue, and a vehicle that no open visit has (R49). -/
theorem announceRefusal_none {l : Lane} {a : Announcement} (h : announceRefusal s l a = none) :
    (∃ e, Table.lowestFree s.visits.records 64 = some e) ∧ findVehicle s a.vehicle = none ∧ (queueOf s l).length < 4 := by
  unfold announceRefusal at h
  dsimp only at h
  split at h
  · cases h
  · rename_i hstate
    split at h
    · cases h
    · split at h
      · cases h
      · rename_i hfull
        push Not at hstate hfull
        refine ⟨Option.ne_none_iff_exists'.1 fun he => hfull.1 (by rw [he]; rfl), ?_, hfull.2⟩
        simpa using hstate.2.2.2

theorem VisitsOk.announceBody (hs : VisitsOk s) (l : Lane) (a : Option Announcement) :
    VisitsOk (announceBody l a s).2 := by
  unfold Machine.announceBody
  split
  · exact hs
  · rename_i a
    split
    · exact hs
    · rename_i hnone
      obtain ⟨⟨e, he⟩, hvehicle, -⟩ := announceRefusal_none hnone
      obtain ⟨hlt, hfree⟩ := Table.lowestFree_some he
      have hnumber : findVisit s (newVisit s l a).number = none := hs.takenNumber_free he
      have listed : VisitsOk (listVisit e (newVisit s l a) (nextNumber (newVisit s l a).number) s) :=
        hs.insertVisit hlt hfree hnumber hvehicle rfl _
      have hin := (mem_listVisit (v := newVisit s l a) (k := nextNumber (newVisit s l a).number) hfree).2 (.inl rfl)
      have hfound := listed.findVisit_of_mem hin
      show VisitsOk (Machine.joinQueue l (newVisit s l a).number .entry
        (listVisit ((Table.lowestFree s.visits.records 64).getD 0) (newVisit s l a) (nextNumber (newVisit s l a).number) s))
      rw [he]
      exact listed.joinQueue l (by rw [hfound]; nofun) (listed.away hfound rfl) _

/-! ### The commands on a visit (R50, R51, R61, R62) -/

/-- What ATTACH accepts is an open visit that is at no lane, FIRST_WEIGHED or TICKETED_ON_SITE (R50). -/
theorem attachable_ok {l : Lane} {x : Text} {v : Visit} (h : attachable s l x = .ok v) : findVehicle s x = some v ∧
    v.place = none ∧ (v.state = .firstWeighed ∨ v.state = .ticketedOnSite) ∧ (queueOf s l).length < 4 := by
  unfold attachable at h
  dsimp only at h
  split at h
  · cases h
  · split at h
    · cases h
    · rename_i w hw
      split at h
      · cases h
      · rename_i hstate
        split at h
        · cases h
        · rename_i hfull
          cases h
          push Not at hstate hfull
          refine ⟨hw, by simpa using hstate.2, ?_, hfull⟩
          by_cases hfirst : v.state = .firstWeighed
          · exact .inl hfirst
          · exact .inr (hstate.1 hfirst)

/-- The open visit of a vehicle is found by its number too. -/
theorem VisitsOk.findVisit_of_findVehicle (hs : VisitsOk s) {x : Text} {v : Visit} (h : findVehicle s x = some v) :
    findVisit s v.number = some v := by
  obtain ⟨p, hp, rfl⟩ : ∃ p ∈ s.visits.records, p.2 = v := by simpa using List.mem_of_find?_eq_some h
  exact hs.findVisit_of_mem hp

/-- The state of a visit that has joined its exit lane (R50). -/
def attachState (v : Visit) (s : State) : State :=
  if v.state = .firstWeighed then modVisit v.number (fun v => { v with state := .attached }) s else s

theorem attachState_findVisit (v : Visit) (s : State) (m : Nat) : findVisit (attachState v s) m =
    if v.state = .firstWeighed ∧ m = v.number then (findVisit s m).map fun v => { v with state := .attached }
    else findVisit s m := by
  unfold attachState
  split
  · rename_i h
    rw [findVisit_modVisit (f := fun v => { v with state := .attached }) fun _ => rfl]
    by_cases hm : m = v.number
    · simp [h, hm]
    · simp [hm]
  · rename_i h
    simp [h]

theorem VisitsOk.attachState (hs : VisitsOk s) (v : Visit) : VisitsOk (attachState v s) := by
  unfold Machine.attachState
  split
  · exact hs.modVisit v.number (fun _ => rfl) (fun _ => rfl) fun _ => rfl
  · exact hs

theorem VisitsOk.attachBody (hs : VisitsOk s) (l : Lane) (x : Option Text) : VisitsOk (attachBody l x s).2 := by
  unfold Machine.attachBody
  split
  · exact hs
  · split
    · exact hs
    · rename_i v hok
      obtain ⟨hvehicle, hplace, -, -⟩ := attachable_ok hok
      have hv := hs.findVisit_of_findVehicle hvehicle
      have hfound := attachState_findVisit v s v.number
      rw [hv] at hfound
      show VisitsOk (Machine.joinQueue l v.number .exit (Machine.attachState v s))
      split at hfound
      · exact (hs.attachState v).joinQueue l (by rw [hfound]; nofun) ((hs.attachState v).away hfound hplace) _
      · exact (hs.attachState v).joinQueue l (by rw [hfound]; nofun) ((hs.attachState v).away hfound hplace) _

/-- A departing visit that is given another state. -/
theorem VisitsOk.depart_state (hs : VisitsOk s) (n : Nat) (st : VisitState) :
    VisitsOk (Machine.depart n (Machine.modVisit n fun v => { v with state := st }) s) :=
  hs.depart n fun _ hx _ => hx.modVisit n (fun _ => rfl) (fun _ => rfl) fun _ => rfl

/-- A departing visit that is removed. -/
theorem VisitsOk.depart_removed (hs : VisitsOk s) (n : Nat) : VisitsOk (Machine.depart n (Machine.removeVisit n) s) :=
  hs.depart n fun _ hx haway => hx.removeVisit haway

/-- A departing visit that stays on site. -/
theorem VisitsOk.depart_onSite (hs : VisitsOk s) (n : Nat) : VisitsOk (Machine.depart n id s) :=
  hs.depart n fun _ hx _ => hx

theorem VisitsOk.endCaptureLeaving (hs : VisitsOk s) (l : Lane) (r : CaptureReason) :
    VisitsOk (endCaptureLeaving l r s) := hs.of_visits (endCaptureLeaving_visits s l r)

theorem VisitsOk.releaseVisit (hs : VisitsOk s) (l : Lane) (n : Nat) : VisitsOk (releaseVisit l n s).2 := by
  have ended : VisitsOk (if isHead s l n = true then Machine.endCaptureLeaving l .abandoned s else s) := by
    split
    · exact hs.endCaptureLeaving l _
    · exact hs
  unfold Machine.releaseVisit
  dsimp only
  split
  · exact ended
  · split
    · exact ended.depart_removed n
    · exact ended.depart_state n _
    · exact ended.depart_onSite n
    · exact ended

theorem voidCapture_visits (v : Visit) (s : State) : (voidCapture v s).visits = s.visits := by
  unfold voidCapture
  split
  · rfl
  · split
    · exact endCaptureLeaving_visits s _ _
    · rfl

theorem VisitsOk.voidHold (hs : VisitsOk s) (v : Visit) : VisitsOk (voidHold v s) := by
  unfold Machine.voidHold
  split
  · exact VisitsOk.modVisit (s := modBothRows v.account v.category (Amounts.release v.reserve) s) (hs.of_visits rfl)
      v.number (fun _ => rfl) (fun _ => rfl) fun _ => rfl
  · exact hs

theorem voidRecord_visits (v : Visit) (s : State) : (voidRecord v s).visits = (removeVisit v.number s).visits := by
  have appended : (removeVisit v.number (appendEntry (.void v.number (nowStamp s) (v.place.map (·.lane))) s)).visits
      = (removeVisit v.number s).visits := by
    unfold removeVisit
    rw [appendEntry_visits]
  unfold voidRecord
  dsimp only
  split <;> exact appended

/-- What VOID VISIT accepts is an open visit (R62). -/
theorem findVisit_of_voidable {n : Nat} {v : Visit} (h : voidable s n = .ok v) : findVisit s n = some v := by
  unfold voidable at h
  split at h
  · cases h
  · rename_i w hw
    split at h
    · cases h
    · split at h
      · cases h
      · cases h
        exact hw

theorem VisitsOk.voidVisit (hs : VisitsOk s) (n : Nat) : VisitsOk (voidVisit n s).2 := by
  unfold Machine.voidVisit
  split
  · exact hs
  · rename_i v hok
    obtain rfl := number_of_findVisit (findVisit_of_voidable hok)
    exact ((hs.of_visits (voidCapture_visits v s)).voidHold v).depart v.number fun x hx haway =>
      (hx.removeVisit haway).of_visits (voidRecord_visits v x)

/-! ### Decisions and tickets (R53 to R59) -/

theorem VisitsOk.awaitTicket (hs : VisitsOk s) (n : Nat) : VisitsOk (awaitTicket n s) :=
  (hs.modVisit n (f := fun v => { v with state := .awaitingTicket }) (fun _ => rfl) (fun _ => rfl) fun _ => rfl).of_visits
    (requestTicket_visits _ n)

theorem VisitsOk.dispute (hs : VisitsOk s) (n : Nat) : VisitsOk (dispute n s) :=
  hs.modVisit n (fun _ => rfl) (fun _ => rfl) fun _ => rfl

theorem VisitsOk.refuse (hs : VisitsOk s) (n : Nat) (r : Reason) : VisitsOk (refuse n r s) :=
  hs.modVisit n (fun _ => rfl) (fun _ => rfl) fun _ => rfl

theorem VisitsOk.acceptZero (hs : VisitsOk s) (v : Visit) : VisitsOk (acceptZero v s) := by
  have zeroed : VisitsOk (Machine.modVisit v.number (fun v => { v with net := some 0, negativeNet := true }) s) :=
    hs.modVisit v.number (fun _ => rfl) (fun _ => rfl) fun _ => rfl
  unfold Machine.acceptZero
  dsimp only
  split
  · exact zeroed.awaitTicket _
  · exact (zeroed.awaitTicket _).of_visits (handOut_visits _ _ _)

theorem VisitsOk.resolveVisit (hs : VisitsOk s) (n : Nat) (c : Option Choice) : VisitsOk (resolveVisit n c s).2 := by
  unfold Machine.resolveVisit
  split
  · exact hs
  · split
    · exact hs
    · split
      · exact hs
      · split
        · exact hs.voidVisit n
        · exact hs.acceptZero _

theorem VisitsOk.checkAndHold (hs : VisitsOk s) (v : Visit) (k : Nat) {f : State → State}
    (hf : ∀ x, VisitsOk x → VisitsOk (f x)) : VisitsOk (checkAndHold v k f s) := by
  unfold Machine.checkAndHold
  split
  · exact hs.refuse _ _
  · exact hf _ (VisitsOk.modVisit (s := modBothRows v.account v.category (Amounts.hold k) s) (hs.of_visits rfl) _
      (fun _ => rfl) (fun _ => rfl) fun _ => rfl)

theorem VisitsOk.twoPass (hs : VisitsOk s) (v : Visit) (d : Deck) : VisitsOk (twoPass v d s) :=
  hs.checkAndHold v _ fun _ hx => hx.modVisit _ (fun _ => rfl) (fun _ => rfl) fun _ => rfl

theorem VisitsOk.useStoredTare (hs : VisitsOk s) (v : Visit) (w : CapturedWeight) (x : Nat) (m : Bool) :
    VisitsOk (useStoredTare v w x m s) := by
  have used : VisitsOk (Machine.modVisit v.number (fun v =>
      { v with tareSource := .stored, storedTare := some x, manualTare := m, net := some (w.weight - x) }) s) :=
    hs.modVisit v.number (fun _ => rfl) (fun _ => rfl) fun _ => rfl
  unfold Machine.useStoredTare
  dsimp only
  split
  · exact used.dispute _
  · exact used.checkAndHold v _ fun _ hy => hy.awaitTicket _

theorem VisitsOk.firstDelivery (hs : VisitsOk s) (v : Visit) (w : CapturedWeight) : VisitsOk (firstDelivery v w s) := by
  have looked := hs.of_visits (tareLookup_visits s v.vehicle)
  unfold Machine.firstDelivery
  split
  · split <;> rename_i h <;> rw [h] at looked
    · exact looked.useStoredTare _ _ _ _
    · exact looked.twoPass _ _
  · exact hs.twoPass _ _

theorem VisitsOk.firstCapture (hs : VisitsOk s) (v : Visit) (w : CapturedWeight) : VisitsOk (firstCapture v w s) := by
  have weighed : VisitsOk (Machine.modVisit v.number (fun v => { v with first := some w }) s) :=
    hs.modVisit v.number (fun _ => rfl) (fun _ => rfl) fun _ => rfl
  unfold Machine.firstCapture
  dsimp only
  split
  · exact weighed.firstDelivery _ _
  · unfold firstCollection
    split
    · exact weighed.modVisit _ (fun _ => rfl) (fun _ => rfl) fun _ => rfl
    · exact weighed.refuse _ _

theorem VisitsOk.secondCapture (hs : VisitsOk s) (v : Visit) (w : CapturedWeight) : VisitsOk (secondCapture v w s) := by
  unfold Machine.secondCapture
  split
  · exact hs
  · rename_i f _
    have weighed : VisitsOk (Machine.modVisit v.number (fun u =>
        { u with
          second := some w
          tareSource := .weighed
          net := some (netOf v.kind f.weight w.weight)
          calChanged := v.calChanged || decide (s.cal.audit ≠ f.audit) }) s) :=
      hs.modVisit v.number (fun _ => rfl) (fun _ => rfl) fun _ => rfl
    dsimp only
    split
    · exact weighed.dispute _
    · exact weighed.awaitTicket _

theorem VisitsOk.decideVisit (hs : VisitsOk s) (l : Lane) (n : Nat) (w : CapturedWeight) :
    VisitsOk (decideVisit l n w s) := by
  unfold Machine.decideVisit
  split
  · exact hs
  · split
    · exact (hs.firstCapture _ w).of_visits (handOut_visits _ l n)
    · exact (hs.secondCapture _ w).of_visits (handOut_visits _ l n)
    · exact hs

theorem VisitsOk.completeCapture (hs : VisitsOk s) (d : Deck) : VisitsOk (completeCapture d s) := by
  unfold Machine.completeCapture
  split
  · exact hs
  · rename_i c _
    have decided : VisitsOk (Machine.decideVisit d c.visit (capturedWeight s d) (dropCapture d s)) :=
      VisitsOk.decideVisit (s := dropCapture d s) (hs.of_visits rfl) _ _ _
    exact decided.of_visits (raiseAt_visits _ _ d)

theorem VisitsOk.issueStep (hs : VisitsOk s) : VisitsOk (issueStep s) := by
  have settled : ∀ (v : Visit) (k : Nat) (x : State), VisitsOk x → VisitsOk (settleTicket v k x) := fun v k x hx => by
    unfold settleTicket overrunOutcome
    split
    · exact hx
    · have returned : VisitsOk (Machine.modVisit v.number (fun v => { v with reserve := 0 })
          (modBothRows v.account v.category (Amounts.settle v.reserve k) x)) :=
        VisitsOk.modVisit (s := modBothRows v.account v.category _ x) (hx.of_visits rfl) _ (fun _ => rfl) (fun _ => rfl)
          fun _ => rfl
      dsimp only
      split
      · exact returned.of_visits (raiseEvent_visits _ _ _)
      · exact returned
  have record : ∀ (v : Visit) (k : TicketRecord), VisitsOk (issueRecord v k s) := fun v k => by
    have appended : VisitsOk (appendEntry (.ticket k) s) := hs.of_visits (appendEntry_visits s _)
    have kept := (settled v k.net.toNat _ appended).of_visits (keepTare_visits _ v)
    have counted : VisitsOk (countTicket k.kind k.category k.net.toNat
        (keepTare v (settleTicket v k.net.toNat (appendEntry (.ticket k) s)))) := kept.of_visits rfl
    have ticketed := (counted.modVisit v.number (f := fun v => { v with ticket := some k.number, state := ticketedState k })
      (fun _ => rfl) (fun _ => rfl) fun _ => rfl).of_visits rfl
    exact (ticketed.of_visits (handHead_visits k.lane false (State.modReport _ k.lane
      fun r => { r with lastDecision := .pass }))).of_visits
        ((raiseAt_visits _ _ k.lane).trans (queueOriginal_visits _ k.lane k))
  unfold Machine.issueStep
  split
  · exact hs
  · split
    · unfold issueHead
      split
      · split
        · exact (record _ _).of_visits (tryHead_visits _)
        · exact hs
      · exact hs
    · exact hs.of_visits (tryHead_visits s)

/-! ### Passages (R60, R98, R106) -/

theorem VisitsOk.vehiclePassed (hs : VisitsOk s) (l : Lane) : VisitsOk (vehiclePassed l s) := by
  unfold Machine.vehiclePassed
  split
  · exact hs
  · split
    · exact hs
    · split
      · exact hs
      · exact (hs.endCaptureLeaving l _).depart_onSite _
      · exact (hs.endCaptureLeaving l _).depart_removed _
      · exact (hs.endCaptureLeaving l _).depart_state _ _

theorem VisitsOk.handReleased (hs : VisitsOk s) (l : Lane) : VisitsOk (handReleased l s) := by
  unfold Machine.handReleased
  dsimp only
  split
  · exact (hs.vehiclePassed l).of_visits rfl
  · exact hs.of_visits rfl

theorem VisitsOk.checkPassage (hs : VisitsOk s) (l : Lane) : VisitsOk (checkPassage l s) := by
  unfold Machine.checkPassage
  dsimp only
  split
  · split
    · have reddened : VisitsOk (s.modSeq l fun q => { q with light := .red }) := hs.of_visits rfl
      exact (reddened.handReleased l).of_visits (enterClosing_visits _ l)
    · exact hs.handReleased l
    · exact (hs.vehiclePassed l).of_visits rfl
    · exact hs
  · exact hs

theorem VisitsOk.laneClear (hs : VisitsOk s) (l : Lane) : VisitsOk (laneClear l s) := by
  have cleared : VisitsOk (s.modSeq l fun q => { q with occupied := false }) := hs.of_visits rfl
  unfold Machine.laneClear
  dsimp only
  split
  · exact cleared.of_visits rfl
  · exact (cleared.checkPassage l).of_visits rfl

theorem VisitsOk.loopChange (hs : VisitsOk s) (l : Lane) (b : Bool) : VisitsOk (loopChange l b s) := by
  have sensed : VisitsOk (barrierLoop l b (s.modSensors l fun x => { x with loopOccupied := b })) := hs.of_visits rfl
  unfold Machine.loopChange
  dsimp only
  split
  · exact sensed.of_visits ((laneLoopOccupied_visits _ l).trans (raiseAt_visits _ _ l))
  · exact (sensed.of_visits (raiseAt_visits _ _ l)).checkPassage l

theorem VisitsOk.sampleStep (hs : VisitsOk s) (d : Deck) (c : BitVec 24) : VisitsOk (sampleStep d c s) := by
  have events : ∀ (u : DeckUnit) (x : State), VisitsOk x → VisitsOk (stageEvents d u x) := fun u x hx => by
    have overload : VisitsOk (if (x.deck d).overload && !u.overload then raiseAt .deckOverload d x else x) := by
      split
      · exact hx.of_visits (raiseAt_visits x _ d)
      · exact hx
    unfold stageEvents
    dsimp only
    generalize (if (x.deck d).overload && !u.overload then raiseAt .deckOverload d x else x) = y at overload ⊢
    have occupancy : VisitsOk (if (x.deck d).occupied && !u.occupied then laneOccupied d (raiseAt .deckOccupied d y)
        else if u.occupied && !(x.deck d).occupied then Machine.laneClear d (raiseAt .deckClear d y) else y) := by
      split
      · exact overload.of_visits ((laneOccupied_visits _ d).trans (raiseAt_visits y _ d))
      · split
        · exact (overload.of_visits (raiseAt_visits y _ d)).laneClear d
        · exact overload
    split
    · exact occupancy.of_visits (raiseAt_visits _ _ d)
    · exact occupancy
  have tests : ∀ (b a : DeckUnit) (x : State), VisitsOk x → VisitsOk (captureTests d b a x) := fun b a x hx => by
    unfold captureTests
    split
    · split
      · exact hx.of_visits (endCapture_visits x d _)
      · split
        · exact hx.completeCapture d
        · exact hx
    · exact hx
  have recovered : VisitsOk (linkRecover d (trackStep d s)) := hs.of_visits (trackStep_visits s d)
  unfold Machine.sampleStep
  dsimp only
  exact (tests _ _ _ (events _ ((linkRecover d (trackStep d s)).modDeck d _) (recovered.of_visits rfl))).of_visits rfl

/-! ### The parameters and the overstays (R64) -/

theorem VisitsOk.overstayVisit (hs : VisitsOk s) (n : Nat) : VisitsOk (overstayVisit n s) :=
  (hs.modVisit n (f := fun v => { v with overstayNoticed := true }) (fun _ => rfl) (fun _ => rfl) fun _ => rfl).of_visits
    (raiseEvent_visits _ .overstay none)

theorem VisitsOk.setOverstayLimit (hs : VisitsOk s) (n : Nat) : VisitsOk (setOverstayLimit n s) := by
  have noticed : ∀ (ns : List Nat) (x : State), VisitsOk x →
      VisitsOk (ns.foldl (fun s v => Machine.overstayVisit v s) x) := by
    intro ns
    induction ns with
    | nil => exact fun _ hx => hx
    | cons n ns ih => exact fun x hx => ih _ (hx.overstayVisit n)
  exact noticed _ _ hs

theorem VisitsOk.writeParam (hs : VisitsOk s) (c i : Byte) (v : Nat) : VisitsOk (writeParam c i v s).2 := by
  have written : ∀ q : Param, VisitsOk (q.write v s) := fun q => by
    cases q with
    | overstayLimit => exact hs.setOverstayLimit v
    | laneMode l => exact hs.of_visits (setLaneMode_visits s l _)
    | _ => exact hs
  unfold Machine.writeParam
  split
  · exact hs
  · split
    · exact hs
    · exact written _

/-! ### Starts (R66, R187, R188) -/

theorem VisitsOk.startPart (hs : VisitsOk s) (x : StartInputs) : VisitsOk (startPart x s) := by
  have stopped : VisitsOk (if s.power then losePower x.writeLanded s else s) := by
    split
    · exact hs.of_visits rfl
    · exact hs
  have cold : ∀ y : State, VisitsOk (coldStart x.cells y) := fun y => reset_visitsOk.of_visits (coldStart_visits y _)
  unfold Machine.startPart
  dsimp only
  generalize (if s.power then losePower x.writeLanded s else s) = y at stopped ⊢
  split
  · unfold startCutShort
    split
    · exact stopped
    · exact (cold y).of_visits rfl
  · split
    · exact stopped.of_visits (warmStart_visits y _)
    · exact cold y

/-! ### The commands -/

/-- A command whose body leaves the visit table alone keeps the agreement. -/
theorem command_visitsOk {p : PortId} {k : Byte} {b : Bool} {body : State → Result × State}
    (hb : ∀ x, (body x).2.visits = x.visits) (hs : VisitsOk s) : ∀ t, command p k b body s = .next t → VisitsOk t :=
  command_keeps portBlind_visitsOk (fun x hx => hx.of_visits (hb x)) hs

theorem laneCommand_visitsOk {p : PortId} {k b : Byte} {body : Lane → State → Result × State}
    (hb : ∀ l x, (body l x).2.visits = x.visits) (hs : VisitsOk s) :
    ∀ t, laneCommand p k b body s = .next t → VisitsOk t :=
  laneCommand_keeps portBlind_visitsOk (fun l x hx => hx.of_visits (hb l x)) hs

theorem calCommand_visitsOk {p : PortId} {k b : Byte} {body : Deck → State → Result × State}
    (hb : ∀ d x, (body d x).2.visits = x.visits) (hs : VisitsOk s) :
    ∀ t, calCommand p k b body s = .next t → VisitsOk t :=
  calCommand_keeps portBlind_visitsOk (fun d x hx => hx.of_visits (hb d x)) hs

theorem writeRecordExchange_visitsOk (p : PortId) (framed : Port → Bool) (w : TableId → Option TableWrite)
    (hs : VisitsOk s) : ∀ t, writeRecordExchange p framed w s = .next t → VisitsOk t :=
  writeRecordExchange_keeps portBlind_visitsOk (fun i w x hx => hx.of_visits (ownerWrite_visits x i w)) hs

theorem writeTable_visitsOk (p : PortId) (k : TableId) (w : TableWrite) (hs : VisitsOk s) :
    ∀ t, writeTable p k w s = .next t → VisitsOk t := writeRecordExchange_visitsOk _ _ _ hs

/-- An event of a running part that leaves the visit table alone keeps the agreement. -/
theorem whenRunning_visitsOk {f : State → State} (hf : (f s).visits = s.visits) (hs : VisitsOk s) :
    ∀ t, whenRunning s f = .next t → VisitsOk t := whenRunning_keeps hs (hs.of_visits hf)

/-- Every command keeps the visits unique and the queues in agreement with them. -/
theorem exec_keeps_visitsOk (i : Instr) (hs : VisitsOk s) : ∀ t, exec i s = .next t → VisitsOk t := by
  have blind := portBlind_visitsOk
  cases i with
  | readStatus p => exact whenRunning_keeps hs (exchange_keeps blind (fun _ hx => hx) hs)
  | clearNotices p set => exact command_visitsOk (fun x => by split <;> rfl) hs
  | setNoticeEnable p set => exact command_visitsOk (fun x => by split <;> rfl) hs
  | readParameter p k i => exact whenRunning_keeps hs (exchange_keeps blind (fun _ hx => readReply_keeps blind hx) hs)
  | writeParameter p k i v => exact command_keeps blind (fun _ hx => hx.writeParam _ _ _) hs
  | writeLaneMode p i v => exact command_keeps blind (fun _ hx => hx.writeParam _ _ _) hs
  | writeLanePortEnable p i v => exact command_keeps blind (fun _ hx => hx.writeParam _ _ _) hs
  | selectTable p k i =>
    refine servedCommand_keeps blind (fun x hx => ?_) hs
    unfold selectTable
    split
    · exact hx
    · split
      · exact hx
      · split <;> exact hx
  | readRecord p => exact whenRunning_keeps hs (exchange_keeps blind (fun _ hx => readReply_keeps blind hx) hs)
  | writeRecord p args =>
    exact writeRecordExchange_visitsOk p (fun x => writeRecordFramed x args.length) (fun k => tableWriteOf k args) hs
  | writeCategory p name reserve => exact writeTable_visitsOk p .categories (.category name reserve.toNat) hs
  | removeCategory p => exact writeTable_visitsOk p .categories .categoryRemove hs
  | writeAccount p w => exact writeTable_visitsOk p .accounts (.account w) hs
  | deleteAccount p => exact writeTable_visitsOk p .accounts .accountDelete hs
  | writeSiteCap p cap => exact writeTable_visitsOk p .siteCaps (.siteCap cap.toNat) hs
  | emptySiteCap p => exact writeTable_visitsOk p .siteCaps .siteCapEmpty hs
  | writeTare p v t d => exact writeTable_visitsOk p .tares (.tare v t.toNat d.toNat) hs
  | deleteTare p => exact writeTable_visitsOk p .tares .tareDelete hs
  | writeTemplate p name head => exact writeTable_visitsOk p .templates (.template name head.toNat) hs
  | emptyTemplate p => exact writeTable_visitsOk p .templates .templateEmpty hs
  | writeLine p w => exact writeTable_visitsOk p .lines (.line w) hs
  | writeRoute p w => exact writeTable_visitsOk p .routes (.route w) hs
  | readWeight p d => exact whenRunning_keeps hs (exchange_keeps blind (fun _ hx => readReply_keeps blind hx) hs)
  | followJournal p => exact servedCommand_keeps blind (fun _ hx => hx) hs
  | leaveFollow p =>
    unfold exec execLeaveFollow
    refine whenRunning_keeps hs ?_
    dsimp only
    split
    · exact hs
    · exact takeWithData_keeps blind (s := beginExchange p s) (fun _ hx => hx) hs
  | followExchange p =>
    unfold exec execFollowExchange
    refine whenRunning_keeps hs ?_
    split <;> exact hs
  | readJournal p => exact whenRunning_keeps hs (exchange_keeps blind (fun _ hx => readReply_keeps blind hx) hs)
  | readCursorMove p =>
    unfold exec execReadCursorMove
    exact whenRunning_keeps hs hs
  | framingDiscard p k a r =>
    unfold exec execFramingDiscard
    refine whenRunning_keeps hs ?_
    split <;> exact hs
  | unknownCommand p k =>
    unfold exec execUnknownCommand
    refine whenRunning_keeps hs ?_
    split
    · exact exchange_keeps blind (fun _ hx => hx) hs
    · exact hs
  | announce p b v a k n w =>
    refine whenRunning_keeps hs (exchange_keeps blind (fun x hx => takeWithData_keeps blind (fun y hy => ?_) hx) hs)
    split
    exacts [hy, hy.announceBody _ _]
  | attach p b v =>
    refine whenRunning_keeps hs (exchange_keeps blind (fun x hx => takeWithData_keeps blind (fun y hy => ?_) hx) hs)
    split
    exacts [hy, hy.attachBody _ _]
  | release p b ref => exact laneCommand_keeps blind (fun l x hx => by split; exacts [hx, hx.releaseVisit l _]) hs
  | capture p b ref => exact laneCommand_visitsOk (fun l x => by split; exacts [rfl, captureVisit_visits x l _]) hs
  | manualRaise p b => exact laneCommand_visitsOk (fun l x => manualRaise_visits x l) hs
  | manualLower p b => exact laneCommand_visitsOk (fun l x => manualLower_visits x l) hs
  | reprintLast p b =>
    refine laneCommand_visitsOk (fun l x => ?_) hs
    unfold reprintLast
    split
    exacts [rfl, reprint_visits x l _]
  | reprintTicket p n b => exact command_visitsOk (fun x => by split; exacts [rfl, reprint_visits x _ _]) hs
  | abortPrint p b =>
    refine laneCommand_visitsOk (fun l x => ?_) hs
    unfold abortPrint
    split
    exacts [rfl, endJob_visits x l _]
  | zeroDeck p b => exact command_visitsOk (fun x => by split; exacts [rfl, zeroDeck_visits x _]) hs
  | voidVisit p n => exact command_keeps blind (fun _ hx => hx.voidVisit _) hs
  | resolve p n k => exact command_keeps blind (fun _ hx => hx.resolveVisit _ _) hs
  | archiveUpTo p n => exact command_visitsOk (fun x => archiveUpTo_visits x _) hs
  | setClock p d n => exact command_visitsOk (fun x => by unfold setClock; split <;> rfl) hs
  | forceRollover p => exact command_visitsOk rolloverEvent_visits hs
  | setOutput p n k => exact command_visitsOk (fun x => setOutput_visits x _ _) hs
  | restartLanes p => exact command_visitsOk restartLanes_visits hs
  | clearLaneFault p b => exact command_visitsOk (fun x => by split; exacts [rfl, clearLaneFault_visits x _]) hs
  | calBegin p b => exact calCommand_visitsOk (fun d x => calBegin_visits x d) hs
  | calSet p b f => exact calCommand_visitsOk (fun d x => inSession_visits x (fun r d x => calSet_visits x f r d) d) hs
  | calZero p b => exact calCommand_visitsOk (fun d x => inSession_visits x (fun r d x => calZero_visits x r d) d) hs
  | calSpan p b n => exact calCommand_visitsOk (fun d x => inSession_visits x (fun r d x => calSpan_visits x _ r d) d) hs
  | calEnd p b => exact calCommand_visitsOk (fun d x => inSession_visits x (fun r d x => calEnd_visits x p r d) d) hs
  | calAbandon p b => exact calCommand_visitsOk (fun d x => inSession_visits x (fun _ _ _ => rfl) d) hs
  | lockCalibration p => exact command_visitsOk (fun x => abandonIdles_visits (lockUntilPower x) Idx.all) hs
  | writeSiteNumber p n => exact command_visitsOk (fun x => writeSiteNumber_visits x p _) hs
  | retryStore p => exact command_visitsOk (fun x => retryStore_visits x p) hs
  | sampleOk d n => exact whenRunning_keeps hs (hs.sampleStep d n)
  | sampleCellError d n =>
    unfold exec execSampleCellError
    refine whenRunning_visitsOk ?_ hs
    split
    exacts [rfl, linkFault_visits s d]
  | linkSilenceTimeout d =>
    unfold exec execLinkSilenceTimeout
    refine whenDue_keeps hs hs (hs.of_visits ?_)
    split
    exacts [linkFault_visits s d, rfl]
  | captureTimeout d =>
    unfold exec execCaptureTimeout
    exact whenDue_keeps hs hs (hs.of_visits (endCapture_visits s d _))
  | zeroTrackingStep d => exact whenRunning_visitsOk (trackStep_visits s d) hs
  | ticketIssue => exact whenRunning_keeps hs hs.issueStep
  | floorWriteEnd ok => exact whenRunning_visitsOk (floorWriteEnd_visits s ok) hs
  | calWriteEnd ok => exact whenRunning_visitsOk (calWriteEnd_visits s ok) hs
  | siteNumberWriteEnd ok => exact whenRunning_visitsOk (siteWriteEnd_visits s ok) hs
  | clockAdvance =>
    rintro t ⟨⟩
    split
    exacts [hs.of_visits (absorbAdvance_visits s), hs.of_visits (countSecond_visits s)]
  | overstay n =>
    unfold exec execOverstay
    refine whenRunning_keeps hs ?_
    split
    · exact hs
    · split
      exacts [hs.overstayVisit _, hs]
  | loopFilterChange l b =>
    unfold exec execLoopFilterChange
    refine whenRunning_keeps hs ?_
    split
    exacts [hs, hs.loopChange l b]
  | beamFilterChange l b x =>
    unfold exec execBeamFilterChange
    exact whenRunning_keeps hs hs
  | barrierLimitChange l x a =>
    show ∀ t, execBarrierLimitChange l x a s = .next t → VisitsOk t
    unfold execBarrierLimitChange
    split
    · rintro t ⟨⟩; exact hs
    · rintro t ⟨⟩
      split
      · exact hs.of_visits (limitActive_visits _ l x)
      · exact hs
  | travelTimeout l =>
    unfold exec execTravelTimeout
    refine whenDue_keeps hs hs (hs.of_visits ?_)
    split
    exacts [enterFault_visits s l, rfl]
  | passTimeout l =>
    unfold exec execPassTimeout
    refine whenDue_keeps hs hs (hs.of_visits ?_)
    split
    · split
      exacts [rfl, stallLane_visits s l]
    · rfl
  | unannouncedOccupancyTimeout l =>
    unfold exec execUnannouncedOccupancyTimeout
    refine whenDue_keeps hs hs ?_
    split <;> exact hs
  | metrologySwitchChange b =>
    unfold exec execMetrologySwitchChange
    refine whenRunning_keeps hs ?_
    split
    · exact hs
    · split
      · exact hs
      · exact hs.of_visits (abandonIdles_visits { s with cal := { s.cal with switchClosed := b } } Idx.all)
  | printByteSent l =>
    unfold exec execPrintByteSent
    refine whenRunning_visitsOk ?_ hs
    split
    exacts [pumpEngine_visits _ l, rfl]
  | printerReadyChange l b => rintro t ⟨⟩; exact hs
  | paperOutChange l b =>
    unfold exec execPaperOutChange
    refine whenRunning_visitsOk ?_ hs
    split
    · rfl
    · split
      exacts [paperGone_visits s l, paperBack_visits s l]
  | pauseTimeout l =>
    unfold exec execPauseTimeout
    refine whenDue_keeps hs hs (hs.of_visits ?_)
    split
    exacts [endJob_visits s l _, rfl]
  | inputFilterChange n b =>
    unfold exec execInputFilterChange
    refine whenRunning_visitsOk ?_ hs
    split
    exacts [raiseEvent_visits _ _ _, rfl]
  | outputPulseExpiry n =>
    unfold exec execOutputPulseExpiry
    refine whenDue_keeps hs hs ?_
    split <;> exact hs
  | powerOn x => rintro t ⟨⟩; exact hs.startPart x
  | externalReset x => rintro t ⟨⟩; exact hs.startPart x
  | powerLoss b => exact whenRunning_keeps hs hs

/-- Settles O8: the agreement reads the visit table alone, so a step keeps it as its command does; time alone leaves the
table as it is. -/
theorem stepKeepsVisitsAndQueuesAgreed : Obligations.StepKeepsVisitsAndQueuesAgreed := by
  intro s t hs h
  unfold step at h
  split at h
  · cases h
    exact hs.of_visits (monoTick_visits s)
  · rename_i rest _
    have queued : VisitsOk { s with pending := rest } := hs
    exact exec_keeps_visitsOk _ queued t h

end VisitsKept

end Sys2Proof.Machine

/-! PROOFS, 03_visits (R59, R61). RESOLVE of a disputed visit. -/

namespace Sys2Proof.Machine
open Sys2Proof

/-! ### What stays of the ports -/

section PortsKept

variable {s t u : State}

/-- Of the ports, at most the pending notices have changed. -/
def PortsKept (s t : State) : Prop := ∀ p, (t.port p).outsideRoutes = (s.port p).outsideRoutes

theorem PortsKept.refl (s : State) : PortsKept s s := fun _ => rfl
theorem PortsKept.trans (h : PortsKept s t) (k : PortsKept t u) : PortsKept s u := fun p => (k p).trans (h p)
theorem PortsKept.of_ports (h : t.ports = s.ports) : PortsKept s t := fun p => by
  unfold State.port
  rw [h]
theorem PortsKept.of_outsideYard (h : t.outsideYard = s.outsideYard) : PortsKept s t := port_of_outsideYard h
theorem PortsKept.of_hide {ps : List Part} (h : t.hide ps = s.hide ps) (hp : .ports ∉ ps) : PortsKept s t :=
  .of_ports (KeepsAllBut.ports h hp)

theorem PortsKept.answered {p : PortId} (h : PortsKept (beginExchange p s) t) (c : Byte) (r : Result) :
    Answered (setResult p c r ReplyData.zero t) p c r := answered_setResult (h p) c r

end PortsKept

/-! ### A command from its body (R167, R168) -/

section Bodies

variable {s : State} {p : PortId} {ps : List Part}

theorem beginExchange_hide (h : .ports ∈ ps) (p : PortId) (s : State) : (beginExchange p s).hide ps = s.hide ps :=
  modPort_hide h p _

theorem setResult_hide (h : .ports ∈ ps) (p : PortId) (c : Byte) (r : Result) (x : ReplyData) (s : State) :
    (setResult p c r x s).hide ps = s.hide ps := modPort_hide h p _

/-- A body that refuses leaves its port's answer. -/
theorem command_refused (h : Takes s p) (c : Byte) {b : Bool} (hb : b = true) {body : State → Result × State} {r : Result}
    (hbody : body (beginExchange p s) = (r, beginExchange p s)) : command p c b body s = .next (s.answer p c r) :=
  command_eq_answer h c hb hbody

end Bodies

/-! ### A ticket request (R59, R125) -/

section Requests

variable {s : State}

theorem requestTicket_queue (n : Nat) (s : State) : (requestTicket n s).tickets.queue = s.tickets.queue ++ [n]
    ∧ (requestTicket n s).tickets.next = s.tickets.next := by
  unfold requestTicket
  dsimp only
  split
  · obtain ⟨hnext, -, hqueue, -, -⟩ :=
      tryHead_tickets (s := { s with tickets := { s.tickets with queue := s.tickets.queue ++ [n] } })
    exact ⟨hqueue, hnext⟩
  · exact ⟨rfl, rfl⟩

theorem awaitTicket_findVisit (n : Nat) (s : State) (m : Nat) : findVisit (awaitTicket n s) m =
    if m = n then (findVisit s n).map fun v => { v with state := .awaitingTicket } else findVisit s m := by
  rw [awaitTicket, findVisit_congr (requestTicket_visits _ n), findVisit_modVisit
    (f := fun v => { v with state := .awaitingTicket }) fun _ => rfl]

theorem awaitTicket_queue (n : Nat) (s : State) : (awaitTicket n s).tickets.queue = s.tickets.queue ++ [n]
    ∧ (awaitTicket n s).tickets.next = s.tickets.next := requestTicket_queue n _

end Requests

/-! ### ACCEPT_ZERO (R59, R61) -/

section AcceptZero

theorem tickets_of_outsideYard {s t : State} (h : t.outsideYard = s.outsideYard) : t.tickets = s.tickets :=
  have htickets : t.outsideYard.tickets = s.outsideYard.tickets := congrArg State.tickets h
  htickets

variable {s : State} {v : Visit}

theorem handOut_outsideYard (l : Lane) (n : Nat) (s : State) : (handOut l n s).outsideYard = s.outsideYard := by
  unfold handOut
  split
  · rfl
  · dsimp only
    split <;> simp

/-- The state with the net accepted as 0 and the ticket requested, before it is handed out. -/
def zeroAccepted (v : Visit) (s : State) : State :=
  awaitTicket v.number (modVisit v.number (fun v => { v with net := some 0, negativeNet := true }) s)

theorem acceptZero_outsideYard (v : Visit) (s : State) :
    (acceptZero v s).outsideYard = (zeroAccepted v s).outsideYard := by
  unfold acceptZero
  dsimp only
  split
  · rfl
  · exact handOut_outsideYard _ _ _

theorem zeroAccepted_findVisit (v : Visit) (s : State) (m : Nat) : findVisit (zeroAccepted v s) m =
    if m = v.number then
      (findVisit s v.number).map fun v => { v with net := some 0, negativeNet := true, state := .awaitingTicket }
    else findVisit s m := by
  have hzero := findVisit_modVisit (f := fun v => { v with net := some 0, negativeNet := true }) (fun _ => rfl) s v.number
  rw [zeroAccepted, awaitTicket_findVisit]
  split
  · rw [hzero, if_pos rfl, Option.map_map]
    rfl
  · rename_i hm
    rw [hzero, if_neg hm]

theorem zeroAccepted_hide {ps : List Part} (hv : .visits ∈ ps) (hn : .nv ∈ ps) (ht : .tickets ∈ ps) (v : Visit)
    (s : State) : (zeroAccepted v s).hide ps = s.hide ps :=
  (awaitTicket_hide hv hn ht v.number).trans (modVisit_hide hv _ _)

/-- RESOLVE with ACCEPT_ZERO of a disputed visit: what it makes of the visits, the ticket queue and the port. -/
theorem acceptZero_spec (hv : findVisit s v.number = some v) :
    findVisit (acceptZero v s) v.number = some { v with net := some 0, negativeNet := true, state := .awaitingTicket }
    ∧ (∀ m, m ≠ v.number → findVisit (acceptZero v s) m = findVisit s m)
    ∧ (acceptZero v s).tickets.queue = s.tickets.queue ++ [v.number]
    ∧ (acceptZero v s).tickets.next = s.tickets.next
    ∧ PortsKept s (acceptZero v s)
    ∧ KeepsAllBut ([.visits, .tickets, .nv] ++ yardParts) s (acceptZero v s) := by
  have hyard := acceptZero_outsideYard v s
  have htickets : (acceptZero v s).tickets = (zeroAccepted v s).tickets := tickets_of_outsideYard hyard
  obtain ⟨hqueue, hnext⟩ :=
    awaitTicket_queue v.number (modVisit v.number (fun v => { v with net := some 0, negativeNet := true }) s)
  refine ⟨?_, fun m hm => ?_, by rw [htickets]; exact hqueue, by rw [htickets]; exact hnext, ?_, ?_⟩
  · rw [findVisit_congr (visits_of_outsideYard hyard), zeroAccepted_findVisit, if_pos rfl, hv]
    rfl
  · rw [findVisit_congr (visits_of_outsideYard hyard), zeroAccepted_findVisit, if_neg hm]
  · exact (PortsKept.of_hide (zeroAccepted_hide (ps := [.visits, .nv, .tickets]) (by decide) (by decide) (by decide) v s)
      (by decide)).trans (.of_outsideYard hyard)
  · exact (hide_of_yard (by unfold HidesYard; decide) hyard).trans
      (zeroAccepted_hide (by decide) (by decide) (by decide) v s)

end AcceptZero

/-! ### RESOLVE (R61) -/

section Resolve

variable {s : State}

theorem choiceOf_none {c : Byte} (h1 : c.toNat ≠ 1) (h2 : c.toNat ≠ 2) : choiceOf c = none := by
  unfold choiceOf
  split
  · exact absurd ‹_› h1
  · exact absurd ‹_› h2
  · rfl

theorem choiceOf_one {c : Byte} (h : c.toNat = 1) : choiceOf c = some .void := by
  unfold choiceOf
  rw [h]
  rfl

theorem choiceOf_two {c : Byte} (h : c.toNat = 2) : choiceOf c = some .acceptZero := by
  unfold choiceOf
  rw [h]
  rfl

theorem resolveVisit_of_disputed {n : Nat} {v : Visit} (hv : findVisit s n = some v) (hstate : v.state = .disputed) :
    resolveVisit n (some .void) s = voidVisit n s
    ∧ resolveVisit n (some .acceptZero) s = (.done, acceptZero v s) := by
  unfold resolveVisit
  dsimp only
  rw [hv]
  dsimp only
  rw [if_neg (not_not_intro hstate), if_neg (not_not_intro hstate)]
  exact ⟨rfl, rfl⟩

/-- Settles O40: the choice is tested first, then the state; VOID is VOID VISIT under another code. -/
theorem resolveSettlesADispute : Obligations.ResolveSettlesADispute := by
  intro s n c h
  have begun : ∀ m, findVisit (beginExchange .office s) m = findVisit s m := fun m => rfl
  refine ⟨fun h1 h2 => command_refused h _ rfl ?_, fun v hv hc => ⟨fun hstate => command_refused h _ rfl ?_,
    fun hstate h1 t ht => ?_, fun hstate h2 => ?_⟩⟩
  · rw [choiceOf_none h1 h2]
    rfl
  · obtain ⟨k, hk⟩ : ∃ k, choiceOf c = some k := hc.elim (fun h => ⟨_, choiceOf_one h⟩) fun h => ⟨_, choiceOf_two h⟩
    unfold resolveVisit
    rw [hk]
    dsimp only
    rw [begun, hv]
    exact if_pos hstate
  · have hvoid : exec (.voidVisit .office n) s = _ := command_of_takes h 0x40#8 rfl (voidVisit n.toNat)
    rw [hvoid] at ht
    cases ht
    have hresolve : exec (.resolve .office n c) s = _ := command_of_takes h 0x41#8 rfl (resolveVisit n.toNat (choiceOf c))
    rw [hresolve, choiceOf_one h1, (resolveVisit_of_disputed ((begun _).trans hv) hstate).1]
    simp only [setResult, modPort_modPort]
  · have hresolve : exec (.resolve .office n c) s = _ := command_of_takes h 0x41#8 rfl (resolveVisit n.toNat (choiceOf c))
    rw [choiceOf_two h2, (resolveVisit_of_disputed ((begun _).trans hv) hstate).2] at hresolve
    rw [← number_of_findVisit hv]
    have hbegun : findVisit (beginExchange .office s) v.number = some v := by
      rw [number_of_findVisit hv]
      exact (begun _).trans hv
    obtain ⟨hfound, hothers, hqueue, hnext, hports, hkeeps⟩ := acceptZero_spec hbegun
    refine ⟨_, hresolve, hports.answered _ _, ?_, fun m hm => ?_, hqueue, hnext, ?_⟩
    · rw [← hfound]; rfl
    · exact (hothers m hm).trans (begun m)
    · exact (setResult_hide (by decide) _ _ _ _ _).trans (Eq.trans hkeeps (beginExchange_hide (by decide) .office s))

end Resolve

end Sys2Proof.Machine

/-! PROOFS, 03_visits (R22, R23, R46, R58, R101, R158, R161). What a new head, a fired route and a departing head can make of
a lane's capture and of what it reports of it, and what every event leaves of the routes' outcomes. -/

namespace Sys2Proof.Machine
open Sys2Proof

/-! ### The hand-over of a head as work at its lane (R46, R100, R102) -/

section HandOver

variable {s t u : State} {l k : Lane}

theorem handHeadAuto_laneOp (l : Lane) (fresh : Bool) : LaneOp l (handHeadAuto l fresh) := by
  have byState : ∀ st : SeqState, LaneOp l fun s =>
      match st with
      | .occupied => actInOccupied l fresh s
      | .capturing =>
        match headClass s l with
        | .cleared => enterReleasing l s
        | .holding => enterHeld l s
        | .capturable | .none => s
      | .held => settle l s
      | .releasing | .opened =>
        if headNumber s l ≠ (s.lane l).seqr.released then enterClosing l s
        else if headClass s l = .holding then enterHeld l s
        else s
      | .idle | .closing => if headClass s l = .holding then enterHeld l s else s
      | .passing | .manual | .closed => s := fun st => by
    have open' : LaneOp l fun s =>
        if headNumber s l ≠ (s.lane l).seqr.released then enterClosing l s
        else if headClass s l = .holding then enterHeld l s
        else s :=
      .ite (fun _ _ _ => Iff.rfl) (enterClosing_laneOp l) (.ite (fun _ _ _ => Iff.rfl) (enterHeld_laneOp l) (.id l))
    have clear' : LaneOp l fun s => if headClass s l = .holding then enterHeld l s else s :=
      .ite (fun _ _ _ => Iff.rfl) (enterHeld_laneOp l) (.id l)
    cases st with
    | occupied => exact actInOccupied_laneOp l fresh
    | capturing =>
      refine .byClass (a := fun c s => match c with
        | .cleared => enterReleasing l s
        | .holding => enterHeld l s
        | .capturable | .none => s) fun c => ?_
      cases c with
      | cleared => exact enterReleasing_laneOp l
      | holding => exact enterHeld_laneOp l
      | capturable | none => exact .id l
    | held => exact settle_laneOp l
    | releasing | opened => exact open'
    | idle | closing => exact clear'
    | passing | manual | closed => exact .id l
  exact ⟨fun s => (byState (s.lane l).seqr.state).works s, fun s p f => (byState (s.lane l).seqr.state).modPort s p f⟩

theorem handHead_laneOp (l : Lane) (fresh : Bool) : LaneOp l (handHead l fresh) :=
  (LaneOp.ite (c := fun s => (s.lane l).params.mode = .auto) (fun _ _ _ => Iff.rfl) (handHeadAuto_laneOp l fresh)
    (.id l)).comp (.of_modSeq fun _ _ _ => rfl)

end HandOver

/-! ### Attempts at a capture start (R101, R111, R161) -/

section StartTried

variable {s t u : State} {l k : Lane} {ok : Nat → Prop}

/-- What attempts to start a capture at a lane make of it, each for a visit that `ok` admits: a capture in flight stays; where
there is none one may start for such a visit, or the lane may report that none was started. -/
structure StartTried (ok : Nat → Prop) (l : Lane) (s t : State) : Prop where
  inFlight : (s.deck l).capture ≠ none → (t.deck l).capture = (s.deck l).capture
  capture : (t.deck l).capture = (s.deck l).capture ∨ ∃ c, (t.deck l).capture = some c ∧ ok c.visit
  report : (t.lane l).report.lastCapture = (s.lane l).report.lastCapture
    ∨ (∃ m, ok m) ∧ ∃ code, (t.lane l).report.lastCapture = .notStarted code

theorem StartTried.of_same (hd : (t.deck l).capture = (s.deck l).capture)
    (hl : (t.lane l).report.lastCapture = (s.lane l).report.lastCapture) : StartTried ok l s t :=
  ⟨fun _ => hd, .inl hd, .inl hl⟩

theorem StartTried.refl (ok : Nat → Prop) (l : Lane) (s : State) : StartTried ok l s s := .of_same rfl rfl

theorem StartTried.trans (h : StartTried ok l s t) (g : StartTried ok l t u) : StartTried ok l s u where
  inFlight hs := by
    have hst := h.inFlight hs
    exact (g.inFlight (by rw [hst]; exact hs)).trans hst
  capture := g.capture.elim (fun hg => h.capture.imp hg.trans fun ⟨c, hc, hok⟩ => ⟨c, hg.trans hc, hok⟩) .inr
  report := g.report.elim (fun hg => h.report.imp hg.trans fun ⟨hok, c, hc⟩ => ⟨hok, c, hg.trans hc⟩) .inr

/-- No attempt for any visit: capture and report stand. -/
theorem StartTried.same (h : StartTried (fun _ => False) l s t) : (t.deck l).capture = (s.deck l).capture
    ∧ (t.lane l).report.lastCapture = (s.lane l).report.lastCapture :=
  ⟨h.capture.resolve_right fun ⟨_, _, hf⟩ => hf, h.report.resolve_right fun ⟨⟨_, hf⟩, _⟩ => hf⟩

theorem StartTried.of_modLane (k : Lane) (f : LaneUnit → LaneUnit)
    (hf : (f (s.lane k)).report.lastCapture = (s.lane k).report.lastCapture) : StartTried ok l s (s.modLane k f) := by
  refine .of_same rfl ?_
  by_cases hk : l = k
  · subst hk; rw [modLane_lane, hf]
  · rw [modLane_lane_of_ne s f hk]

theorem StartTried.of_modSeq (k : Lane) (f : Sequencer → Sequencer) : StartTried ok l s (s.modSeq k f) :=
  .of_modLane k _ rfl
theorem StartTried.of_modBarrier (k : Lane) (f : Barrier → Barrier) : StartTried ok l s (s.modBarrier k f) :=
  .of_modLane k _ rfl

/-- Work at another lane leaves the lane alone. -/
theorem StartTried.of_work (h : LaneWork k s t) (hl : l ≠ k) : StartTried ok l s t :=
  .of_same (by rw [h.deck_of_ne hl]) (by rw [h.lane_of_ne hl])

theorem startRefusal_none_capture (h : startRefusal s l = none) : (s.deck l).capture = none := by
  by_contra hc
  cases (startRefusal_state (.inl (Option.isSome_iff_ne_none.2 hc))).symm.trans h

theorem startForHead_tried {n : Nat} (h : ok n) (s : State) : StartTried ok l s (startForHead l n s).2 := by
  unfold startForHead
  split
  · rename_i haccepts
    have hnone := startRefusal_none_capture haccepts
    have hlane : ((acceptStart l n s).lane l).report = (s.lane l).report := by
      unfold acceptStart
      dsimp only
      split
      · rw [State.modSeq, modLane_lane, modDeck_lane]
      · rw [modDeck_lane]
    have hdeck : ((acceptStart l n s).deck l).capture =
        some { visit := n, deadline := inSec s (s.deck l).captureTimeout } := by
      unfold acceptStart
      dsimp only
      split
      · rw [modSeq_deck, modDeck_deck]
      · rw [modDeck_deck]
    exact ⟨fun hs => absurd hnone hs, .inr ⟨_, hdeck, h⟩, .inl (congrArg LaneReport.lastCapture hlane)⟩
  · rename_i code _
    refine ⟨fun _ => rfl, .inl rfl, .inr ⟨⟨n, h⟩, code, ?_⟩⟩
    show ((s.modReport l _).lane l).report.lastCapture = _
    rw [modReport_lane]

end StartTried

/-! ### The sequencer's own attempts (R100, R101) -/

section SeqWork

variable {s t u : State} {l : Lane} {ok : Nat → Prop}

/-- Work of a lane's sequencer that keeps its parameters and its head. -/
structure SeqWork (ok : Nat → Prop) (l : Lane) (s t : State) : Prop where
  tried : StartTried ok l s t
  params : (t.lane l).params = (s.lane l).params
  head : (t.lane l).seqr.head = (s.lane l).seqr.head

theorem SeqWork.refl (ok : Nat → Prop) (l : Lane) (s : State) : SeqWork ok l s s := ⟨.refl ok l s, rfl, rfl⟩

theorem SeqWork.trans (h : SeqWork ok l s t) (g : SeqWork ok l t u) : SeqWork ok l s u :=
  ⟨h.tried.trans g.tried, g.params.trans h.params, g.head.trans h.head⟩

theorem SeqWork.of_modSeq (f : Sequencer → Sequencer) (hf : (f (s.lane l).seqr).head = (s.lane l).seqr.head) :
    SeqWork ok l s (s.modSeq l f) :=
  ⟨.of_modSeq l f, by rw [State.modSeq, modLane_lane], by rw [State.modSeq, modLane_lane]; exact hf⟩

theorem SeqWork.of_modBarrier (f : Barrier → Barrier) : SeqWork ok l s (s.modBarrier l f) :=
  ⟨.of_modBarrier l f, by rw [State.modBarrier, modLane_lane], by rw [State.modBarrier, modLane_lane]⟩

/-- Auto-capture at the lane is for visits that `ok` admits alone. -/
def AutoOk (ok : Nat → Prop) (l : Lane) (s : State) : Prop :=
  (s.lane l).params.autoCapture = true → headClass s l = .capturable → ∀ m, headNumber s l = some m → ok m

theorem AutoOk.of_work (h : AutoOk ok l s) (w : SeqWork ok l s t) : AutoOk ok l t := by
  unfold AutoOk headClass headNumber at *
  rwa [w.params, w.head]

theorem lowerUnlessDown_seqWork (l : Lane) (s : State) : SeqWork ok l s (lowerUnlessDown l s) := by
  unfold lowerUnlessDown
  split
  · exact .refl ok l s
  · exact .of_modBarrier _

theorem enterOpen_seqWork (l : Lane) (s : State) : SeqWork ok l s (enterOpen l s) := by
  unfold enterOpen
  split <;> exact .of_modSeq _ rfl

theorem enterReleasing_seqWork (l : Lane) (s : State) : SeqWork ok l s (enterReleasing l s) := by
  have raised : SeqWork ok l s (raiseRequest l (s.modSeq l fun q =>
      { q with state := .releasing, light := .red, released := headNumber s l })) :=
    (SeqWork.of_modSeq _ rfl).trans (.of_modBarrier _)
  unfold enterReleasing
  dsimp only
  split
  · exact raised.trans (enterOpen_seqWork l _)
  · exact raised

theorem enterHeld_seqWork (l : Lane) (s : State) : SeqWork ok l s (enterHeld l s) :=
  (SeqWork.of_modSeq _ rfl).trans (lowerUnlessDown_seqWork l _)

theorem startForHead_seqWork {n : Nat} (h : ok n) (s : State) : SeqWork ok l s (startForHead l n s).2 := by
  refine ⟨startForHead_tried h s, ?_, ?_⟩
  all_goals
    unfold startForHead acceptStart reportNotStarted
    split
    · dsimp only
      split
      · rw [State.modSeq, modLane_lane, modDeck_lane]
      · rw [modDeck_lane]
    · dsimp only
      rw [State.modReport, modLane_lane]

theorem autoStart_seqWork (h : ∀ m, headNumber s l = some m → ok m) : SeqWork ok l s (autoStart l s) := by
  unfold autoStart
  split
  · exact .refl ok l s
  · rename_i n hn
    exact startForHead_seqWork (h n hn) s

theorem actInOccupied_seqWork (h : AutoOk ok l s) (auto : Bool) : SeqWork ok l s (actInOccupied l auto s) := by
  unfold actInOccupied
  split
  · rename_i hclass
    split
    · rename_i hauto
      exact autoStart_seqWork (h ((Bool.and_eq_true _ _).mp hauto).2 hclass)
    · exact .refl ok l s
  · exact enterReleasing_seqWork l s
  · exact enterHeld_seqWork l s
  · exact .refl ok l s

theorem enterOccupied_seqWork (h : AutoOk ok l s) : SeqWork ok l s (enterOccupied l s) := by
  have entered : SeqWork ok l s (s.modSeq l fun q => { q with state := .occupied, light := .red }) := .of_modSeq _ rfl
  exact entered.trans (actInOccupied_seqWork (h.of_work entered) true)

theorem enterIdle_seqWork (l : Lane) (s : State) : SeqWork ok l s (enterIdle l s) := .of_modSeq _ rfl

theorem enterClosing_seqWork (h : AutoOk ok l s) : SeqWork ok l s (enterClosing l s) := by
  have closing : SeqWork ok l s (lowerRequest l (s.modSeq l fun q =>
      { q with state := .closing, light := .red, released := none, passTimer := passStopped s l q.passTimer })) :=
    (SeqWork.of_modSeq _ rfl).trans (.of_modBarrier _)
  unfold enterClosing
  dsimp only
  split
  · unfold closingDone
    split
    · exact closing.trans (enterOccupied_seqWork (h.of_work closing))
    · exact closing.trans (enterIdle_seqWork l _)
  · exact closing

theorem settle_seqWork (h : AutoOk ok l s) : SeqWork ok l s (settle l s) := by
  have unreleased : ∀ x : State, SeqWork ok l x (x.modSeq l fun q => { q with released := none }) := fun _ =>
    .of_modSeq _ rfl
  have disarmed : SeqWork ok l s (s.modSeq l fun q => { q with passageArmed := false }) := .of_modSeq _ rfl
  have hauto := h.of_work disarmed
  have idle : SeqWork ok l s (enterIdle l ((s.modSeq l fun q => { q with passageArmed := false }).modSeq l
      fun q => { q with released := none })) := (disarmed.trans (unreleased _)).trans (enterIdle_seqWork l _)
  unfold settle
  split
  · exact .of_modSeq _ rfl
  · dsimp only
    generalize (s.modSeq l fun q => { q with passageArmed := false }) = x at disarmed hauto idle ⊢
    split
    · exact disarmed.trans (enterHeld_seqWork l _)
    · split
      · exact disarmed.trans (enterReleasing_seqWork l _)
      · split
        · exact idle
        · exact disarmed.trans (enterClosing_seqWork hauto)
    all_goals
      split
      · exact disarmed.trans (enterClosing_seqWork hauto)
      · split
        · exact disarmed.trans ((unreleased x).trans (enterOccupied_seqWork (hauto.of_work (unreleased x))))
        · exact idle

theorem handHeadAuto_seqWork (h : AutoOk ok l s) (fresh : Bool) : SeqWork ok l s (handHeadAuto l fresh s) := by
  have opened : SeqWork ok l s (if headNumber s l ≠ (s.lane l).seqr.released then enterClosing l s
      else if headClass s l = .holding then enterHeld l s else s) := by
    split
    · exact enterClosing_seqWork h
    · split
      · exact enterHeld_seqWork l s
      · exact .refl ok l s
  have cleared : SeqWork ok l s (if headClass s l = .holding then enterHeld l s else s) := by
    split
    · exact enterHeld_seqWork l s
    · exact .refl ok l s
  unfold handHeadAuto
  split
  · exact actInOccupied_seqWork h fresh
  · split
    · exact enterReleasing_seqWork l s
    · exact enterHeld_seqWork l s
    all_goals exact .refl ok l s
  · exact settle_seqWork h
  · exact opened
  · exact opened
  · exact cleared
  · exact cleared
  all_goals exact .refl ok l s

/-- A hand-over tries a capture for the head the visit table hands alone (R101). -/
theorem handHead_tried (h : AutoOk ok l (keepHead l s)) (fresh : Bool) : StartTried ok l s (handHead l fresh s) := by
  have kept : StartTried ok l s (keepHead l s) := .of_modSeq l _
  unfold handHead
  dsimp only
  split
  · exact kept.trans (handHeadAuto_seqWork h fresh).tried
  · exact kept

/-- Where the lane is not in AUTO, a hand-over tries none. -/
theorem handHead_untried (h : (s.lane l).params.mode ≠ .auto) (fresh : Bool) : StartTried ok l s (handHead l fresh s) := by
  have hmode : ((keepHead l s).lane l).params.mode ≠ .auto := by
    rw [keepHead, State.modSeq, modLane_lane]
    exact h
  unfold handHead
  dsimp only
  rw [if_neg hmode]
  exact .of_modSeq l _

/-- The head a sequencer keeps after a hand-over is the one it was handed. -/
theorem handHead_head (l : Lane) (fresh : Bool) (s : State) :
    ((handHead l fresh s).lane l).seqr.head = presentHead s l := by
  have kept : ((keepHead l s).lane l).seqr.head = presentHead s l := by rw [keepHead, State.modSeq, modLane_lane]
  unfold handHead
  dsimp only
  split
  · have work : SeqWork (fun _ => True) l (keepHead l s) (handHeadAuto l fresh (keepHead l s)) :=
      handHeadAuto_seqWork (fun _ _ _ _ => trivial) fresh
    exact work.head.trans kept
  · exact kept

end SeqWork

/-! ### The routes' attempts (R161) -/

section RouteStarts

variable {s t : State} {l k : Lane} {ok : Nat → Prop}

theorem Idx.ofNat?_eq_some {i : Nat} {l : Idx} (h : Idx.ofNat? i = some l) : i = l.num := by
  unfold Idx.ofNat? at h
  split at h <;> cases h <;> rfl

/-- A START_CAPTURE at the lane is for visits that `ok` admits alone. -/
def RouteOk (ok : Nat → Prop) (l : Lane) (s : State) : Prop :=
  (s.lane l).params.mode = .auto → headClass s l = .capturable → ∀ m, isHead s l m = true → ok m

/-- A lane whose capture-relevant part and visits are the same admits the same. -/
theorem RouteOk.of_aside (h : RouteOk ok l s) (ha : Aside l s t) (hv : t.visits = s.visits) : RouteOk ok l t := by
  have hhead := congrArg (fun u => u.seqr.head) ha.lane
  change (t.lane l).seqr.head = (s.lane l).seqr.head at hhead
  unfold RouteOk headClass at *
  simp only [isHead_congr hv]
  rwa [ha.params, hhead]

/-- A route whose task is START_CAPTURE at the lane. -/
def Starts (l : Lane) (r : Route) : Prop := r.enabled = true ∧ r.task = .startCapture ∧ r.taskIndex = l.num

theorem startCaptureTask_tried (k : Lane) (h : k = l → RouteOk ok l s) : StartTried ok l s (startCaptureTask k s).2 := by
  unfold startCaptureTask
  split
  · rename_i hauto
    obtain ⟨hmode, -, hclass⟩ := hauto
    split
    · exact .refl ok l s
    · rename_i n _
      split
      · rename_i hhead
        by_cases hk : k = l
        · subst hk
          exact startForHead_tried (h rfl hmode hclass n hhead) s
        · exact .of_work ((startForHead_laneOp k n).works s) (Ne.symm hk)
      · exact .refl ok l s
  · exact .refl ok l s

theorem onTaskLane_tried {f : Lane → State → Bool × State} {i : Nat}
    (hf : ∀ k, Idx.ofNat? i = some k → StartTried ok l s (f k s).2) : StartTried ok l s (onTaskLane i s f).2 := by
  unfold onTaskLane
  split
  · exact .refl ok l s
  · exact hf _ ‹_›

theorem takeTask_tried (task : TaskKind) (i : Nat) (h : task = .startCapture → i = l.num → RouteOk ok l s) :
    StartTried ok l s (takeTask task i s).2 := by
  have light : ∀ x k, StartTried ok l s (lightTask x k s).2 := fun x k => by
    unfold lightTask
    split
    · exact .refl ok l s
    all_goals
      dsimp only
      exact .of_modSeq k _
  have barrier : ∀ (request : Lane → State → State), (∀ k s, ∃ f, request k s = s.modBarrier k f) →
      ∀ k, StartTried ok l s (barrierTask request k s).2 := fun request hr k => by
    unfold barrierTask
    split
    · obtain ⟨f, hf⟩ := hr k s
      dsimp only
      rw [hf]
      exact .of_modBarrier k f
    · exact .refl ok l s
  cases task with
  | outputSet | outputClear | outputPulse => exact .of_same rfl rfl
  | lightRed | lightGreen => exact onTaskLane_tried fun k _ => light _ k
  | barrierRaise => exact onTaskLane_tried fun k _ => barrier raiseRequest (fun _ _ => ⟨_, rfl⟩) k
  | barrierLower => exact onTaskLane_tried fun k _ => barrier lowerRequest (fun _ _ => ⟨_, rfl⟩) k
  | startCapture =>
    exact onTaskLane_tried fun k hk => startCaptureTask_tried k fun e => h rfl (e ▸ Idx.ofNat?_eq_some hk)
  | notice =>
    unfold takeTask
    dsimp only
    split
    · exact .refl ok l s
    · exact .of_same rfl rfl

theorem fireRoute_tried (e : EventKind) (x : Option Nat) (p : Nat × Route) (h : Starts l p.2 → RouteOk ok l s) :
    StartTried ok l s (fireRoute e x s p) := by
  rw [fireRoute_eq]
  split
  · rename_i hmatch
    obtain ⟨henabled, -, -⟩ := hmatch
    exact (takeTask_tried p.2.task p.2.taskIndex fun ht hi => h ⟨henabled, ht, hi⟩).trans (.of_same rfl rfl)
  · exact .refl ok l s

theorem fireRoute_visits (e : EventKind) (x : Option Nat) (p : Nat × Route) (s : State) :
    (fireRoute e x s p).visits = s.visits :=
  visits_of_outsideYard (outsideYard_of_outsideRoutes (fireRoute_outsideRoutes s e x p))

/-- An event's routes try a capture at a lane only with START_CAPTURE there, for the head of its queue. -/
theorem raiseEvent_tried (e : EventKind) (x : Option Nat)
    (h : (∃ q ∈ s.routes.routes, Starts l q.2) → RouteOk ok l s) : StartTried ok l s (raiseEvent e x s) := by
  unfold raiseEvent
  generalize s.routes.routes = table at h ⊢
  induction table generalizing s with
  | nil => exact .refl ok l s
  | cons p table ih =>
    refine (fireRoute_tried e x p fun hp => h ⟨p, List.mem_cons_self, hp⟩).trans (ih fun ⟨q, hq, hs⟩ => ?_)
    exact (h ⟨q, List.mem_cons_of_mem p hq, hs⟩).of_aside (fireRoute_aside l e x s p) (fireRoute_visits e x p s)

/-- While its head is leaving, no route starts a capture at a lane (R52, log 28). -/
theorem raiseLeaving_tried (e : EventKind) (l : Lane) (s : State) : StartTried ok l s (raiseLeaving e l s) := by
  unfold raiseLeaving
  generalize s.routes.routes = table
  induction table generalizing s with
  | nil => exact .refl ok l s
  | cons p table ih =>
    refine StartTried.trans ?_ (ih _)
    unfold fireRouteLeaving
    split
    · exact .of_same rfl rfl
    · rename_i hnot
      by_cases hfires : p.2.fires e (some l.num) = true
      · refine fireRoute_tried e _ p fun ⟨_, ht, hi⟩ => absurd ?_ hnot
        simp [hfires, Route.startsCapture, ht, hi]
      · rw [fireRoute, if_neg hfires]
        exact .refl ok l s

end RouteStarts

/-! ### The routes' outcomes (R158) -/

section Outcomes

variable {s t u : State} {e : EventKind} {x : Option Nat}

/-- The routes are the same but for their outcomes, and none that has an outcome loses it. -/
def OutcomesGrow (s t : State) : Prop := ∀ q ∈ t.routes.routes, ∃ p ∈ s.routes.routes, p.1 = q.1
  ∧ q.2 = { p.2 with outcome := q.2.outcome } ∧ (p.2.outcome ≠ .none → q.2.outcome ≠ .none)

theorem OutcomesGrow.of_routes (h : t.routes.routes = s.routes.routes) : OutcomesGrow s t := fun q hq =>
  ⟨q, h ▸ hq, rfl, rfl, id⟩

theorem OutcomesGrow.refl (s : State) : OutcomesGrow s s := .of_routes rfl

theorem OutcomesGrow.trans (h : OutcomesGrow s t) (g : OutcomesGrow t u) : OutcomesGrow s u := fun r hr => by
  obtain ⟨q, hq, hqr, heq, hkept⟩ := g r hr
  obtain ⟨p, hp, hpq, hep, hkept'⟩ := h q hq
  refine ⟨p, hp, hpq.trans hqr, ?_, fun hne => hkept (hkept' hne)⟩
  rw [heq, hep]

theorem OutcomesGrow.of_work {l : Lane} (h : LaneWork l s t) : OutcomesGrow s t :=
  .of_routes (congrArg RouteUnit.routes h.routes)

theorem recorded_ne_none (b : Bool) : (if b then RouteOutcome.taken else RouteOutcome.refused) ≠ .none := by
  cases b <;> decide

theorem setOutcome_grows (i : Nat) (b : Bool) (s : State) : OutcomesGrow s (setOutcome i b s) := fun q hq => by
  obtain ⟨p, hp, rfl⟩ := List.mem_map.1 hq
  refine ⟨p, hp, ?_⟩
  split
  · exact ⟨rfl, rfl, fun _ => recorded_ne_none b⟩
  · exact ⟨rfl, rfl, id⟩

/-- A route whose outcome is recorded has one. -/
theorem setOutcome_outcome {i : Nat} {b : Bool} {q : Nat × Route} (hq : q ∈ (setOutcome i b s).routes.routes)
    (hi : q.1 = i) : q.2.outcome ≠ .none := by
  obtain ⟨p, -, rfl⟩ := List.mem_map.1 hq
  split at hi
  · rename_i hp
    rw [if_pos hp]
    exact recorded_ne_none b
  · exact absurd hi ‹_›

theorem onTaskLane_routes {i : Nat} {f : Lane → State → Bool × State} (hf : ∀ k, (f k s).2.routes = s.routes) :
    (onTaskLane i s f).2.routes = s.routes := by
  unfold onTaskLane
  split
  · rfl
  · exact hf _

/-- A task leaves the route table alone (R158). -/
theorem takeTask_routes (task : TaskKind) (i : Nat) (s : State) :
    (takeTask task i s).2.routes.routes = s.routes.routes := by
  have light : ∀ y k, (lightTask y k s).2.routes = s.routes := fun y k => by
    unfold lightTask
    split <;> rfl
  have barrier : ∀ (request : Lane → State → State), (∀ k s, (request k s).routes = s.routes) →
      ∀ k, (barrierTask request k s).2.routes = s.routes := fun request hr k => by
    unfold barrierTask
    split
    · exact hr k s
    · rfl
  have start : ∀ k, (startCaptureTask k s).2.routes = s.routes := fun k => by
    unfold startCaptureTask
    split
    · split
      · rfl
      · rename_i n _
        split
        · exact ((startForHead_laneOp k n).works s).routes
        · rfl
    · rfl
  cases task with
  | outputSet | outputClear | outputPulse => rfl
  | lightRed | lightGreen => exact congrArg RouteUnit.routes (onTaskLane_routes fun k => light _ k)
  | barrierRaise => exact congrArg RouteUnit.routes (onTaskLane_routes fun k => barrier raiseRequest (fun _ _ => rfl) k)
  | barrierLower => exact congrArg RouteUnit.routes (onTaskLane_routes fun k => barrier lowerRequest (fun _ _ => rfl) k)
  | startCapture => exact congrArg RouteUnit.routes (onTaskLane_routes start)
  | notice =>
    unfold takeTask
    dsimp only
    split <;> rfl

theorem fireRoute_grows (e : EventKind) (x : Option Nat) (s : State) (p : Nat × Route) :
    OutcomesGrow s (fireRoute e x s p) := by
  rw [fireRoute_eq]
  split
  · exact (OutcomesGrow.of_routes (takeTask_routes p.2.task p.2.taskIndex s)).trans (setOutcome_grows _ _ _)
  · exact .refl s

/-- A route that matches the event has an outcome once it has fired. -/
theorem fireRoute_outcome {p q : Nat × Route} (hp : p.2.Matches e x) (hq : q ∈ (fireRoute e x s p).routes.routes)
    (hi : q.1 = p.1) : q.2.outcome ≠ .none := by
  rw [fireRoute_eq, if_pos hp] at hq
  exact setOutcome_outcome hq hi

theorem fireRouteLeaving_grows (l : Lane) (e : EventKind) (x : Option Nat) (s : State) (p : Nat × Route) :
    OutcomesGrow s (fireRouteLeaving l e x s p) := by
  unfold fireRouteLeaving
  split
  · exact setOutcome_grows _ _ s
  · exact fireRoute_grows e x s p

theorem fireRouteLeaving_outcome {l : Lane} {p q : Nat × Route} (hp : p.2.Matches e x)
    (hq : q ∈ (fireRouteLeaving l e x s p).routes.routes) (hi : q.1 = p.1) : q.2.outcome ≠ .none := by
  unfold fireRouteLeaving at hq
  split at hq
  · exact setOutcome_outcome hq hi
  · exact fireRoute_outcome hp hq hi

/-- One route after another leaves every outcome that there is. -/
theorem OutcomesGrow.foldl {fire : State → Nat × Route → State} (hgrow : ∀ s p, OutcomesGrow s (fire s p))
    (table : Table Route) (s : State) : OutcomesGrow s (table.foldl fire s) := by
  induction table generalizing s with
  | nil => exact .refl s
  | cons p table ih => exact (hgrow s p).trans (ih _)

/-- One route after another: every one that matches has an outcome at the end. -/
theorem foldl_outcome {fire : State → Nat × Route → State} (hgrow : ∀ s p, OutcomesGrow s (fire s p))
    (hfire : ∀ (s : State) (p q : Nat × Route), p.2.Matches e x → q ∈ (fire s p).routes.routes → q.1 = p.1 →
      q.2.outcome ≠ .none)
    {table : Table Route} {p q : Nat × Route} (hp : p ∈ table) (hmatch : p.2.Matches e x)
    (hq : q ∈ (table.foldl fire s).routes.routes) (hi : q.1 = p.1) : q.2.outcome ≠ .none := by
  induction table generalizing s with
  | nil => cases hp
  | cons r table ih =>
    rcases List.mem_cons.1 hp with rfl | hp
    · obtain ⟨r, hr, hri, -, hkept⟩ := OutcomesGrow.foldl hgrow table (fire s p) q hq
      exact hkept (hfire s p r hmatch hr (hri.trans hi))
    · exact ih hp hq

/-- Every route that matches an event has an outcome. -/
def Fired (e : EventKind) (x : Option Nat) (s : State) : Prop :=
  ∀ q ∈ s.routes.routes, q.2.Matches e x → q.2.outcome ≠ .none

theorem Fired.grows (h : Fired e x s) (g : OutcomesGrow s t) : Fired e x t := fun q hq hmatch => by
  obtain ⟨p, hp, -, heq, hkept⟩ := g q hq
  refine hkept (h p hp ?_)
  rw [heq] at hmatch
  exact hmatch

/-- The route table through every route in turn leaves each that matches with an outcome. -/
theorem foldl_fired {fire : State → Nat × Route → State} (hgrow : ∀ s p, OutcomesGrow s (fire s p))
    (hfire : ∀ (s : State) (p q : Nat × Route), p.2.Matches e x → q ∈ (fire s p).routes.routes → q.1 = p.1 →
      q.2.outcome ≠ .none) (s : State) : Fired e x (s.routes.routes.foldl fire s) := fun q hq hmatch => by
  obtain ⟨p, hp, hi, heq, -⟩ := OutcomesGrow.foldl hgrow _ s q hq
  rw [heq] at hmatch
  exact foldl_outcome hgrow hfire hp hmatch hq hi.symm

theorem raiseEvent_grows (e : EventKind) (x : Option Nat) (s : State) : OutcomesGrow s (raiseEvent e x s) :=
  .foldl (fireRoute_grows e x) _ s
theorem raiseLeaving_fired (e : EventKind) (l : Lane) (s : State) : Fired e (some l.num) (raiseLeaving e l s) :=
  foldl_fired (fireRouteLeaving_grows l e _) (fun _ _ _ hp hq hi => fireRouteLeaving_outcome hp hq hi) s

theorem handHead_grows (l : Lane) (b : Bool) (s : State) : OutcomesGrow s (handHead l b s) :=
  .of_work ((handHead_laneOp l b).works s)

end Outcomes

end Sys2Proof.Machine

/-! PROOFS, 03_visits (R22, R23, R46, R51). A head that leaves its queue with a capture in flight, and RELEASE. -/

namespace Sys2Proof.Machine
open Sys2Proof

/-! ### What follows the end of a capture at a lane (R22, R23) -/

section Moved

variable {s t u : State} {l : Lane} {n : Nat} {v : Visit} {pl : LanePlace} {ok : Nat → Prop}

/-- Attempts at a start for visits that `ok` admits, with the lane's parameters, every outcome and every notice kept. -/
structure Moved (ok : Nat → Prop) (l : Lane) (s t : State) : Prop where
  tried : StartTried ok l s t
  params : (t.lane l).params = (s.lane l).params
  outcomes : OutcomesGrow s t
  notices : NoticesGrow s t

theorem Moved.trans (h : Moved ok l s t) (g : Moved ok l t u) : Moved ok l s u :=
  ⟨h.tried.trans g.tried, g.params.trans h.params, h.outcomes.trans g.outcomes, h.notices.trans g.notices⟩

/-- Where lanes, decks, routes and ports stand, nothing has moved. -/
theorem Moved.of_same (hl : t.lane l = s.lane l) (hd : t.deck l = s.deck l) (hr : t.routes = s.routes)
    (hp : t.ports = s.ports) : Moved ok l s t :=
  ⟨.of_same (by rw [hd]) (by rw [hl]), by rw [hl], .of_routes (by rw [hr]), .of_ports hp⟩

theorem Moved.refl (ok : Nat → Prop) (l : Lane) (s : State) : Moved ok l s s := .of_same rfl rfl rfl rfl

theorem raiseNotice_moved (x : Notice) (p : PortId) (s : State) : Moved ok l s (raiseNotice x p s) :=
  ⟨.of_same rfl rfl, rfl, .of_routes rfl, raiseNotice_grows x p s⟩

theorem setResult_moved (p : PortId) (c : Byte) (r : Result) (s : State) :
    Moved ok l s (setResult p c r ReplyData.zero s) :=
  ⟨.of_same rfl rfl, rfl, .of_routes rfl, setResult_grows p c r ReplyData.zero s⟩

theorem syncUnannounced_moved (l : Lane) (s : State) : Moved ok l s (syncUnannounced l s) := by
  have hwork := (syncUnannounced_laneOp l).works s
  refine ⟨?_, ?_, .of_work hwork, .of_ports hwork.ports⟩
  · rw [syncUnannounced, setUnannounced]
    exact .of_modSeq l _
  · rw [syncUnannounced, setUnannounced, State.modSeq, modLane_lane]

/-- A head handed to a lane is for auto-capture only where `ok` admits it. -/
def HandOk (ok : Nat → Prop) (l : Lane) (s : State) : Prop :=
  (s.lane l).params.mode = .auto → AutoOk ok l (keepHead l s)

theorem handHead_moved (h : HandOk ok l s) (fresh : Bool) : Moved ok l s (handHead l fresh s) := by
  have hwork := (handHead_laneOp l fresh).works s
  have hparams := congrArg LaneUnit.params (lane_of_outsideYard (handHead_outsideYard s l fresh) l)
  refine ⟨?_, hparams, handHead_grows l fresh s, .of_ports hwork.ports⟩
  by_cases hmode : (s.lane l).params.mode = .auto
  · exact handHead_tried (h hmode) fresh
  · exact handHead_untried hmode fresh

/-- Without auto-capture in AUTO, no hand-over tries a capture. -/
theorem handOk_of_params (h : (s.lane l).params.mode = .auto → (s.lane l).params.autoCapture ≠ true) : HandOk ok l s := by
  intro hmode hauto
  rw [keepHead, State.modSeq, modLane_lane] at hauto
  exact absurd hauto (h hmode)

theorem presentHead_mem {st : VisitState} (h : presentHead s l = some (n, st)) : ∃ slot, (slot, n) ∈ queueOf s l := by
  obtain ⟨v, hv, heq⟩ := Option.map_eq_some_iff.1 h
  cases heq
  unfold headVisit at hv
  split at hv
  · cases hv
  · rename_i slot m _ hq
    exact ⟨slot, by rw [hq, number_of_findVisit hv]; exact List.mem_cons_self⟩

theorem mem_of_isHead (h : isHead s l n = true) : ∃ slot, (slot, n) ∈ queueOf s l := by
  unfold isHead at h
  split at h
  · cases h
  · rename_i slot m _ hq
    obtain rfl := of_decide_eq_true h
    exact ⟨slot, by rw [hq]; exact List.mem_cons_self⟩

/-- A visit that is in no place of the queue is not its head to be handed. -/
theorem handOk_of_absent (h : ∀ slot, (slot, n) ∉ queueOf s l) : HandOk (· ≠ n) l s := by
  intro _ _ _ m hm hmn
  subst hmn
  rw [headNumber, keepHead, State.modSeq, modLane_lane] at hm
  obtain ⟨⟨k, st⟩, hhead, rfl⟩ := Option.map_eq_some_iff.1 hm
  obtain ⟨slot, hslot⟩ := presentHead_mem hhead
  exact h slot hslot

theorem routeOk_of_absent (h : ∀ slot, (slot, n) ∉ queueOf s l) : RouteOk (· ≠ n) l s := by
  intro _ _ m hm hmn
  subst hmn
  obtain ⟨slot, hslot⟩ := mem_of_isHead hm
  exact h slot hslot

/-- A departure moves what its end and the hand-over of the next head do (R46). -/
theorem depart_moved {f : State → State} (hv : findVisit s n = some v) (hplace : v.place = some pl)
    (hf : Moved ok pl.lane (freePlace pl n s) (f (freePlace pl n s))) (hok : HandOk ok pl.lane (f (freePlace pl n s))) :
    Moved ok pl.lane s (depart n f s) := by
  have freed : Moved ok pl.lane s (freePlace pl n s) := .of_same rfl rfl rfl rfl
  have finished := freed.trans hf
  unfold depart
  rw [hv]
  dsimp only
  rw [hplace]
  dsimp only
  split
  · exact (finished.trans (handHead_moved hok true)).trans (syncUnannounced_moved _ _)
  · exact finished.trans (syncUnannounced_moved _ _)

theorem depart_visits {f : State → State} (hv : findVisit s n = some v) (hplace : v.place = some pl) :
    (depart n f s).visits = (f (freePlace pl n s)).visits := by
  unfold depart
  rw [hv]
  dsimp only
  rw [hplace]
  dsimp only
  split
  · exact handHead_visits _ _ _
  · rfl

theorem depart_portsKept {f : State → State} (hf : ∀ x, PortsKept x (f x)) (n : Nat) (s : State) :
    PortsKept s (depart n f s) := by
  have handed : ∀ (l : Lane) (x : State), PortsKept x (syncUnannounced l (handHead l true x)) := fun l x =>
    .of_ports (((handHead_laneOp l true).comp (.id l)).works x).ports
  unfold depart
  split
  · exact .refl s
  · split
    · exact hf s
    · rename_i pl _
      have finished : PortsKept s (f (freePlace pl n s)) := (PortsKept.of_ports rfl).trans (hf _)
      dsimp only
      split
      · exact finished.trans (handed _ _)
      · exact finished.trans (.of_ports rfl)

/-- Nobody else is in the queue's places than before, and the one that has left is in none. -/
theorem freePlace_absent (pl : LanePlace) (n : Nat) (s : State) (slot : Slot) :
    (slot, n) ∉ queueOf (freePlace pl n s) pl.lane := by
  rw [freePlace_queueOf, if_pos rfl]
  simp

end Moved

/-! ### A capture that ends as its head leaves (R22, R23) -/

section Leaving

variable {s t : State} {l : Lane} {n : Nat} {r : CaptureReason}

theorem endCaptureLeaving_of_some (h : (s.deck l).capture ≠ none) (r : CaptureReason) :
    endCaptureLeaving l r s = raiseLaneOffice .capture l (raiseLeaving .captureFailed l (captureDropped l r s)) := by
  unfold endCaptureLeaving endCaptureBy
  split
  · exact absurd ‹_› h
  · rfl

/-- A capture has ended FAILED at a lane whose head is still in its queue: none is in flight, the report and the notices show
it, and its routes have fired. -/
structure CaptureGone (l : Lane) (r : CaptureReason) (s t : State) : Prop where
  capture : (t.deck l).capture = none
  report : (t.lane l).report.lastCapture = .failed r
  fired : Fired .captureFailed (some l.num) t
  atLane : Noticed t .capture (.lane l)
  atOffice : Noticed t .capture .office
  params : (t.lane l).params = (s.lane l).params
  outcomes : OutcomesGrow s t

theorem endCaptureLeaving_gone (h : (s.deck l).capture ≠ none) (r : CaptureReason) :
    CaptureGone l r s (endCaptureLeaving l r s) := by
  have hdropped := captureDropped_deck h r
  have hraised := (raiseLeaving_tried (ok := fun _ => False) .captureFailed l (captureDropped l r s)).same
  have hparams := congrArg LaneUnit.params (lane_of_outsideYard (endCaptureLeaving_outsideYard s l r) l)
  obtain ⟨hlane, hoffice⟩ := noticed_raiseLaneOffice .capture l (raiseLeaving .captureFailed l (captureDropped l r s))
  rw [endCaptureLeaving_of_some h] at hparams ⊢
  exact
    { capture := hraised.1.trans (by rw [hdropped])
      report := hraised.2.trans (captureDropped_report l r s)
      fired := raiseLeaving_fired .captureFailed l _
      atLane := hlane
      atOffice := hoffice
      params := hparams
      outcomes := (OutcomesGrow.of_work (captureDropped_works l r s)).trans
        ((OutcomesGrow.foldl (fireRouteLeaving_grows l _ _) _ _).trans (.of_routes rfl)) }

/-- An AUTO lane that tries a capture for a next head: by auto-capture, or by a route that starts one there (R101, R161). -/
def Tries (s : State) (l : Lane) : Prop :=
  (s.lane l).params.mode = .auto ∧ ((s.lane l).params.autoCapture = true ∨ ∃ q ∈ s.routes.routes, Starts l q.2)

theorem not_starts_of_grows (h : OutcomesGrow s t) (hs : ¬ ∃ q ∈ s.routes.routes, Starts l q.2) :
    ¬ ∃ q ∈ t.routes.routes, Starts l q.2 := fun ⟨q, hq, hstarts⟩ => by
  obtain ⟨p, hp, -, heq, -⟩ := h q hq
  rw [heq] at hstarts
  exact hs ⟨p, hp, hstarts⟩

theorem not_tries_of_grows (h : OutcomesGrow s t) (hp : (t.lane l).params = (s.lane l).params) (hs : ¬ Tries s l) :
    ¬ Tries t l := by
  unfold Tries at *
  rw [hp]
  push Not at hs ⊢
  intro hmode
  obtain ⟨hauto, hroutes⟩ := hs hmode
  refine ⟨hauto, fun q hq hstarts => not_starts_of_grows h ?_ ⟨q, hq, hstarts⟩⟩
  exact fun ⟨p, hp, hps⟩ => hroutes p hp hps

theorem handOk_of_not_tries {ok : Nat → Prop} (h : ¬ Tries s l) : HandOk ok l s :=
  handOk_of_params fun hmode hauto => h ⟨hmode, .inl hauto⟩

theorem routeOk_of_not_tries {ok : Nat → Prop} (h : ¬ Tries s l) (hs : ∃ q ∈ s.routes.routes, Starts l q.2) :
    RouteOk ok l s := fun hmode _ _ _ => absurd ⟨hmode, .inr hs⟩ h

/-- A head's capture has ended, from what the step does after it. -/
theorem captureEnded {x : State} (hgone : CaptureGone l r s x) (hmoved : Moved (· ≠ n) l x t)
    (hstill : ¬ Tries x l → Moved (fun _ => False) l x t) : CaptureEnded l n r s t := by
  refine ⟨fun c hc => ?_, ?_, fun htries => ?_, hgone.fired.grows hmoved.outcomes, hmoved.notices _ _ hgone.atLane,
    hmoved.notices _ _ hgone.atOffice⟩
  · rcases hmoved.tried.capture with hsame | ⟨c', hc', hne⟩
    · rw [hc, hgone.capture] at hsame
      cases hsame
    · rw [hc] at hc'
      cases hc'
      exact hne
  · exact hmoved.tried.report.imp (fun hsame => hsame.trans hgone.report) fun h => h.2
  · have hnot : ¬ Tries s l := htries
    obtain ⟨hcapture, hreport⟩ := (hstill (not_tries_of_grows hgone.outcomes hgone.params hnot)).tried.same
    exact ⟨hcapture.trans hgone.capture, hreport.trans hgone.report⟩

end Leaving

end Sys2Proof.Machine

/-! ### RELEASE (R46, R51) -/

namespace Sys2Proof.Machine
open Sys2Proof

section Release

variable {s : State} {p : PortId} {l : Lane} {n : Nat} {v : Visit} {pl : LanePlace}

/-- The visit that a lane command names is in the lane's queue (R47, R48). -/
theorem mem_of_visitOf {ref : BitVec 16} (h : visitOf s p l ref = .ok n) : ∃ slot, (slot, n) ∈ queueOf s l := by
  unfold visitOf at h
  split at h
  · unfold translateHandle at h
    split at h
    · cases h
    · split at h
      · cases h
      · split at h
        · cases h
        · rename_i slot m hfind
          split at h
          · cases h
            exact ⟨slot, List.mem_of_find?_eq_some hfind⟩
          · cases h
  · split at h
    · cases h
    · rename_i v _
      split at h
      · rename_i hany
        cases h
        obtain ⟨m, hm, heq⟩ := List.any_eq_true.1 hany
        exact ⟨m.1, by rw [← of_decide_eq_true heq]; exact hm⟩
      · cases h

/-- A visit in a lane's queue is at that lane. -/
theorem VisitsOk.lane_of_mem (hs : VisitsOk s) (hv : findVisit s n = some v) (hplace : v.place = some pl) {slot : Slot}
    (h : (slot, n) ∈ queueOf s l) : pl.lane = l := by
  obtain ⟨x, hx, hlane, -⟩ := (hs.mem_queue_iff hv l slot).1 h
  rw [hplace] at hx
  cases hx
  exact hlane

/-- The end of a release: what becomes of the visit by its state (R51). -/
def releaseEnd (a : ReleaseAction) (n : Nat) (s : State) : State :=
  match a with
  | .removed => removeVisit n s
  | .backOnSite => modVisit n (fun v => { v with state := .firstWeighed }) s
  | .onSite | .refused => s

/-- A head's capture is given up before its release (R22). -/
def beforeRelease (l : Lane) (n : Nat) (s : State) : State :=
  if isHead s l n then endCaptureLeaving l .abandoned s else s

theorem beforeRelease_outsideYard (l : Lane) (n : Nat) (s : State) :
    (beforeRelease l n s).outsideYard = s.outsideYard := by
  unfold beforeRelease
  split
  · exact endCaptureLeaving_outsideYard s l _
  · rfl

theorem beforeRelease_findVisit (l : Lane) (n m : Nat) (s : State) :
    findVisit (beforeRelease l n s) m = findVisit s m :=
  findVisit_congr (visits_of_outsideYard (beforeRelease_outsideYard l n s)) m

theorem releaseVisit_eq (hv : findVisit s n = some v) : releaseVisit l n s =
    if releaseAction v.state = .refused then (.state, beforeRelease l n s)
    else (.done, depart n (releaseEnd (releaseAction v.state) n) (beforeRelease l n s)) := by
  have hfound := (beforeRelease_findVisit l n n s).trans hv
  unfold beforeRelease at hfound ⊢
  unfold releaseVisit
  dsimp only
  rw [hfound]
  dsimp only
  cases releaseAction v.state <;> rfl

theorem releaseAction_refused {st : VisitState} :
    releaseAction st = .refused ↔ st = .awaitingTicket ∨ st = .disputed ∨ st = .ticketed := by
  cases st <;> decide

/-- The end of a release leaves lanes, decks, routes, ports and queues alone. -/
theorem releaseEnd_moved {ok : Nat → Prop} (a : ReleaseAction) (n : Nat) (k : Lane) (s : State) :
    Moved ok k s (releaseEnd a n s) := by
  cases a <;> exact .of_same rfl rfl rfl rfl

theorem releaseEnd_queues (a : ReleaseAction) (n : Nat) (s : State) :
    (releaseEnd a n s).visits.queues = s.visits.queues := by
  cases a <;> rfl

theorem releaseEnd_hide {ps : List Part} (hv : .visits ∈ ps) (a : ReleaseAction) (n : Nat) (s : State) :
    (releaseEnd a n s).hide ps = s.hide ps := by
  cases a with
  | removed => exact removeVisit_hide hv n
  | backOnSite => exact modVisit_hide hv n _
  | onSite | refused => rfl

/-- What a release makes of the visit it names (R51). -/
theorem releaseEnd_findVisit_self (hv : findVisit s n = some v) (h : releaseAction v.state ≠ .refused) :
    findVisit (releaseEnd (releaseAction v.state) n (freePlace pl n s)) n =
      if v.state = .announced ∨ v.state = .refused then none
      else some { v with place := none, state := if v.state = .attached then .firstWeighed else v.state } := by
  have freed : findVisit (freePlace pl n s) n = some { v with place := none } := by
    rw [freePlace_findVisit, if_pos rfl, hv]
    rfl
  cases hstate : v.state with
  | announced | refused => exact (findVisit_removeVisit _ n n).trans (if_pos rfl)
  | attached =>
    show findVisit (modVisit n (fun v => { v with state := .firstWeighed }) _) n = _
    rw [findVisit_modVisit (f := fun v => { v with state := .firstWeighed }) fun _ => rfl, if_pos rfl, freed]
    rfl
  | firstWeighed | ticketedOnSite => exact freed.trans (by simp [hstate])
  | awaitingTicket | disputed | ticketed => exact absurd (by rw [hstate]; rfl) h

theorem releaseEnd_findVisit_of_ne {a : ReleaseAction} {m : Nat} (h : m ≠ n) :
    findVisit (releaseEnd a n (freePlace pl n s)) m = findVisit s m := by
  have freed : findVisit (freePlace pl n s) m = findVisit s m := by rw [freePlace_findVisit, if_neg h]
  cases a with
  | removed => exact (findVisit_removeVisit _ n m).trans ((if_neg h).trans freed)
  | backOnSite =>
    refine (findVisit_modVisit (f := fun v => { v with state := .firstWeighed }) (fun _ => rfl) _ n m).trans ?_
    exact (if_neg h).trans freed
  | onSite | refused => exact freed

/-- RELEASE of a visit at its lane is `releaseVisit` there. -/
theorem exec_release {b : Byte} {ref : BitVec 16} (h : Takes s p) (hb : laneBytePermitted p b = true)
    (hl : laneOf p b = some l) (hn : visitOf s p l ref = .ok n) (hv : findVisit s n = some v) :
    exec (.release p b ref) s = .next (if releaseAction v.state = .refused then
        setResult p 0x32#8 .state ReplyData.zero (beforeRelease l n (beginExchange p s))
      else setResult p 0x32#8 .done ReplyData.zero
        (depart n (releaseEnd (releaseAction v.state) n) (beforeRelease l n (beginExchange p s)))) := by
  have hbody := releaseVisit_eq (l := l) (s := beginExchange p s) hv
  refine (command_of_takes h 0x32#8 hb _).trans ?_
  rw [hl]
  dsimp only
  rw [show visitOf (beginExchange p s) p l ref = .ok n from (visitOf_modPort s p p l ref _).trans hn]
  dsimp only
  rw [hbody]
  split <;> rfl

/-- What follows the end of a capture in a release (R51). -/
theorem release_moved {ok : Nat → Prop} {x : State} (hv : findVisit x n = some v) (hplace : v.place = some pl)
    (a : ReleaseAction) (hok : HandOk ok pl.lane (releaseEnd a n (freePlace pl n x))) :
    Moved ok pl.lane x (depart n (releaseEnd a n) x) :=
  depart_moved hv hplace (releaseEnd_moved a n pl.lane _) hok

theorem releaseEnd_handOk (a : ReleaseAction) (pl : LanePlace) (n : Nat) (x : State) :
    HandOk (· ≠ n) pl.lane (releaseEnd a n (freePlace pl n x)) := by
  refine handOk_of_absent fun slot => ?_
  rw [queueOf, releaseEnd_queues]
  exact freePlace_absent pl n x slot

theorem releaseEnd_handOk_of_not_tries {ok : Nat → Prop} {x : State} (h : ¬ Tries x pl.lane) (a : ReleaseAction) (n : Nat) :
    HandOk ok pl.lane (releaseEnd a n (freePlace pl n x)) := by
  have ended : Moved ok pl.lane x (releaseEnd a n (freePlace pl n x)) :=
    (Moved.of_same rfl rfl rfl rfl : Moved ok pl.lane x (freePlace pl n x)).trans (releaseEnd_moved a n pl.lane _)
  exact handOk_of_not_tries (not_tries_of_grows ended.outcomes ended.params h)

/-- Settles O34: the capture of a named head ends first; then the visit leaves its place and `releaseEnd` is done. -/
theorem releaseTakesAVisitOffItsLane : Obligations.ReleaseTakesAVisitOffItsLane := by
  intro s p b ref l n v pl hs htakes hb hl hn hv hplace
  obtain ⟨slot, hslot⟩ := mem_of_visitOf hn
  obtain rfl := hs.lane_of_mem hv hplace hslot
  have hexec := exec_release htakes hb hl hn hv
  have hyard := beforeRelease_outsideYard pl.lane n (beginExchange p s)
  have hvisits : (beforeRelease pl.lane n (beginExchange p s)).visits = s.visits :=
    visits_of_outsideYard (s := beginExchange p s) hyard
  have hfound : findVisit (beforeRelease pl.lane n (beginExchange p s)) n = some v := (findVisit_congr hvisits n).trans hv
  have hbefore : KeepsAllBut yardParts s (beforeRelease pl.lane n (beginExchange p s)) :=
    (hide_of_yard (fun _ h => h) hyard).trans (beginExchange_hide (by decide) p s)
  refine ⟨fun h1 h2 h3 => ?_, fun hrefused => ?_, fun hhead hcapture => ?_⟩
  · have hdone : releaseAction v.state ≠ .refused := fun h => by
      rcases releaseAction_refused.1 h with h | h | h
      exacts [h1 h, h2 h, h3 h]
    rw [if_neg hdone] at hexec
    have hdepart := depart_visits (f := releaseEnd (releaseAction v.state) n) hfound hplace
    have hqueues : ∀ k, queueOf (setResult p 0x32#8 .done ReplyData.zero (depart n (releaseEnd (releaseAction v.state) n)
        (beforeRelease pl.lane n (beginExchange p s)))) k =
        queueOf (freePlace pl n (beforeRelease pl.lane n (beginExchange p s))) k := fun k => by
      rw [queueOf, setResult_visits, hdepart, releaseEnd_queues]
      rfl
    refine ⟨_, hexec, PortsKept.answered ((PortsKept.of_outsideYard hyard).trans (depart_portsKept (fun x => ?_) n _)) _ _,
      ?_, fun m hm => ?_, ?_, fun k hk => ?_, ?_, ?_⟩
    · cases releaseAction v.state <;> exact .of_ports rfl
    · exact (findVisit_congr hdepart n).trans (releaseEnd_findVisit_self hfound hdone)
    · exact (findVisit_congr hdepart m).trans ((releaseEnd_findVisit_of_ne hm).trans (findVisit_congr hvisits m))
    · rw [hqueues, freePlace_queueOf, if_pos rfl, queueOf_congr hvisits]
    · rw [hqueues, freePlace_queueOf, if_neg hk, queueOf_congr hvisits]
    · rw [setResult_visits, hdepart, releaseEnd_queues, freePlace_generations, if_pos rfl, hvisits]
    · refine (setResult_hide (by decide) _ _ _ _ _).trans ((depart_hide (fun _ h => List.mem_cons_of_mem _ h) (by decide) n _
        fun x => releaseEnd_hide (by decide) _ n x).trans ?_)
      exact hbefore.mono fun _ h => List.mem_cons_of_mem _ h
  · rw [if_pos (releaseAction_refused.2 hrefused)] at hexec
    exact ⟨_, hexec, (PortsKept.of_outsideYard hyard).answered _ _, (setResult_hide (by decide) _ _ _ _ _).trans hbefore⟩
  · have hgone : CaptureGone pl.lane .abandoned (beginExchange p s) (beforeRelease pl.lane n (beginExchange p s)) := by
      rw [beforeRelease, if_pos (show isHead (beginExchange p s) pl.lane n = true from hhead)]
      exact endCaptureLeaving_gone (s := beginExchange p s) hcapture .abandoned
    refine ⟨_, hexec, ?_⟩
    split
    · exact captureEnded (s := beginExchange p s) hgone (setResult_moved _ _ _ _) fun _ => setResult_moved _ _ _ _
    · exact captureEnded (s := beginExchange p s) hgone
        ((release_moved hfound hplace _ (releaseEnd_handOk _ pl n _)).trans (setResult_moved _ _ _ _))
        fun hnot => (release_moved hfound hplace _ (releaseEnd_handOk_of_not_tries hnot _ n)).trans (setResult_moved _ _ _ _)

end Release

end Sys2Proof.Machine

/-! PROOFS, 03_visits (R62, R84, R133). VOID VISIT. -/

namespace Sys2Proof.Machine
open Sys2Proof

/-! ### A departure up to the lane's sequencer (R46) -/

section Departures

variable {s : State} {n : Nat} {v : Visit}

/-- The visit's place, if it has one, is free. -/
def leavePlace (place : Option LanePlace) (n : Nat) (s : State) : State :=
  match place with
  | none => s
  | some pl => freePlace pl n s

theorem depart_outsideYard {f : State → State} (hv : findVisit s n = some v) :
    (depart n f s).outsideYard = (f (leavePlace v.place n s)).outsideYard := by
  unfold depart
  rw [hv]
  dsimp only
  cases v.place with
  | none => rfl
  | some pl =>
    dsimp only [leavePlace]
    split <;> simp

theorem depart_ports {f : State → State} (hv : findVisit s n = some v) :
    (depart n f s).ports = (f (leavePlace v.place n s)).ports := by
  unfold depart
  rw [hv]
  dsimp only
  cases v.place with
  | none => rfl
  | some pl =>
    dsimp only [leavePlace]
    split
    · exact (((syncUnannounced_laneOp _).comp (handHead_laneOp pl.lane true)).works _).ports
    · rfl

theorem leavePlace_findVisit_of_ne (place : Option LanePlace) {m : Nat} (h : m ≠ n) (s : State) :
    findVisit (leavePlace place n s) m = findVisit s m := by
  cases place with
  | none => rfl
  | some pl => exact (freePlace_findVisit pl n s m).trans (if_neg h)

end Departures

/-! ### An append among the lanes (R131, R134) -/

section Appended

variable {s : State} {l : Lane} {ok : Nat → Prop}

theorem raiseEvent_moved (e : EventKind) (x : Option Nat) (h : (∃ q ∈ s.routes.routes, Starts l q.2) → RouteOk ok l s) :
    Moved ok l s (raiseEvent e x s) :=
  ⟨raiseEvent_tried e x h, (raiseEvent_aside l e x s).params, raiseEvent_grows e x s, (raiseEvent_aside l e x s).notices⟩

theorem countEvents_outsideYard (n : Nat) (s : State) : (countEvents n s).outsideYard = s.outsideYard := by
  unfold countEvents
  split
  · simp
  · split <;> simp

theorem appendEntry_moved (b : JournalBody) (h : (∃ q ∈ s.routes.routes, Starts l q.2) → RouteOk ok l s) :
    Moved ok l s (appendEntry b s) := by
  have pushed : Moved ok l s (s.setJournal (s.journal.push b)) := .of_same rfl rfl rfl rfl
  have raised : ∀ e, Moved ok l (s.setJournal (s.journal.push b))
      (raiseNotice .journal .office (raiseEvent e none (s.setJournal (s.journal.push b)))) := fun e =>
    (raiseEvent_moved (s := s.setJournal (s.journal.push b)) e none h).trans (raiseNotice_moved _ _ _)
  refine pushed.trans ?_
  show Moved ok l _ (countEvents _ (s.setJournal (s.journal.push b)))
  unfold countEvents
  split
  · exact raised _
  · split
    · exact raised _
    · exact .refl ok l _

theorem appendEntry_portsKept (b : JournalBody) (s : State) : PortsKept s (appendEntry b s) :=
  have hyard : (appendEntry b s).outsideYard = (s.setJournal (s.journal.push b)).outsideYard :=
    countEvents_outsideYard _ _
  (PortsKept.of_ports (t := s.setJournal (s.journal.push b)) rfl).trans (.of_outsideYard hyard)

theorem KeepsAllBut.allow {s t : State} {ps : List Part} (h : KeepsAllBut ps s t) (hp : .allow ∉ ps) :
    t.allow = s.allow := by
  simpa [State.hide, hp] using congrArg State.allow h
theorem KeepsAllBut.clock {s t : State} {ps : List Part} (h : KeepsAllBut ps s t) (hp : .clock ∉ ps) :
    t.clock = s.clock := by
  simpa [State.hide, hp] using congrArg State.clock h

theorem appendEntry_allow (b : JournalBody) (s : State) : (appendEntry b s).allow = s.allow :=
  KeepsAllBut.allow (ps := .journal :: yardParts)
    (appendEntry_hide (fun _ h => List.mem_cons_of_mem _ h) (by decide) b) (by decide)

end Appended

/-! ### The steps of a void (R62) -/

section VoidSteps

variable {s : State} {l : Lane} {n : Nat} {v : Visit} {pl : LanePlace} {ok : Nat → Prop} {ps : List Part}

theorem voidCapture_outsideYard (v : Visit) (s : State) : (voidCapture v s).outsideYard = s.outsideYard := by
  unfold voidCapture
  split
  · rfl
  · split
    · exact endCaptureLeaving_outsideYard s _ _
    · rfl

theorem voidHold_findVisit (hv : findVisit s n = some v) (m : Nat) :
    findVisit (voidHold v s) m = if m = n then some { v with reserve := 0 } else findVisit s m := by
  have hn := number_of_findVisit hv
  subst hn
  unfold voidHold
  split
  · rw [findVisit_modVisit (f := fun v => { v with reserve := 0 }) fun _ => rfl]
    split
    · exact congrArg (Option.map _) hv
    · rfl
  · rename_i hzero
    have hreserve : v.reserve = 0 := Nat.eq_zero_of_not_pos hzero
    split
    · rename_i h
      rw [h, hv, ← hreserve]
    · rfl

/-- Rows changed to what they are. -/
theorem modBothRows_id {f : Amounts → Amounts} (hf : ∀ a, f a = a) (n c : Nat) (s : State) :
    (modBothRows n c f s).allow = s.allow := by
  have rows : ∀ rs : List AllowanceRow,
      (rs.map fun r => if r.category = c then { r with amounts := f r.amounts } else r) = rs := fun rs => by
    refine (List.map_congr_left fun r _ => ite_eq_right_iff.2 fun _ => ?_).trans (List.map_id rs)
    rw [hf]
  have accounts : (Table.mapVals s.allow.accounts fun a =>
      if a.number = n then
        { a with rows := a.rows.map fun r => if r.category = c then { r with amounts := f r.amounts } else r }
      else a) = s.allow.accounts := by
    unfold Table.mapVals
    refine (List.map_congr_left fun p _ => ?_).trans (List.map_id _)
    exact Prod.ext rfl (ite_eq_right_iff.2 fun _ => by rw [rows])
  have caps : (s.allow.caps.map fun p => if p.1 = c then (p.1, f p.2) else p) = s.allow.caps := by
    refine (List.map_congr_left fun p _ => ite_eq_right_iff.2 fun _ => ?_).trans (List.map_id _)
    rw [hf]
  show AllowanceUnit.mk s.allow.categories _ _ s.allow.counters s.allow.yardDay = s.allow
  exact congrArg₂ (fun x y => { s.allow with accounts := x, caps := y }) accounts caps

theorem voidHold_allow (v : Visit) (s : State) : (voidHold v s).allow =
    (modBothRows v.account v.category (fun a => { a with held := a.held - v.reserve }) s).allow := by
  unfold voidHold
  split
  · rfl
  · rename_i hzero
    rw [Nat.eq_zero_of_not_pos hzero]
    exact (modBothRows_id (fun _ => rfl) _ _ _).symm

/-- Releasing the hold touches the visit and its two rows alone. -/
theorem voidHold_hide (hv : .visits ∈ ps) (ha : .allow ∈ ps) (v : Visit) (s : State) :
    (voidHold v s).hide ps = s.hide ps := by
  unfold voidHold
  split
  · exact (modVisit_hide hv _ _).trans (modBothRows_hide ha _ _ _)
  · rfl

theorem voidHold_moved (v : Visit) (l : Lane) (s : State) : Moved ok l s (voidHold v s) := by
  unfold voidHold
  split
  · exact .of_same rfl rfl rfl rfl
  · exact .refl ok l s

/-- The record and the removal, before the notices. -/
def voidAppended (v : Visit) (s : State) : State :=
  removeVisit v.number (appendEntry (.void v.number (nowStamp s) (v.place.map (·.lane))) s)

theorem voidRecord_eq (v : Visit) (s : State) : voidRecord v s = match v.place with
    | none => raiseNotice .visit .office (voidAppended v s)
    | some pl => raiseNotice .visit (.lane pl.lane) (raiseNotice .visit .office (voidAppended v s)) := by
  unfold voidRecord voidAppended
  dsimp only
  cases v.place <;> rfl

theorem voidRecord_outsideYard (v : Visit) (s : State) :
    (voidRecord v s).outsideYard = (voidAppended v s).outsideYard := by
  rw [voidRecord_eq]
  split <;> simp

theorem voidAppended_moved (v : Visit) (h : (∃ q ∈ s.routes.routes, Starts l q.2) → RouteOk ok l s) :
    Moved ok l s (voidAppended v s) :=
  (appendEntry_moved _ h).trans (.of_same rfl rfl rfl rfl)

theorem voidRecord_moved (v : Visit) (h : (∃ q ∈ s.routes.routes, Starts l q.2) → RouteOk ok l s) :
    Moved ok l s (voidRecord v s) := by
  rw [voidRecord_eq]
  split
  · exact (voidAppended_moved v h).trans (raiseNotice_moved _ _ _)
  · exact (voidAppended_moved v h).trans ((raiseNotice_moved _ _ _).trans (raiseNotice_moved _ _ _))

theorem voidRecord_portsKept (v : Visit) (s : State) : PortsKept s (voidRecord v s) :=
  have appended : PortsKept s (voidAppended v s) := (appendEntry_portsKept _ s).trans (.of_ports rfl)
  appended.trans (.of_outsideYard (voidRecord_outsideYard v s))

theorem voidRecord_hide (hy : HidesYard ps) (hv : .visits ∈ ps) (hj : .journal ∈ ps) (v : Visit) (s : State) :
    (voidRecord v s).hide ps = s.hide ps :=
  (hide_of_yard hy (voidRecord_outsideYard v s)).trans ((removeVisit_hide hv _).trans (appendEntry_hide hy hj _))

theorem journal_of_outsideYard {s t : State} (h : t.outsideYard = s.outsideYard) : t.journal = s.journal :=
  have hjournal : t.outsideYard.journal = s.outsideYard.journal := congrArg State.journal h
  hjournal

theorem allow_of_outsideYard {s t : State} (h : t.outsideYard = s.outsideYard) : t.allow = s.allow :=
  have hallow : t.outsideYard.allow = s.outsideYard.allow := congrArg State.allow h
  hallow

theorem voidRecord_journal (v : Visit) (s : State) : (voidRecord v s).journal =
    s.journal.push (.void v.number (nowStamp s) (v.place.map (·.lane))) :=
  (journal_of_outsideYard (voidRecord_outsideYard v s)).trans (appendEntry_journal _ s)

theorem voidRecord_allow (v : Visit) (s : State) : (voidRecord v s).allow = s.allow :=
  (allow_of_outsideYard (voidRecord_outsideYard v s)).trans (appendEntry_allow _ s)

theorem voidRecord_noticed (v : Visit) (s : State) : Noticed (voidRecord v s) .visit .office
    ∧ ∀ pl, v.place = some pl → Noticed (voidRecord v s) .visit (.lane pl.lane) := by
  rw [voidRecord_eq]
  cases v.place with
  | none => exact ⟨noticed_raiseNotice _ _ _, nofun⟩
  | some pl =>
    refine ⟨raiseNotice_grows _ _ _ _ _ (noticed_raiseNotice _ _ _), fun q hq => ?_⟩
    cases hq
    exact noticed_raiseNotice _ _ _

end VoidSteps

/-! ### VOID VISIT (R62) -/

section VoidVisit

variable {s : State} {n : Nat} {v : Visit} {pl : LanePlace} {ok : Nat → Prop}

theorem voidable_state (hv : findVisit s n = some v)
    (h : v.state = .awaitingTicket ∨ v.state = .ticketed ∨ v.state = .ticketedOnSite) :
    voidable s n = .error .state := by
  unfold voidable
  rw [hv]
  exact if_pos h

theorem voidable_full (hv : findVisit s n = some v)
    (h : ¬ (v.state = .awaitingTicket ∨ v.state = .ticketed ∨ v.state = .ticketedOnSite))
    (hroom : ticketRoom s.journal = false) : voidable s n = .error .full := by
  unfold voidable
  rw [hv]
  dsimp only
  rw [if_neg h, hroom]
  rfl

theorem voidable_ok (hv : findVisit s n = some v)
    (h : ¬ (v.state = .awaitingTicket ∨ v.state = .ticketed ∨ v.state = .ticketedOnSite))
    (hroom : ticketRoom s.journal = true) : voidable s n = .ok v := by
  unfold voidable
  rw [hv]
  dsimp only
  rw [if_neg h, hroom]
  rfl

/-- An accepted void up to the departure: the head's capture ended and the hold released. -/
def voidHeld (v : Visit) (s : State) : State := voidHold v (voidCapture v s)

/-- An accepted void. -/
def voidDone (n : Nat) (v : Visit) (s : State) : State := depart n (voidRecord v) (voidHeld v s)

/-- The state in which the VOID record is appended. -/
def voidLeft (n : Nat) (v : Visit) (s : State) : State := leavePlace v.place n (voidHeld v s)

theorem voidHeld_findVisit (hv : findVisit s n = some v) (m : Nat) :
    findVisit (voidHeld v s) m = if m = n then some { v with reserve := 0 } else findVisit s m := by
  have hcapture := findVisit_congr (visits_of_outsideYard (voidCapture_outsideYard v s))
  rw [voidHeld, voidHold_findVisit ((hcapture n).trans hv), hcapture]

theorem voidDone_outsideYard (hv : findVisit s n = some v) :
    (voidDone n v s).outsideYard = (voidRecord v (voidLeft n v s)).outsideYard :=
  depart_outsideYard (v := { v with reserve := 0 }) ((voidHeld_findVisit hv n).trans (if_pos rfl))

theorem voidDone_ports (hv : findVisit s n = some v) :
    (voidDone n v s).ports = (voidRecord v (voidLeft n v s)).ports :=
  depart_ports (v := { v with reserve := 0 }) ((voidHeld_findVisit hv n).trans (if_pos rfl))

theorem voidDone_findVisit (hv : findVisit s n = some v) (m : Nat) :
    findVisit (voidDone n v s) m = if m = n then none else findVisit s m := by
  have hn := number_of_findVisit hv
  have hvisits : (voidDone n v s).visits = (removeVisit n (voidLeft n v s)).visits := by
    rw [visits_of_outsideYard (voidDone_outsideYard hv), voidRecord_visits, hn]
  rw [findVisit_congr hvisits, findVisit_removeVisit]
  split
  · rfl
  · rename_i hm
    rw [voidLeft, leavePlace_findVisit_of_ne _ hm, voidHeld_findVisit hv, if_neg hm]

/-- Up to the record, a void moves the visit table, the rows and the yard. -/
theorem voidLeft_hide {ps : List Part} (hy : HidesYard ps) (hv : .visits ∈ ps) (ha : .allow ∈ ps) (n : Nat) (v : Visit)
    (s : State) : (voidLeft n v s).hide ps = s.hide ps := by
  have held : (voidHeld v s).hide ps = s.hide ps :=
    (voidHold_hide hv ha v _).trans (hide_of_yard hy (voidCapture_outsideYard v s))
  unfold voidLeft leavePlace
  split
  · exact held
  · exact ((modVisit_hide hv _ _).trans (modQueue_hide hv _ _)).trans held

theorem voidLeft_keeps (n : Nat) (v : Visit) (s : State) :
    KeepsAllBut ([.visits, .allow] ++ yardParts) s (voidLeft n v s) :=
  voidLeft_hide (by unfold HidesYard; decide) (by decide) (by decide) n v s

theorem voidDone_journal (hv : findVisit s n = some v) : (voidDone n v s).journal = s.journal.push
    (.void v.number { day := s.clock.day, second := s.clock.second } (v.place.map (·.lane))) := by
  have hjournal := (voidLeft_keeps n v s).journal (by decide)
  have hclock : (voidLeft n v s).clock = s.clock := (voidLeft_keeps n v s).clock (by decide)
  rw [journal_of_outsideYard (voidDone_outsideYard hv), voidRecord_journal, hjournal, nowStamp, hclock]

theorem voidDone_allow (hv : findVisit s n = some v) : (voidDone n v s).allow =
    (modBothRows v.account v.category (fun a => { a with held := a.held - v.reserve }) s).allow := by
  have hleft : (voidLeft n v s).allow = (voidHeld v s).allow := by
    unfold voidLeft leavePlace
    split <;> rfl
  have hcapture := allow_of_outsideYard (voidCapture_outsideYard v s)
  have hcongr : ∀ x : State, x.allow = s.allow →
      (modBothRows v.account v.category (fun a => { a with held := a.held - v.reserve }) x).allow =
      (modBothRows v.account v.category (fun a => { a with held := a.held - v.reserve }) s).allow := fun x hx => by
    simp only [modBothRows, modCap, modRow, hx]
  rw [allow_of_outsideYard (voidDone_outsideYard hv), voidRecord_allow, hleft, voidHeld, voidHold_allow, hcongr _ hcapture]

theorem voidDone_noticed (hv : findVisit s n = some v) : Noticed (voidDone n v s) .visit .office
    ∧ ∀ pl, v.place = some pl → Noticed (voidDone n v s) .visit (.lane pl.lane) := by
  have hgrows := NoticesGrow.of_ports (voidDone_ports hv)
  obtain ⟨hoffice, hlane⟩ := voidRecord_noticed v (voidLeft n v s)
  exact ⟨hgrows _ _ hoffice, fun pl hpl => hgrows _ _ (hlane pl hpl)⟩

theorem voidDone_portsKept (v : Visit) (n : Nat) (s : State) : PortsKept s (voidDone n v s) :=
  ((PortsKept.of_outsideYard (voidCapture_outsideYard v s)).trans
    (.of_hide (voidHold_hide (ps := [.visits, .allow]) (by decide) (by decide) v _) (by decide))).trans
      (depart_portsKept (voidRecord_portsKept v) n _)

theorem voidDone_keeps (v : Visit) (n : Nat) (s : State) :
    KeepsAllBut ([.visits, .allow, .journal] ++ yardParts) s (voidDone n v s) := by
  have hy : HidesYard ([.visits, .allow, .journal] ++ yardParts) := by unfold HidesYard; decide
  exact (depart_hide hy (by decide) n _ (voidRecord_hide hy (by decide) (by decide) v)).trans
    ((voidHold_hide (by decide) (by decide) v _).trans (hide_of_yard hy (voidCapture_outsideYard v s)))

/-- What follows the end of a capture in a void (R62). -/
theorem void_moved (hv : findVisit s n = some v) (hplace : v.place = some pl)
    (hroute : (∃ q ∈ (freePlace pl n (voidHeld v s)).routes.routes, Starts pl.lane q.2) →
      RouteOk ok pl.lane (freePlace pl n (voidHeld v s)))
    (hok : HandOk ok pl.lane (voidRecord v (freePlace pl n (voidHeld v s)))) :
    Moved ok pl.lane (voidCapture v s) (voidDone n v s) :=
  (voidHold_moved v pl.lane _).trans (depart_moved (v := { v with reserve := 0 })
    ((voidHeld_findVisit hv n).trans (if_pos rfl)) hplace (voidRecord_moved v hroute) hok)

theorem void_moved_other (hv : findVisit s n = some v) (hplace : v.place = some pl) :
    Moved (· ≠ n) pl.lane (voidCapture v s) (voidDone n v s) := by
  have habsent := freePlace_absent pl n (voidHeld v s)
  refine void_moved hv hplace (fun _ => routeOk_of_absent habsent) (handOk_of_absent fun slot => ?_)
  have hqueue : queueOf (voidRecord v (freePlace pl n (voidHeld v s))) pl.lane =
      queueOf (freePlace pl n (voidHeld v s)) pl.lane := queueOf_congr (voidRecord_visits v _) pl.lane
  rw [hqueue]
  exact habsent slot

theorem void_moved_none (hv : findVisit s n = some v) (hplace : v.place = some pl)
    (h : ¬ Tries (voidCapture v s) pl.lane) :
    Moved (fun _ => False) pl.lane (voidCapture v s) (voidDone n v s) := by
  have freed : Moved (fun _ => False) pl.lane (voidCapture v s) (freePlace pl n (voidHeld v s)) :=
    (voidHold_moved v pl.lane _).trans (.of_same rfl rfl rfl rfl)
  have hfree := not_tries_of_grows freed.outcomes freed.params h
  have recorded := voidRecord_moved v (routeOk_of_not_tries (ok := fun _ => False) hfree)
  exact void_moved hv hplace (routeOk_of_not_tries hfree)
    (handOk_of_not_tries (not_tries_of_grows recorded.outcomes recorded.params hfree))

theorem exec_voidVisit {n : BitVec 16} (h : Takes s .office) (hok : voidable s n.toNat = .ok v) :
    exec (.voidVisit .office n) s =
      .next (setResult .office 0x40#8 .done ReplyData.zero (voidDone n.toNat v (beginExchange .office s))) := by
  have hbody : voidVisit n.toNat (beginExchange .office s) = (.done, voidDone n.toNat v (beginExchange .office s)) := by
    unfold voidVisit
    rw [show voidable (beginExchange .office s) n.toNat = .ok v from hok]
    rfl
  refine (command_of_takes h 0x40#8 rfl _).trans ?_
  rw [hbody]

theorem exec_voidVisit_refused {n : BitVec 16} {r : Result} (h : Takes s .office) (hr : voidable s n.toNat = .error r) :
    exec (.voidVisit .office n) s = .next (s.answer .office 0x40#8 r) := by
  refine command_refused h 0x40#8 rfl ?_
  unfold voidVisit
  rw [show voidable (beginExchange .office s) n.toNat = .error r from hr]

/-- Settles O39: the refusals first; an accepted void ends the head's capture, releases the hold and departs with the
record. -/
theorem voidLeavesAVoidRecordAndNoVisit : Obligations.VoidLeavesAVoidRecordAndNoVisit := by
  intro s n v hs htakes hv ticketed
  refine ⟨fun h => exec_voidVisit_refused htakes (voidable_state hv h),
    fun h hroom => exec_voidVisit_refused htakes (voidable_full hv h hroom), fun h hroom => ?_⟩
  have hexec := exec_voidVisit htakes (voidable_ok hv h hroom)
  have hbegun : findVisit (beginExchange .office s) n.toNat = some v := hv
  have hjournal := voidDone_journal hbegun
  obtain ⟨hoffice, hlane⟩ := voidDone_noticed hbegun
  have hgrows := setResult_grows .office 0x40#8 .done ReplyData.zero (voidDone n.toNat v (beginExchange .office s))
  refine ⟨_, hexec, (voidDone_portsKept v _ _).answered _ _, (voidDone_findVisit hbegun _).trans (if_pos rfl),
    fun m hm => (voidDone_findVisit hbegun m).trans (if_neg hm), ?_, ?_, ?_, voidDone_allow hbegun, hgrows _ _ hoffice,
    fun pl hpl => hgrows _ _ (hlane pl hpl), fun pl hpl hhead hcapture => ?_, ?_⟩
  · rw [setResult_journal, hjournal]
    rfl
  · rw [setResult_journal, hjournal]
    rfl
  · rw [setResult_journal, hjournal]
    exact retainedEntry_push_last _ _
  · have hgone : CaptureGone pl.lane .gone (beginExchange .office s) (voidCapture v (beginExchange .office s)) := by
      have hhead' : isHead (beginExchange .office s) pl.lane v.number = true := hhead
      unfold voidCapture
      rw [hpl]
      dsimp only
      rw [if_pos hhead']
      exact endCaptureLeaving_gone (s := beginExchange .office s) hcapture .gone
    rw [number_of_findVisit hv]
    exact captureEnded (s := beginExchange .office s) hgone
      ((void_moved_other hbegun hpl).trans (setResult_moved _ _ _ _))
      fun hnot => (void_moved_none hbegun hpl hnot).trans (setResult_moved _ _ _ _)
  · exact (setResult_hide (by decide) _ _ _ _ _).trans
      (Eq.trans (voidDone_keeps v _ _) (beginExchange_hide (by decide) .office s))

end VoidVisit

end Sys2Proof.Machine

/-! PROOFS, 03_visits (R53 to R57, R81). The entry checks and the decisions of the two weights. -/

namespace Sys2Proof.Machine
open Sys2Proof

/-! ### The entry checks (R56) -/

section EntryChecks

variable {s : State} {n c k : Nat} {a : Account} {r : AllowanceRow}

theorem entryChecks_of_row (ha : findAccount s n = some a) (hactive : a.status = .active) (hr : a.row c = some r) :
    entryChecks s n c k = if r.amounts.free < (k : Int) then some .allowance else
      (Table.find s.allow.caps c).elim (some .siteCap) fun cap =>
        if cap.free < (k : Int) then some .siteCap else none := by
  unfold entryChecks
  rw [ha]
  dsimp only
  rw [if_neg (not_not_intro hactive), hr]
  cases Table.find s.allow.caps c with
  | none => rfl
  | some cap => rfl

theorem entryChecks_order (s : State) (n c k : Nat) :
    (findAccount s n = none → entryChecks s n c k = some .accountSuspended)
    ∧ ∀ a, findAccount s n = some a →
      (a.status = .suspended → entryChecks s n c k = some .accountSuspended)
      ∧ (a.status = .active → a.row c = none → entryChecks s n c k = some .categoryNotPermitted)
      ∧ ∀ r, a.status = .active → a.row c = some r →
        (r.amounts.free < (k : Int) → entryChecks s n c k = some .allowance)
        ∧ ((k : Int) ≤ r.amounts.free →
          (entryChecks s n c k = none ↔ ∃ cap, Table.find s.allow.caps c = some cap ∧ (k : Int) ≤ cap.free)
          ∧ (entryChecks s n c k ≠ none → entryChecks s n c k = some .siteCap)) := by
  refine ⟨fun h => by unfold entryChecks; rw [h], fun a ha => ⟨fun hs => ?_, fun hs hr => ?_,
    fun r hs hr => ⟨fun hlow => ?_, fun hfree => ?_⟩⟩⟩
  · unfold entryChecks
    rw [ha]
    exact if_pos (by rw [hs]; decide)
  · unfold entryChecks
    rw [ha]
    dsimp only
    rw [if_neg (not_not_intro hs), hr]
  · rw [entryChecks_of_row ha hs hr, if_pos hlow]
  · rw [entryChecks_of_row ha hs hr, if_neg (not_lt.2 hfree)]
    cases Table.find s.allow.caps c with
    | none => simp
    | some cap =>
      by_cases hcap : cap.free < (k : Int)
      · simp [hcap]
      · simpa [hcap] using not_lt.1 hcap

/-- The reserve of a two-pass delivery is what is wanted, at most the deck's Max (R54). -/
theorem twoPassReserve_bounds (s : State) (v : Visit) (d : Deck) :
    let max := (s.cal.stored.get d).max
    twoPassReserve s v d ≤ max
    ∧ (0 < v.payload → twoPassReserve s v d = if max < v.payload then max else v.payload)
    ∧ (∀ c, v.payload = 0 → Table.find s.allow.categories v.category = some c →
        twoPassReserve s v d = if max < c.reserve then max else c.reserve) := by
  have reduced : ∀ a b : Nat, min a b = if b < a then b else a := fun a b => by
    split <;> omega
  refine ⟨Nat.min_le_right _ _, fun hp => ?_, fun c hp hc => ?_⟩
  · simp only [twoPassReserve, if_pos hp, reduced]
  · simp only [twoPassReserve, hp, hc, reduced]
    rfl

end EntryChecks

/-! ### Entry checks with their hold (R56, R81) -/

section Holds

variable {s : State} {n : Nat} {u v : Visit}

/-- What a change of a visit shows where it is found. -/
theorem findVisit_modVisit_self {f : Visit → Visit} (hf : ∀ x, (f x).number = x.number) (hv : findVisit s n = some v) :
    findVisit (modVisit n f s) n = some (f v) := by
  rw [findVisit_modVisit hf, if_pos rfl, hv]
  rfl

theorem checkAndHold_refused {k : Nat} {r : Reason} (h : entryChecks s v.account v.category k = some r)
    (f : State → State) : checkAndHold v k f s = refuse v.number r s := by
  unfold checkAndHold
  rw [h]

/-- The state with a reserve held for a visit (R81). -/
def reserveHeld (v : Visit) (k : Nat) (s : State) : State :=
  modVisit v.number (fun v => { v with reserve := k }) (modBothRows v.account v.category (Amounts.hold k) s)

theorem checkAndHold_passed {k : Nat} (h : entryChecks s v.account v.category k = none) (f : State → State) :
    checkAndHold v k f s = f (reserveHeld v k s) := by
  unfold checkAndHold
  rw [h]
  rfl

theorem reserveHeld_findVisit (hu : findVisit s v.number = some u) (k : Nat) :
    findVisit (reserveHeld v k s) v.number = some { u with reserve := k } :=
  findVisit_modVisit_self (f := fun v => { v with reserve := k }) (fun _ => rfl)
    (s := modBothRows v.account v.category (Amounts.hold k) s) hu

theorem refuse_findVisit (hu : findVisit s n = some u) (r : Reason) :
    findVisit (refuse n r s) n = some { u with state := .refused, reason := some r } :=
  findVisit_modVisit_self (f := fun v => { v with state := .refused, reason := some r }) (fun _ => rfl) hu

theorem dispute_findVisit (hu : findVisit s n = some u) :
    findVisit (dispute n s) n = some { u with state := .disputed, reason := some .negativeNet } :=
  findVisit_modVisit_self (f := fun v => { v with state := .disputed, reason := some .negativeNet }) (fun _ => rfl) hu

theorem awaitTicket_findVisit_self (hu : findVisit s n = some u) :
    findVisit (awaitTicket n s) n = some { u with state := .awaitingTicket } := by
  rw [awaitTicket_findVisit, if_pos rfl, hu]
  rfl

/-- A ticket request touches the visit, the ticket unit and the writer alone. -/
theorem awaitTicket_keeps (n : Nat) (s : State) : KeepsAllBut [.visits, .nv, .tickets] s (awaitTicket n s) :=
  awaitTicket_hide (by decide) (by decide) (by decide) n

theorem KeepsAllBut.tares {s t : State} {ps : List Part} (h : KeepsAllBut ps s t) (hp : .tares ∉ ps) :
    t.tares = s.tares := by
  simpa [State.hide, hp] using congrArg State.tares h

end Holds

/-! ### The first weight (R53 to R55) -/

section FirstWeight

variable {s : State} {u v : Visit} {w : CapturedWeight} {a : Account}

/-- The two-pass path: FIRST_WEIGHED with its reserve held, or REFUSED (R54). -/
theorem twoPass_spec (hu : findVisit s v.number = some u) (d : Deck) :
    (twoPass v d s).tares = s.tares ∧ (twoPass v d s).tickets = s.tickets
    ∧ (entryChecks s v.account v.category (twoPassReserve s v d) = none →
        findVisit (twoPass v d s) v.number = some { u with state := .firstWeighed, reserve := twoPassReserve s v d }
        ∧ (twoPass v d s).allow = (reserveHeld v (twoPassReserve s v d) s).allow)
    ∧ (∀ r, entryChecks s v.account v.category (twoPassReserve s v d) = some r →
        findVisit (twoPass v d s) v.number = some { u with state := .refused, reason := some r }
        ∧ (twoPass v d s).allow = s.allow) := by
  have hkeeps : KeepsAllBut [.visits, .allow] s (twoPass v d s) := twoPass_hide (by decide) (by decide) v d
  refine ⟨hkeeps.tares (by decide), hkeeps.tickets (by decide), fun h => ?_, fun r h => ?_⟩
  · rw [twoPass, checkAndHold_passed h]
    exact ⟨findVisit_modVisit_self (f := fun v => { v with state := .firstWeighed }) (fun _ => rfl)
      (reserveHeld_findVisit hu _), rfl⟩
  · rw [twoPass, checkAndHold_refused h]
    exact ⟨refuse_findVisit hu r, rfl⟩

/-- The visit with a stored tare used for its net (R53). -/
def withStoredTare (u : Visit) (w : CapturedWeight) (tare : Nat) (manual : Bool) : Visit :=
  { u with tareSource := .stored, storedTare := some tare, manualTare := manual, net := some (w.weight - tare) }

/-- A stored tare: disputed below zero, else AWAITING_TICKET with the net held, or REFUSED (R53). -/
theorem useStoredTare_spec (hu : findVisit s v.number = some u) (w : CapturedWeight) (tare : Nat) (manual : Bool) :
    (useStoredTare v w tare manual s).tares = s.tares
    ∧ (w.weight - tare < 0 →
        findVisit (useStoredTare v w tare manual s) v.number =
          some { withStoredTare u w tare manual with state := .disputed, reason := some .negativeNet }
        ∧ (useStoredTare v w tare manual s).allow = s.allow ∧ (useStoredTare v w tare manual s).tickets = s.tickets)
    ∧ (0 ≤ w.weight - tare →
      (entryChecks s v.account v.category (w.weight - tare).toNat = none →
        findVisit (useStoredTare v w tare manual s) v.number =
          some { withStoredTare u w tare manual with state := .awaitingTicket, reserve := (w.weight - tare).toNat }
        ∧ (useStoredTare v w tare manual s).allow = (reserveHeld v (w.weight - tare).toNat s).allow
        ∧ (useStoredTare v w tare manual s).tickets.queue = s.tickets.queue ++ [v.number])
      ∧ (∀ r, entryChecks s v.account v.category (w.weight - tare).toNat = some r →
        findVisit (useStoredTare v w tare manual s) v.number =
          some { withStoredTare u w tare manual with state := .refused, reason := some r }
        ∧ (useStoredTare v w tare manual s).allow = s.allow ∧ (useStoredTare v w tare manual s).tickets = s.tickets)) := by
  have hkeeps : KeepsAllBut [.visits, .allow, .nv, .tickets] s (useStoredTare v w tare manual s) :=
    useStoredTare_hide (by decide) (by decide) (by decide) (by decide) v w tare manual
  have hused := findVisit_modVisit_self (f := fun u => withStoredTare u w tare manual) (fun _ => rfl) hu
  have heq : useStoredTare v w tare manual s = if w.weight - (tare : Int) < 0 then
      dispute v.number (modVisit v.number (fun u => withStoredTare u w tare manual) s)
    else checkAndHold v (w.weight - (tare : Int)).toNat (awaitTicket v.number)
      (modVisit v.number (fun u => withStoredTare u w tare manual) s) := rfl
  refine ⟨hkeeps.tares (by decide), fun hneg => ?_, fun hpos => ⟨fun h => ?_, fun r h => ?_⟩⟩
  · rw [heq, if_pos hneg]
    exact ⟨dispute_findVisit hused, rfl, rfl⟩
  · rw [heq, if_neg (not_lt.2 hpos),
      checkAndHold_passed (s := modVisit v.number (fun u => withStoredTare u w tare manual) s) h]
    exact ⟨awaitTicket_findVisit_self (reserveHeld_findVisit hused _), (awaitTicket_keeps _ _).allow (by decide),
      (awaitTicket_queue _ _).1⟩
  · rw [heq, if_neg (not_lt.2 hpos),
      checkAndHold_refused (s := modVisit v.number (fun u => withStoredTare u w tare manual) s) h]
    exact ⟨refuse_findVisit hused r, rfl, rfl⟩

/-- The visit's record with its first weight (R53). -/
def weighedFirst (v : Visit) (w : CapturedWeight) (s : State) : State :=
  modVisit v.number (fun v => { v with first := some w }) s

theorem weighedFirst_findVisit (hv : findVisit s v.number = some v) (w : CapturedWeight) :
    findVisit (weighedFirst v w s) v.number = some { v with first := some w } :=
  findVisit_modVisit_self (f := fun v => { v with first := some w }) (fun _ => rfl) hv

/-- A lookup changes the tare store alone, and reads the clock and that store. -/
theorem tareLookup_weighedFirst (x : Text) (v : Visit) (w : CapturedWeight) (s : State) :
    tareLookup x (weighedFirst v w s) =
      ((tareLookup x s).1, (weighedFirst v w s).setTares (tareLookup x s).2.tares) := by
  have hentry : tareEntryOf (weighedFirst v w s) x = tareEntryOf s x := rfl
  unfold tareLookup
  rw [hentry]
  cases tareEntryOf s x with
  | none => rfl
  | some p =>
    dsimp only
    rw [show tareValid (weighedFirst v w s) p.2 = tareValid s p.2 from rfl]
    split <;> rfl

theorem tareLookup_none {x : Text} (h : (tareLookup x s).1 = none) : (tareLookup x s).2 = s := by
  unfold tareLookup at h ⊢
  split
  · rfl
  · rename_i p t heq
    rw [heq] at h
    dsimp only at h
    split at h
    · cases h
    · rename_i hvalid
      rw [if_neg hvalid]

theorem firstCapture_delivery (hkind : v.kind = .delivery) (w : CapturedWeight) (s : State) :
    firstCapture v w s = firstDelivery v w (weighedFirst v w s) := by
  unfold firstCapture
  rw [hkind]
  rfl

/-- Without a tare to use, a delivery takes the two-pass path (R54). -/
theorem firstCapture_twoPass (hkind : v.kind = .delivery) (ha : findAccount s v.account = some a)
    (h : a.storedTareAllowed = false ∨ (tareLookup v.vehicle s).1 = none) (w : CapturedWeight) :
    firstCapture v w s = twoPass v w.deck (weighedFirst v w s) := by
  have haccount : findAccount (weighedFirst v w s) v.account = some a := ha
  have hlook := tareLookup_weighedFirst v.vehicle v w s
  rw [firstCapture_delivery hkind, firstDelivery, haccount]
  split
  · rename_i hallowed
    have hnone : (tareLookup v.vehicle s).1 = none := h.resolve_left fun hf => by simp [hf] at hallowed
    rw [hlook, hnone, tareLookup_none hnone]
    rfl
  · rfl

/-- With a valid stored tare that the account allows, a delivery uses it (R53, R69). -/
theorem firstCapture_stored {tare : Nat} {manual : Bool} (hkind : v.kind = .delivery)
    (ha : findAccount s v.account = some a) (hallowed : a.storedTareAllowed = true)
    (h : (tareLookup v.vehicle s).1 = some (tare, manual)) (w : CapturedWeight) : firstCapture v w s =
      useStoredTare v w tare manual ((weighedFirst v w s).setTares (tareLookup v.vehicle s).2.tares) := by
  have haccount : findAccount (weighedFirst v w s) v.account = some a := ha
  rw [firstCapture_delivery hkind, firstDelivery, haccount, if_pos (by simp [hallowed]), tareLookup_weighedFirst, h]

/-- A collection is FIRST_WEIGHED for an ACTIVE account, and REFUSED otherwise (R55). -/
theorem firstCapture_collection (hkind : v.kind = .collection) (ha : findAccount s v.account = some a)
    (w : CapturedWeight) : firstCapture v w s = if a.status = .active then
        modVisit v.number (fun v => { v with state := .firstWeighed }) (weighedFirst v w s)
      else refuse v.number .accountSuspended (weighedFirst v w s) := by
  have haccount : findAccount (weighedFirst v w s) v.account = some a := ha
  unfold firstCapture
  rw [hkind]
  show firstCollection v (weighedFirst v w s) = _
  unfold firstCollection
  rw [haccount]
  simp

end FirstWeight

/-! ### The second weight (R57) -/

section SecondWeight

variable {s : State} {n : Nat} {v : Visit} {f : CapturedWeight}

/-- The visit with its second weight and the net of the two (R57). -/
def withSecond (s : State) (v : Visit) (f w : CapturedWeight) (u : Visit) : Visit :=
  { u with
    second := some w
    tareSource := .weighed
    net := some (netOf v.kind f.weight w.weight)
    calChanged := v.calChanged || decide (s.cal.audit ≠ f.audit) }

theorem secondCapture_eq (hf : v.first = some f) (w : CapturedWeight) (s : State) : secondCapture v w s =
    if netOf v.kind f.weight w.weight < 0 then dispute v.number (modVisit v.number (withSecond s v f w) s)
    else awaitTicket v.number (modVisit v.number (withSecond s v f w) s) := by
  unfold secondCapture
  rw [hf]
  rfl

theorem secondCapture_spec (hv : findVisit s n = some v) (hf : v.first = some f) (w : CapturedWeight) :
    let net := if v.kind = .delivery then f.weight - w.weight else w.weight - f.weight
    let after := secondCapture v w s
    ∃ x, findVisit after n = some x ∧ x.second = some w ∧ x.tareSource = .weighed ∧ x.net = some net
      ∧ x.calChanged = (v.calChanged || decide (s.cal.audit ≠ f.audit)) ∧ x.reserve = v.reserve
      ∧ (net < 0 → x.state = .disputed ∧ x.reason = some .negativeNet ∧ after.tickets = s.tickets)
      ∧ (0 ≤ net → x.state = .awaitingTicket ∧ after.tickets.queue = s.tickets.queue ++ [v.number]) := by
  intro net after
  have hnet : netOf v.kind f.weight w.weight = net := by
    unfold netOf
    split <;> rename_i hkind
    · exact (if_pos hkind).symm
    · exact (if_neg (by rw [hkind]; decide)).symm
  obtain rfl := number_of_findVisit hv
  have hweighed := findVisit_modVisit_self (f := withSecond s v f w) (fun _ => rfl) hv
  have heq : after = _ := secondCapture_eq hf w s
  by_cases hneg : netOf v.kind f.weight w.weight < 0
  · rw [if_pos hneg] at heq
    rw [heq]
    exact ⟨_, dispute_findVisit hweighed, rfl, rfl, congrArg some hnet, rfl, rfl, fun _ => ⟨rfl, rfl, rfl⟩,
      fun h => absurd (hnet ▸ hneg) (not_lt.2 h)⟩
  · rw [if_neg hneg] at heq
    rw [heq]
    exact ⟨_, awaitTicket_findVisit_self hweighed, rfl, rfl, congrArg some hnet, rfl, rfl, fun h => absurd (hnet ▸ h) hneg,
      fun _ => ⟨rfl, (awaitTicket_queue _ _).1⟩⟩

end SecondWeight

end Sys2Proof.Machine

/-! PROOFS, 03_visits (R19, R23, R58). The sample that completes a capture, with its decision handed out. -/

namespace Sys2Proof.Machine
open Sys2Proof

/-! ### A decided head (R53 to R58) -/

section Decided

variable {s t : State} {n : Nat} {u v : Visit} {w : CapturedWeight}

/-- A visit is decided: the queues stand, and it waits for no capture any more (R58, R99). -/
def Decided (n : Nat) (s t : State) : Prop :=
  t.visits.queues = s.visits.queues ∧ ∃ u, findVisit t n = some u ∧ classOf u.state ≠ .capturable

theorem Decided.of_queues {x : State} (h : Decided n x t) (hq : x.visits.queues = s.visits.queues) : Decided n s t :=
  ⟨h.1.trans hq, h.2⟩

theorem refuse_decided (hu : findVisit s n = some u) (r : Reason) : Decided n s (refuse n r s) :=
  ⟨rfl, _, refuse_findVisit hu r, nofun⟩

theorem dispute_decided (hu : findVisit s n = some u) : Decided n s (dispute n s) :=
  ⟨rfl, _, dispute_findVisit hu, nofun⟩

theorem awaitTicket_decided (hu : findVisit s n = some u) : Decided n s (awaitTicket n s) := by
  refine ⟨?_, _, awaitTicket_findVisit_self hu, nofun⟩
  rw [awaitTicket, requestTicket_visits]
  rfl

theorem firstWeighed_decided (hu : findVisit s n = some u) :
    Decided n s (modVisit n (fun v => { v with state := .firstWeighed }) s) :=
  ⟨rfl, _, findVisit_modVisit_self (f := fun v => { v with state := .firstWeighed }) (fun _ => rfl) hu, nofun⟩

theorem checkAndHold_decided (hu : findVisit s v.number = some u) (k : Nat) {f : State → State}
    (hf : ∀ x u, findVisit x v.number = some u → Decided v.number x (f x)) :
    Decided v.number s (checkAndHold v k f s) := by
  cases h : entryChecks s v.account v.category k with
  | some r =>
    rw [checkAndHold_refused h]
    exact refuse_decided hu r
  | none =>
    rw [checkAndHold_passed h]
    exact (hf _ _ (reserveHeld_findVisit hu k)).of_queues rfl

theorem twoPass_decided (hu : findVisit s v.number = some u) (d : Deck) : Decided v.number s (twoPass v d s) :=
  checkAndHold_decided hu _ fun _ _ => firstWeighed_decided

theorem useStoredTare_decided (hu : findVisit s v.number = some u) (w : CapturedWeight) (tare : Nat) (manual : Bool) :
    Decided v.number s (useStoredTare v w tare manual s) := by
  have hused := findVisit_modVisit_self (f := fun u => withStoredTare u w tare manual) (fun _ => rfl) hu
  unfold useStoredTare
  dsimp only
  split
  · exact (dispute_decided hused).of_queues rfl
  · exact (checkAndHold_decided hused _ fun _ _ => awaitTicket_decided).of_queues rfl

theorem firstDelivery_decided (hu : findVisit s v.number = some u) (w : CapturedWeight) :
    Decided v.number s (firstDelivery v w s) := by
  have hvisits := tareLookup_visits s v.vehicle
  have hlooked := (findVisit_congr hvisits v.number).trans hu
  unfold firstDelivery
  split
  · split <;> rename_i h <;> rw [h] at hvisits hlooked
    · exact (useStoredTare_decided hlooked w _ _).of_queues (congrArg VisitTable.queues hvisits)
    · exact (twoPass_decided hlooked _).of_queues (congrArg VisitTable.queues hvisits)
  · exact twoPass_decided hu _

theorem firstCapture_decided (hv : findVisit s v.number = some v) (w : CapturedWeight) :
    Decided v.number s (firstCapture v w s) := by
  have hweighed := weighedFirst_findVisit hv w
  refine Decided.of_queues (x := weighedFirst v w s) ?_ rfl
  cases hkind : v.kind with
  | delivery =>
    rw [firstCapture_delivery hkind]
    exact firstDelivery_decided hweighed w
  | collection =>
    unfold firstCapture
    rw [hkind]
    show Decided v.number _ (firstCollection v (weighedFirst v w s))
    unfold firstCollection
    split
    · exact firstWeighed_decided hweighed
    · exact refuse_decided hweighed _

theorem secondCapture_decided (hv : findVisit s v.number = some v) (hf : v.first.isSome = true) (w : CapturedWeight) :
    Decided v.number s (secondCapture v w s) := by
  obtain ⟨f, hf⟩ := Option.isSome_iff_exists.1 hf
  have hweighed := findVisit_modVisit_self (f := withSecond s v f w) (fun _ => rfl) hv
  rw [secondCapture_eq hf]
  split
  · exact (dispute_decided hweighed).of_queues rfl
  · exact (awaitTicket_decided hweighed).of_queues rfl

end Decided

/-! ### The hand-out of a decision (R58) -/

section HandOut

variable {s t : State} {l : Lane} {n : Nat} {u : Visit} {ok : Nat → Prop}

/-- Where the kept head waits for no capture, no event starts one. -/
theorem routeOk_of_class (h : headClass s l ≠ .capturable) : RouteOk ok l s := fun _ hc => absurd hc h

theorem headClass_of_aside (h : Aside l s t) : headClass t l = headClass s l := by
  have hhead := congrArg (fun u => u.seqr.head) h.lane
  change (t.lane l).seqr.head = (s.lane l).seqr.head at hhead
  unfold headClass
  rw [hhead]

theorem modReport_moved (f : LaneReport → LaneReport) (hf : ∀ r, (f r).lastCapture = r.lastCapture) :
    Moved ok l s (s.modReport l f) := by
  refine ⟨.of_modLane l _ (hf _), ?_, .of_routes rfl, .of_ports rfl⟩
  rw [State.modReport, modLane_lane]

theorem headClass_modReport (f : LaneReport → LaneReport) : headClass (s.modReport l f) l = headClass s l := by
  unfold headClass
  rw [State.modReport, modLane_lane]

theorem headClass_handHead (fresh : Bool) (h : presentHead s l = some (n, u.state)) :
    headClass (handHead l fresh s) l = classOf u.state := by
  unfold headClass
  rw [handHead_head, h]

/-- A decided head is handed out without a further capture, and DECISION is noticed at lane and office (R58). -/
theorem handOut_moved (hu : findVisit s n = some u) (hhead : presentHead s l = some (n, u.state))
    (hclass : classOf u.state ≠ .capturable) :
    Moved (fun _ => False) l s (handOut l n s) ∧ headClass (handOut l n s) l ≠ .capturable
    ∧ Noticed (handOut l n s) .decision (.lane l) ∧ Noticed (handOut l n s) .decision .office := by
  have told : ∀ d : Decision, Moved (fun _ => False) l s
      (handHead l false (s.modReport l fun r => { r with lastDecision := d }))
      ∧ headClass (handHead l false (s.modReport l fun r => { r with lastDecision := d })) l ≠ .capturable := fun d => by
    have hclassed := headClass_handHead (l := l) (u := u) false (s := s.modReport l fun r => { r with lastDecision := d })
      hhead
    refine ⟨(modReport_moved (fun r => { r with lastDecision := d }) fun _ => rfl).trans
      (handHead_moved (fun _ _ hc => absurd hc ?_) false), by rw [hclassed]; exact hclass⟩
    unfold headClass
    rw [keepHead, State.modSeq, modLane_lane]
    dsimp only
    rw [show presentHead (s.modReport l fun r => { r with lastDecision := d }) l = some (n, u.state) from hhead]
    exact hclass
  have raised : ∀ (e : EventKind) (f : LaneReport → LaneReport) (x : State), (∀ r, (f r).lastCapture = r.lastCapture) →
      Moved (fun _ => False) l s x ∧ headClass x l ≠ .capturable →
      Moved (fun _ => False) l s ((raiseAt e l x).modReport l f)
      ∧ headClass ((raiseAt e l x).modReport l f) l ≠ .capturable := fun e f x hf ⟨hmoved, hc⟩ =>
    ⟨(hmoved.trans (raiseEvent_moved e _ fun _ => routeOk_of_class hc)).trans (modReport_moved f hf), by
      rw [headClass_modReport, headClass_of_aside (raiseAt_aside l e l x)]
      exact hc⟩
  have noticed : ∀ x : State, Moved (fun _ => False) l s x ∧ headClass x l ≠ .capturable →
      Moved (fun _ => False) l s (raiseLaneOffice .decision l x)
      ∧ headClass (raiseLaneOffice .decision l x) l ≠ .capturable
      ∧ Noticed (raiseLaneOffice .decision l x) .decision (.lane l)
      ∧ Noticed (raiseLaneOffice .decision l x) .decision .office := fun x ⟨hmoved, hc⟩ =>
    ⟨hmoved.trans ((raiseNotice_moved _ _ _).trans (raiseNotice_moved _ _ _)), hc, noticed_raiseLaneOffice _ _ _⟩
  unfold handOut
  rw [hu]
  dsimp only
  split
  · exact noticed _ (raised _ _ _ (fun _ => rfl) (told _))
  · exact noticed _ (raised _ _ _ (fun _ => rfl) (told _))
  · exact noticed _ (told _)

end HandOut

/-! ### The sample (R19, R23) -/

section Completing

variable {s t : State} {d : Deck} {c : BitVec 24} {cap : CaptureRecord} {v : Visit}

theorem KeepsAllBut.decks {s t : State} {ps : List Part} (h : KeepsAllBut ps s t) (hp : .decks ∉ ps) :
    t.decks = s.decks := by
  simpa [State.hide, hp] using congrArg State.decks h

theorem KeepsAllBut.lanes {s t : State} {ps : List Part} (h : KeepsAllBut ps s t) (hp : .lanes ∉ ps) :
    t.lanes = s.lanes := by
  simpa [State.hide, hp] using congrArg State.lanes h

theorem tares_of_outsideYard {s t : State} (h : t.outsideYard = s.outsideYard) : t.tares = s.tares :=
  have htares : t.outsideYard.tares = s.outsideYard.tares := congrArg State.tares h
  htares

theorem eightStages_capture (r : CalRecord) (c : Int) (u : DeckUnit) : (eightStages r c u).capture = u.capture := by
  unfold eightStages filterStage
  dsimp only
  split
  · exact (show (weighStages r _).capture = _ from rfl).trans (by split <;> rfl)
  · split <;> rfl

/-- The state with the stages done, before their events. -/
def weighedState (s : State) (d : Deck) (c : BitVec 24) : State :=
  (linkRecover d (trackStep d s)).modDeck d fun _ => weighedDeck s d c

theorem weighedState_deck (s : State) (d : Deck) (c : BitVec 24) : (weighedState s d c).deck d = weighedDeck s d c :=
  modDeck_deck _ _ _

theorem weighedState_keeps (s : State) (d : Deck) (c : BitVec 24) : KeepsAllBut [.decks] s (weighedState s d c) := by
  unfold KeepsAllBut weighedState linkRecover
  rw [modDeck_hide (by decide), modDeck_hide (by decide), trackStep_hide s d (by decide)]

/-- A sample that leaves overload and occupancy as they were raises at most DECK_STABLE. -/
theorem stageEvents_quiet {u : DeckUnit} {x : State} (hover : (x.deck d).overload = false) (hbefore : u.occupied = true)
    (hafter : (x.deck d).occupied = true) : stageEvents d u x =
      if (x.deck d).stable && !u.stable && (x.deck d).occupied then raiseAt .deckStable d x else x := by
  simp [stageEvents, hover, hbefore, hafter]

/-- The state with the stages' events raised. -/
def stagedState (s : State) (d : Deck) (c : BitVec 24) : State :=
  stageEvents d ((linkRecover d (trackStep d s)).deck d) (weighedState s d c)

/-- A quiet sample leaves a capture in flight and what the yard does not reach. -/
theorem stagedState_quiet (hover : (weighedDeck s d c).overload = false) (hbefore : (s.deck d).occupied = true)
    (hafter : (weighedDeck s d c).occupied = true) (hcapture : (s.deck d).capture = some cap) :
    (stagedState s d c).outsideYard = (weighedState s d c).outsideYard
    ∧ ((stagedState s d c).deck d).capture = some cap := by
  obtain ⟨z, h, k, htrack⟩ := trackStep_deck s d
  have hoccupied : ((linkRecover d (trackStep d s)).deck d).occupied = true := by rw [recovered_deck, htrack]; exact hbefore
  have hdeck := weighedState_deck s d c
  have hflight : ((weighedState s d c).deck d).capture = some cap := by
    rw [hdeck, weighedDeck, eightStages_capture, recovered_deck, htrack]
    exact hcapture
  have heq := stageEvents_quiet (d := d) (x := weighedState s d c) (by rw [hdeck]; exact hover) hoccupied
    (by rw [hdeck]; exact hafter)
  unfold stagedState
  rw [heq]
  split
  · refine ⟨raiseAt_outsideYard _ _ d, ?_⟩
    have htried : StartTried (fun _ => True) d (weighedState s d c) (raiseAt .deckStable d (weighedState s d c)) :=
      raiseEvent_tried _ _ fun _ _ _ _ _ => trivial
    exact (htried.inFlight (by rw [hflight]; nofun)).trans hflight
  · exact ⟨rfl, hflight⟩

/-- The end of a capture DONE, with its visit decided: the hand-out, the lane report, the event and the notices (R23, R58). -/
def captureDone (d : Lane) (n : Nat) (decided : State) : State :=
  raiseLaneOffice .capture d (raiseAt .captureDone d
    ((handOut d n decided).modReport d fun r => { r with lastCapture := .done }))

/-- A completed capture, its decision handed out. -/
theorem completeCapture_eq {x : State} (hcapture : (x.deck d).capture = some cap)
    {decided : State}
    (h : decideVisit d cap.visit (capturedWeight x d) (dropCapture d x) = handOut d cap.visit decided) :
    completeCapture d x = captureDone d cap.visit decided := by
  unfold completeCapture captureDone
  rw [hcapture]
  dsimp only
  rw [h]

theorem decideVisit_announced {x : State} {l : Lane} {n : Nat} (hv : findVisit x n = some v) (h : v.state = .announced)
    (w : CapturedWeight) : decideVisit l n w x = handOut l n (firstCapture v w x) := by
  unfold decideVisit
  rw [hv]
  dsimp only
  rw [h]

theorem decideVisit_attached {x : State} {l : Lane} {n : Nat} (hv : findVisit x n = some v) (h : v.state = .attached)
    (w : CapturedWeight) : decideVisit l n w x = handOut l n (secondCapture v w x) := by
  unfold decideVisit
  rw [hv]
  dsimp only
  rw [h]

/-- The head that the visit table hands once its visit is decided. -/
theorem Decided.presentHead {n : Nat} (h : Decided n s t) (hhead : isHead s d n = true) :
    ∃ u, findVisit t n = some u ∧ classOf u.state ≠ .capturable ∧ presentHead t d = some (n, u.state) := by
  obtain ⟨hqueues, u, hu, hclass⟩ := h
  refine ⟨u, hu, hclass, ?_⟩
  have hqueue : queueOf t d = queueOf s d := by rw [queueOf, hqueues]; rfl
  unfold isHead at hhead
  unfold Machine.presentHead headVisit
  rw [hqueue]
  split at hhead
  · cases hhead
  · obtain rfl := of_decide_eq_true hhead
    rw [hu, Option.map_some, number_of_findVisit hu]

/-- The end of a capture DONE, from a decided head: what it leaves at the lane (R19, R23, R58). -/
theorem captureDone_spec {n : Nat} {x decided : State} (h : Decided n x decided) (hhead : isHead x d n = true)
    (hnone : (decided.deck d).capture = none) :
    let t := captureDone d n decided
    t.outsideYard = decided.outsideYard ∧ (t.deck d).capture = none ∧ (t.lane d).report.lastCapture = .done
    ∧ Noticed t .capture (.lane d) ∧ Noticed t .capture .office
    ∧ Noticed t .decision (.lane d) ∧ Noticed t .decision .office := by
  obtain ⟨u, hu, hclass, hpresent⟩ := h.presentHead hhead
  obtain ⟨hmoved, hheadClass, hlane, hoffice⟩ := handOut_moved hu hpresent hclass
  have hreported : headClass ((handOut d n decided).modReport d fun r => { r with lastCapture := .done }) d
      ≠ .capturable := by
    rw [headClass_modReport]
    exact hheadClass
  have hraised := raiseEvent_moved (ok := fun _ => False) .captureDone (some d.num) fun _ => routeOk_of_class hreported
  obtain ⟨hcapture, hreport⟩ := hraised.tried.same
  have hgrows := hraised.notices.trans (raiseLaneOffice_grows .capture d _)
  obtain ⟨hcl, hco⟩ := noticed_raiseLaneOffice .capture d
    (raiseAt .captureDone d ((handOut d n decided).modReport d fun r => { r with lastCapture := .done }))
  refine ⟨?_, hcapture.trans (hmoved.tried.same.1.trans hnone), hreport.trans ?_, hcl, hco, hgrows _ _ hlane,
    hgrows _ _ hoffice⟩
  · simp only [captureDone, raiseLaneOffice_outsideYard, raiseAt_outsideYard, modReport_outsideYard, handOut_outsideYard]
  · rw [modReport_lane]

/-- The stages leave the deck, and the beams stand, as R19 wants them for a capture to complete. -/
structure Weighable (s : State) (d : Deck) (c : BitVec 24) : Prop where
  phase : (weighedDeck s d c).phase = .active
  stable : (weighedDeck s d c).stable = true
  notOver : (weighedDeck s d c).overload = false
  notUnder : (weighedDeck s d c).underload = false
  gross : 20 * ((s.cal.stored.get d).e : Int) ≤ (weighedDeck s d c).gross
  occupied : (weighedDeck s d c).occupied = true
  beam1 : (s.lane d).sensors.beam1Broken = false
  beam2 : (s.lane d).sensors.beam2Broken = false

/-- Where the staged deck and lane are read as such a sample shows them, the capture completes (R19). -/
theorem Weighable.completes (h : Weighable s d c) {x : State} (hdeck : (x.deck d).outsideRoutes = (weighedDeck s d c).outsideRoutes)
    (hsensors : (x.lane d).sensors = (s.lane d).sensors) (hcal : x.cal = s.cal) :
    completes x d = true := by
  have read : ∀ {α : Type} (f : DeckUnit → α), (∀ u, f u.outsideRoutes = f u) → f (x.deck d) = f (weighedDeck s d c) :=
    fun f hf => by rw [← hf, hdeck, hf]
  unfold Machine.completes
  dsimp only
  rw [read (·.phase) fun _ => rfl, read (·.stable) fun _ => rfl, read (·.overload) fun _ => rfl,
    read (·.underload) fun _ => rfl, read (·.gross) fun _ => rfl, read (·.occupied) fun _ => rfl, hsensors, hcal]
  simp [h.phase, h.stable, h.notOver, h.notUnder, h.gross, h.occupied, h.beam1, h.beam2]

theorem trackAdvance_capture (x : State) (d : Deck) : ((trackAdvance d x).deck d).capture = (x.deck d).capture := by
  rw [trackAdvance, modDeck_deck]

/-- A quiet sample that meets the conditions completes the capture in flight (R19, R23). -/
theorem sampleStep_completing (hcapture : (s.deck d).capture = some cap) (hafter : (weighedDeck s d c).occupied = true)
    (hcompletes : completes (stagedState s d c) d = true) :
    sampleStep d c s = trackAdvance d (completeCapture d (stagedState s d c)) := by
  obtain ⟨z, h, k, htrack⟩ := trackStep_deck s d
  have hflight : ((linkRecover d (trackStep d s)).deck d).capture = some cap := by
    rw [recovered_deck, htrack]
    exact hcapture
  rw [sampleStep_eq]
  congr 1
  show captureTests d _ (weighedDeck s d c) (stagedState s d c) = _
  rw [captureTests, hflight, hafter, if_pos Option.isSome_some, if_neg (by simp), if_pos hcompletes]

end Completing

/-! ### The obligation -/

section WholeSample

variable {s : State} {d : Deck} {c : BitVec 24} {cap : CaptureRecord} {v : Visit}

theorem firstCapture_keeps (v : Visit) (w : CapturedWeight) (s : State) :
    KeepsAllBut [.visits, .allow, .nv, .tickets, .tares] s (firstCapture v w s) :=
  firstCapture_hide (by decide) (by decide) (by decide) (by decide) (by decide) v w

theorem secondCapture_keeps (v : Visit) (w : CapturedWeight) (s : State) :
    KeepsAllBut [.visits, .nv, .tickets] s (secondCapture v w s) :=
  secondCapture_hide (by decide) (by decide) (by decide) v w

/-- The decision on the visit a completed capture names (R53 to R57). -/
def decidedBy (v : Visit) (w : CapturedWeight) (s : State) : State :=
  if v.state = .announced then firstCapture v w s else secondCapture v w s

theorem decidedBy_decks (v : Visit) (w : CapturedWeight) (s : State) : (decidedBy v w s).decks = s.decks := by
  unfold decidedBy
  split
  · exact (firstCapture_keeps v w s).decks (by decide)
  · exact (secondCapture_keeps v w s).decks (by decide)

theorem decidedBy_decided {n : Nat} (hv : findVisit s n = some v)
    (hstate : v.state = .announced ∨ (v.state = .attached ∧ v.first.isSome = true)) (w : CapturedWeight) :
    Decided n s (decidedBy v w s) := by
  obtain rfl := number_of_findVisit hv
  unfold decidedBy
  split
  · exact firstCapture_decided hv w
  · rename_i h
    exact secondCapture_decided hv (hstate.resolve_left h).2 w

theorem decideVisit_eq {n : Nat} (l : Lane) (hv : findVisit s n = some v)
    (hstate : v.state = .announced ∨ (v.state = .attached ∧ v.first.isSome = true)) (w : CapturedWeight) :
    decideVisit l n w s = handOut l n (decidedBy v w s) := by
  unfold decidedBy
  rcases hstate with h | ⟨h, -⟩
  · rw [decideVisit_announced hv h, if_pos h]
  · rw [decideVisit_attached hv h, if_neg (by rw [h]; decide)]

/-- The captured weight record of a sample, of the deck as the stages leave it (R19). -/
def sampledWeight (s : State) (d : Deck) (c : BitVec 24) : CapturedWeight :=
  { weight := (weighedDeck s d c).gross, deck := d, time := { day := s.clock.day, second := s.clock.second },
    audit := s.cal.audit }

/-- A quiet sample with a capture in flight ends it DONE, its decision handed out (R19, R23, R58). -/
theorem sampleStep_done (hcapture : (s.deck d).capture = some cap) (hhead : isHead s d cap.visit = true)
    (hv : findVisit s cap.visit = some v) (hstate : v.state = .announced ∨ (v.state = .attached ∧ v.first.isSome = true))
    (hbefore : (s.deck d).occupied = true) (h : Weighable s d c) :
    ∃ b, KeepsAllBut yardParts s b
      ∧ (let decided := decidedBy v (sampledWeight s d c) b
         let t := sampleStep d c s
         t.visits = decided.visits ∧ t.allow = decided.allow ∧ t.tares = decided.tares ∧ t.tickets = decided.tickets
         ∧ (t.deck d).capture = none ∧ (t.lane d).report.lastCapture = .done
         ∧ Noticed t .capture (.lane d) ∧ Noticed t .capture .office
         ∧ Noticed t .decision (.lane d) ∧ Noticed t .decision .office) := by
  obtain ⟨hyard, hflight⟩ := stagedState_quiet h.notOver hbefore h.occupied hcapture
  have hstaged : KeepsAllBut yardParts s (stagedState s d c) :=
    (hide_of_outsideYard yardParts (fun _ h => h) hyard).trans
      ((weighedState_keeps s d c).mono (by decide))
  have hcal : (stagedState s d c).cal = s.cal := hstaged.cal (by decide)
  have hclock : (stagedState s d c).clock = s.clock := hstaged.clock (by decide)
  have hsensors : ((stagedState s d c).lane d).sensors = (s.lane d).sensors := by
    have hlane := congrArg LaneUnit.sensors (lane_of_outsideYard hyard d)
    change ((stagedState s d c).lane d).sensors = ((weighedState s d c).lane d).sensors at hlane
    rw [hlane, State.lane, (weighedState_keeps s d c).lanes (by decide), State.lane]
  have hdeck : ((stagedState s d c).deck d).outsideRoutes = (weighedDeck s d c).outsideRoutes := by
    rw [deckCores_get (deckCores_of_outsideYard hyard), weighedState_deck]
  have hweight : capturedWeight (stagedState s d c) d = sampledWeight s d c := by
    have hread := congrArg DeckUnit.gross hdeck
    change ((stagedState s d c).deck d).gross = (weighedDeck s d c).gross at hread
    rw [capturedWeight, hread, nowStamp, hclock, hcal, sampledWeight]
  have hcomplete := h.completes hdeck hsensors hcal
  have hb : KeepsAllBut yardParts s (dropCapture d (stagedState s d c)) :=
    (modDeck_hide (ps := yardParts) (by decide) d _).trans hstaged
  have hvisits : (dropCapture d (stagedState s d c)).visits = s.visits := hb.visits (by decide)
  have hfound : findVisit (dropCapture d (stagedState s d c)) cap.visit = some v :=
    (findVisit_congr hvisits _).trans hv
  have hnone : ((dropCapture d (stagedState s d c)).deck d).capture = none := by rw [dropCapture, modDeck_deck]
  refine ⟨_, hb, ?_⟩
  rw [← hweight]
  have hdone := captureDone_spec (d := d) (decidedBy_decided hfound hstate (capturedWeight (stagedState s d c) d))
    ((isHead_congr hvisits d _).trans hhead) (by rw [State.deck, decidedBy_decks]; exact hnone)
  rw [sampleStep_completing hcapture h.occupied hcomplete, completeCapture_eq hflight (decideVisit_eq d hfound hstate _)]
  obtain ⟨hsame, hgone, hreport, hnotices⟩ := hdone
  have hvisited := visits_of_outsideYard hsame
  have hallow := allow_of_outsideYard hsame
  have htares := tares_of_outsideYard hsame
  have htickets := tickets_of_outsideYard hsame
  exact ⟨hvisited, hallow, htares, htickets, (trackAdvance_capture _ d).trans hgone, hreport, hnotices⟩

end WholeSample

/-- Settles O56: the entry checks and the two decisions case by case, and the completing sample as its stages, the decision on
the visit the capture names, and the hand-out of that decision. -/
theorem weighingDecidesTheVisit : Obligations.WeighingDecidesTheVisit := by
  refine ⟨entryChecks_order, twoPassReserve_bounds, ?_, fun s v w f n hv hf => secondCapture_spec hv hf w, ?_⟩
  · intro s v w n a hv ha
    obtain rfl := number_of_findVisit hv
    have hweighed := weighedFirst_findVisit hv w
    intro after left weighed held
    refine ⟨fun hkind => ?_, fun hkind hlook => ?_, fun tare manual hkind hallowed hlook => ?_⟩
    · have heq : after = _ := firstCapture_collection hkind ha w
      have hkeeps : KeepsAllBut [.visits] s after := by
        rw [heq]
        split <;> exact modVisit_hide (by decide) _ _
      refine ⟨hkeeps.allow (by decide), hkeeps.tares (by decide), hkeeps.tickets (by decide), fun hs => ?_, fun hs => ?_⟩
      · rw [if_pos hs] at heq
        show findVisit after v.number = _
        rw [heq]
        exact findVisit_modVisit_self (f := fun v => { v with state := .firstWeighed }) (fun _ => rfl) hweighed
      · rw [if_neg (by rw [hs]; decide)] at heq
        show findVisit after v.number = _
        rw [heq]
        exact refuse_findVisit hweighed _
    · have heq : after = _ := firstCapture_twoPass hkind ha hlook w
      have hspec := twoPass_spec hweighed w.deck
      rw [← heq] at hspec
      exact hspec
    · have heq : after = _ := firstCapture_stored hkind ha hallowed hlook w
      have hspec := useStoredTare_spec (s := (weighedFirst v w s).setTares (tareLookup v.vehicle s).2.tares)
        hweighed w tare manual
      rw [← heq] at hspec
      exact hspec
  · intro s d c cap v hpower hcapture hhead hv hstate hoccupied hbeam1 hbeam2 u w hphase hstable hover hunder hgross hafter
    obtain ⟨b, hb, hdecided, hallow, htares, htickets, hgone, hreport, hnotices⟩ :=
      sampleStep_done (c := c) hcapture hhead hv hstate hoccupied
        ⟨hphase, hstable, hover, hunder, hgross, hafter, hbeam1, hbeam2⟩
    exact ⟨sampleStep d c s, b, by simp [exec, execSampleOk, whenRunning, hpower], hb,
      ⟨hdecided, hallow, htares, htickets⟩, hgone, hreport, hnotices⟩

end Sys2Proof.Machine

/-! PROOFS, 03_visits (R46, R50, R168). A command with reply data, a visit that joins a lane's queue, and ATTACH. -/

namespace Sys2Proof.Machine
open Sys2Proof

/-! ### A command with reply data (R168) -/

section DataCommands

variable {s t : State} {p : PortId} {c : Byte} {b : Bool} {body : State → (Result × ReplyData) × State}

/-- What an answered command with reply data leaves at its port (R168). -/
def Port.answeredWith (x : Port) (c : Byte) (r : Result) (data : ReplyData) : Port := { x.answered c r with data := data }

/-- A command with reply data reaches its body at a port that takes it and may issue it. -/
theorem dataCommand_of_takes (h : Takes s p) (c : Byte) (hb : b = true)
    (body : State → (Result × ReplyData) × State) : whenRunning s (exchange p (takeWithData p c b false body)) =
      .next (setResult p c (body (beginExchange p s)).1.1 (body (beginExchange p s)).1.2 (body (beginExchange p s)).2) := by
  obtain ⟨hpower, henabled, hbusy, hfollow⟩ := h
  subst hb
  have hport : (beginExchange p s).port p = { s.port p with reply := none, move := none } := modPort_port s p _
  simp [whenRunning, exchange, takeWithData, portRefusal, hpower, hport, henabled, hbusy, hfollow]

/-- A body that leaves the port as the exchange found it gives the port its answer, and the state its effect. -/
theorem dataCommand_answered (h : Takes s p) (c : Byte) (hb : b = true) {r : Result} {data : ReplyData}
    (hbody : body (beginExchange p s) = ((r, data), beginExchange p t)) :
    whenRunning s (exchange p (takeWithData p c b false body)) =
      .next (t.modPort p fun x => x.answeredWith c r data) := by
  have hanswer : setResult p c r data (beginExchange p t) = t.modPort p fun x => x.answeredWith c r data :=
    modPort_modPort t p _ _
  rw [dataCommand_of_takes h c hb, hbody, ← hanswer]

theorem dataCommand_refused (h : Takes s p) (c : Byte) (hb : b = true) {r : Result}
    (hbody : body (beginExchange p s) = ((r, ReplyData.zero), beginExchange p s)) :
    whenRunning s (exchange p (takeWithData p c b false body)) = .next (s.answer p c r) :=
  dataCommand_answered h c hb hbody

end DataCommands

/-! ### A visit joins a queue (R46) -/

section Joining

variable {s : State} {l : Lane} {p : PortId}

/-- A queue of fewer than four has a free slot. -/
theorem freeSlot_of_room {q : List (Slot × Nat)} (h : q.length < 4) : ∃ slot, freeSlot q = some slot := by
  by_contra hnone
  have hfull : freeSlot q = none := Option.eq_none_iff_forall_ne_some.2 fun i hi => hnone ⟨i, hi⟩
  have hsub : Idx.all ⊆ q.map Prod.fst := fun i hi => by
    have htaken := List.find?_eq_none.1 hfull i hi
    simp only [Bool.not_eq_true', Bool.not_eq_false, List.any_eq_true, decide_eq_true_eq] at htaken
    obtain ⟨m, hm, hslot⟩ := htaken
    exact List.mem_map.2 ⟨m, hm, hslot⟩
  have hle := (List.subperm_of_subset (by decide) hsub).length_le
  rw [List.length_map] at hle
  exact absurd hle (not_le.2 h)

/-- What the sequencer makes of a visit that has joined: of a new head the hand-over, then the unannounced timer (R46,
R100). -/
def handJoined (l : Lane) (fresh : Bool) (s : State) : State :=
  syncUnannounced l (if fresh = true then handHead l true s else s)

theorem handJoined_laneOp (l : Lane) (fresh : Bool) : LaneOp l (handJoined l fresh) := by
  cases fresh with
  | false => exact syncUnannounced_laneOp l
  | true => exact (syncUnannounced_laneOp l).comp (handHead_laneOp l true)

theorem handJoined_outsideYard (l : Lane) (fresh : Bool) (s : State) :
    (handJoined l fresh s).outsideYard = s.outsideYard := by
  unfold handJoined
  rw [syncUnannounced_outsideYard]
  split
  · exact handHead_outsideYard s l true
  · rfl

theorem joinQueue_handJoined {slot : Slot} (h : freeSlot (queueOf s l) = some slot) (n : Nat) (pass : PassKind) :
    joinQueue l n pass s = handJoined l (queueOf s l).isEmpty (placeVisit l slot n pass s) := joinQueue_eq h n pass

/-- What joining a lane's queue leaves of all but the visit table (R46, R168). -/
structure JoinedAt (l : Lane) (p : PortId) (c : Byte) (reply : ReplyData) (s t : State) : Prop where
  result : (t.port p).lastResult = .done
  command : (t.port p).lastCommand = c
  data : (t.port p).data = reply
  ports : ∀ q, q ≠ p → t.port q = s.port q
  yard : SameOutsideYard ((s.setVisits t.visits).modPort p fun x => x.answeredWith c .done reply) t
  keeps : KeepsAllBut [.visits, .decks, .lanes, .ports] s t
  lanes : ∀ k, k ≠ l → t.lane k = s.lane k ∧ t.deck k = s.deck k

/-- With the visit table changed, the sequencer told and the port answered. -/
theorem joinedAt (l : Lane) (p : PortId) (c : Byte) (data : ReplyData) (fresh : Bool) (x : VisitTable) (s : State) :
    let t := (handJoined l fresh (s.setVisits x)).modPort p fun u => u.answeredWith c .done data
    t.visits = x ∧ JoinedAt l p c data s t := by
  intro t
  have heq : t = handJoined l fresh ((s.setVisits x).modPort p fun u => u.answeredWith c .done data) :=
    ((handJoined_laneOp l fresh).modPort _ _ _).symm
  have hyard := handJoined_outsideYard l fresh ((s.setVisits x).modPort p fun u => u.answeredWith c .done data)
  have hwork := (handJoined_laneOp l fresh).works ((s.setVisits x).modPort p fun u => u.answeredWith c .done data)
  rw [← heq] at hyard hwork
  have hvisits : t.visits = x := visits_of_outsideYard hyard
  have hport : ∀ q, t.port q = ((s.setVisits x).modPort p fun u => u.answeredWith c .done data).port q := fun q => by
    unfold State.port
    rw [hwork.ports]
  have hat : t.port p = (s.port p).answeredWith c .done data := by
    rw [hport, modPort_port]
    rfl
  refine ⟨hvisits, by rw [hat]; rfl, by rw [hat]; rfl, by rw [hat]; rfl, fun q hq => ?_, by rw [hvisits]; exact hyard, ?_,
    fun k hk => ⟨hwork.lane_of_ne hk, hwork.deck_of_ne hk⟩⟩
  · rw [hport, modPort_port_of_ne _ _ hq]
    rfl
  · obtain ⟨f, g, hfg⟩ := hwork
    rw [hfg]
    exact (modDeck_hide (by decide) l g).trans ((modLane_hide (by decide) l f).trans (modPort_hide (by decide) p _))

/-- The reply data of a visit that has a place (R168). -/
theorem replyFor_placed {n : Nat} {v : Visit} {pl : LanePlace} (hv : findVisit s n = some v) (hplace : v.place = some pl)
    (tare : Bool) : replyFor s n tare =
      { handle := { slot := pl.slot.num, generation := (s.visits.queues.get pl.lane).generations.get pl.slot },
        visit := n, validTare := tare } := by
  unfold replyFor visitHandle
  rw [hv, Option.bind_some, hplace]
  rfl

end Joining

/-! ### ATTACH (R50) -/

section Attach

variable {s : State} {p : PortId} {l : Lane} {x : Text} {v : Visit}

/-- ATTACH is barred at a lane in CLOSED and at an inbound one (R50). -/
def AttachBarred (s : State) (l : Lane) : Prop := (s.lane l).params.mode = .closed ∨ (s.lane l).params.direction = .inbound

theorem attachable_barred (h : AttachBarred s l) (x : Text) : attachable s l x = .error .state := by
  unfold attachable
  exact if_pos h

theorem attachable_unknown (h : ¬ AttachBarred s l) (hx : findVehicle s x = none) : attachable s l x = .error .noSuch := by
  unfold AttachBarred at h
  unfold attachable
  dsimp only
  rw [if_neg h, hx]

theorem attachable_known (h : ¬ AttachBarred s l) (hx : findVehicle s x = some v) : attachable s l x =
    if (v.state ≠ .firstWeighed ∧ v.state ≠ .ticketedOnSite) ∨ v.place ≠ none then .error .state
    else if 4 ≤ (queueOf s l).length then .error .full
    else .ok v := by
  unfold AttachBarred at h
  unfold attachable
  dsimp only
  rw [if_neg h, hx]
  simp only [Option.isSome_iff_ne_none]

theorem attachState_modPort (v : Visit) (s : State) (p : PortId) (f : Port → Port) :
    attachState v (s.modPort p f) = (attachState v s).modPort p f := by
  unfold attachState
  split <;> rfl

theorem attachState_setVisits (v : Visit) (s : State) : attachState v s = s.setVisits (attachState v s).visits := by
  unfold attachState
  split <;> rfl

/-- Of the visit table, ATTACH changes no queue before the visit joins one. -/
theorem attachState_queues (v : Visit) (s : State) : (attachState v s).visits.queues = s.visits.queues := by
  unfold attachState
  split <;> rfl

/-- The visit table of an accepted ATTACH. -/
def attached (l : Lane) (slot : Slot) (v : Visit) (s : State) : State :=
  placeVisit l slot v.number .exit (attachState v s)

theorem attached_findVisit (l : Lane) (slot : Slot) (hv : findVisit s v.number = some v) :
    findVisit (attached l slot v s) v.number = some { v with
      state := if v.state = .firstWeighed then .attached else v.state,
      place := some { lane := l, slot := slot, pass := .exit } } := by
  rw [attached, placeVisit_findVisit, if_pos rfl, attachState_findVisit, hv]
  by_cases h : v.state = .firstWeighed
  · simp [h]
  · simp [h]

theorem attached_findVisit_of_ne (l : Lane) (slot : Slot) {m : Nat} (h : m ≠ v.number) :
    findVisit (attached l slot v s) m = findVisit s m := by
  rw [attached, placeVisit_findVisit, if_neg h, attachState_findVisit, if_neg fun ⟨_, hm⟩ => h hm]

theorem attached_queueOf (l : Lane) (slot : Slot) (v : Visit) (s : State) (k : Lane) :
    queueOf (attached l slot v s) k = if k = l then queueOf s l ++ [(slot, v.number)] else queueOf s k := by
  have hqueue : ∀ j, queueOf (attachState v s) j = queueOf s j := fun j => by
    unfold queueOf
    rw [attachState_queues]
  rw [attached, placeVisit_queueOf, hqueue, hqueue]

/-- The reply data of an accepted ATTACH or ANNOUNCE (R168). -/
def placedData (s : State) (l : Lane) (slot : Slot) (n : Nat) (tare : Bool) : ReplyData :=
  { handle := { slot := slot.num, generation := (s.visits.queues.get l).generations.get slot }, visit := n,
    validTare := tare }

/-- What an accepted ATTACH does, at a port as an exchange finds it. -/
theorem attachVisit_eq {slot : Slot} (hv : findVisit s v.number = some v) (hslot : freeSlot (queueOf s l) = some slot) :
    attachVisit l v s = ((.done, placedData s l slot v.number false),
      handJoined l (queueOf s l).isEmpty (attached l slot v s)) := by
  have hqueue : queueOf (attachState v s) l = queueOf s l := by
    unfold queueOf
    rw [attachState_queues]
  have hjoin : joinQueue l v.number .exit (attachState v s) =
      handJoined l (queueOf s l).isEmpty (attached l slot v s) := by
    rw [joinQueue_handJoined (by rw [hqueue]; exact hslot), hqueue]
    rfl
  have hvisits : (handJoined l (queueOf s l).isEmpty (attached l slot v s)).visits = (attached l slot v s).visits :=
    visits_of_outsideYard (handJoined_outsideYard l _ _)
  have hreply := replyFor_placed ((findVisit_congr hvisits _).trans (attached_findVisit l slot hv)) rfl false
  have hgenerations : ((attached l slot v s).visits.queues.get l).generations = (s.visits.queues.get l).generations := by
    rw [attached, placeVisit_generations, attachState_queues]
  rw [hvisits, hgenerations] at hreply
  show ((Result.done, replyFor (joinQueue l v.number .exit (attachState v s)) v.number false),
    joinQueue l v.number .exit (attachState v s)) = _
  rw [hjoin, hreply]
  rfl

theorem attachBody_refused {r : Result} (h : attachable s l x = .error r) :
    attachBody l (some x) s = ((r, ReplyData.zero), s) := by
  unfold attachBody
  dsimp only
  rw [h]

theorem attachBody_accepted (h : attachable s l x = .ok v) : attachBody l (some x) s = attachVisit l v s := by
  unfold attachBody
  dsimp only
  rw [h]

/-- Settles O33: the refusals are the branches of `attachable` in R50's order; an accepted ATTACH changes the visit table, and
beyond it what the sequencer makes of a new head. -/
theorem attachQueuesAVisitForItsExit : Obligations.AttachQueuesAVisitForItsExit := by
  refine ⟨fun s p b vehicle h hb => ?_,
    fun s p b l vehicle x v hok h hb hl hx hmode hdirection hv hstate hplace hroom => ?_⟩
  · intro refused
    have unlaned : laneOf p b = none → refused .noSuch := fun hl =>
      dataCommand_refused h 0x31#8 hb (by rw [hl])
    have laned : ∀ {l r}, laneOf p b = some l → (attachBody l (vehicleOf vehicle) (beginExchange p s) =
        ((r, ReplyData.zero), beginExchange p s)) → refused r := fun hl hbody =>
      dataCommand_refused h 0x31#8 hb (by rw [hl]; exact hbody)
    refine ⟨unlaned, fun l hl => ⟨fun hx => laned hl (by rw [hx]; rfl), fun x hx => ?_⟩⟩
    have tested : ∀ {r}, attachable s l x = .error r → refused r := fun he =>
      laned hl (by rw [hx]; exact attachBody_refused he)
    refine ⟨fun hbarred => tested (attachable_barred hbarred x),
      fun hbarred hnone => tested (attachable_unknown hbarred (findVehicle_eq_none_iff.2 hnone)),
      fun v hv hbarred => ?_⟩
    have hknown := attachable_known hbarred hv
    refine ⟨fun hunfit => tested (hknown.trans (if_pos hunfit)), fun hfit hfull => tested ?_⟩
    rw [hknown, if_neg hfit, if_pos hfull]
  · obtain ⟨slot, hslot⟩ := freeSlot_of_room hroom
    have hfound := hok.findVisit_of_findVehicle hv
    have hbarred : ¬ AttachBarred s l := fun hb => hb.elim hmode hdirection
    have hfit : ¬ ((v.state ≠ .firstWeighed ∧ v.state ≠ .ticketedOnSite) ∨ v.place ≠ none) := by
      rintro (⟨h1, h2⟩ | h3)
      · exact hstate.elim h1 h2
      · exact h3 hplace
    have haccepted : attachable s l x = .ok v := by
      rw [attachable_known hbarred hv, if_neg hfit, if_neg (not_le.2 hroom)]
    have hbegun : attached l slot v (beginExchange p s) = beginExchange p (s.setVisits (attached l slot v s).visits) := by
      rw [attached, beginExchange, attachState_modPort, attachState_setVisits]
      rfl
    have hbody : attachBody l (some x) (beginExchange p s) = ((.done, placedData s l slot v.number false),
        beginExchange p (handJoined l (queueOf s l).isEmpty (s.setVisits (attached l slot v s).visits))) := by
      refine (attachBody_accepted (s := beginExchange p s) haccepted).trans ?_
      rw [attachVisit_eq (s := beginExchange p s) hfound hslot, hbegun]
      exact congrArg _ ((handJoined_laneOp l _).modPort _ p _)
    have hexec : exec (.attach p b vehicle) s = _ := dataCommand_answered h 0x31#8 hb (by rw [hl, hx]; exact hbody)
    obtain ⟨hvisits, hjoined⟩ := joinedAt l p 0x31#8 (placedData s l slot v.number false) (queueOf s l).isEmpty
      (attached l slot v s).visits s
    refine ⟨_, slot, hexec, hslot, (findVisit_congr hvisits _).trans (attached_findVisit l slot hfound),
      fun m hm => (findVisit_congr hvisits m).trans (attached_findVisit_of_ne l slot hm), ?_, fun k hk => ?_,
      hjoined.result, hjoined.command, hjoined.data, hjoined.ports, hjoined.keeps, hjoined.lanes⟩
    · rw [queueOf_congr hvisits, attached_queueOf, if_pos rfl]
    · rw [queueOf_congr hvisits, attached_queueOf, if_neg hk]

end Attach

end Sys2Proof.Machine

/-! PROOFS, 03_visits (R43, R44, R46, R49, R168, R179). ANNOUNCE. -/

namespace Sys2Proof

/-- A change of every record, where the table is listed at one more index. -/
theorem Table.mapVals_insert {α : Type} (t : Table α) (i : Nat) (x : α) (f : α → α) :
    Table.mapVals (Table.insert t i x) f = Table.insert (Table.mapVals t f) i (f x) := by
  induction t with
  | nil => rfl
  | cons q t ih =>
    obtain ⟨j, y⟩ := q
    have hcons : ∀ (k : Nat) (z : α) (u : Table α), Table.mapVals ((k, z) :: u) f = (k, f z) :: Table.mapVals u f :=
      fun _ _ _ => rfl
    rw [hcons, Table.insert, Table.insert]
    split
    · rfl
    · split
      · rfl
      · rw [hcons, ih]

end Sys2Proof

namespace Sys2Proof.Machine
open Sys2Proof

/-! ### The vehicle identifier (R49, R179) -/

section VehicleId

theorem isVehicleChar_iff (c : Byte) : isVehicleChar c = true ↔
    (65 ≤ c.toNat ∧ c.toNat ≤ 90) ∨ (48 ≤ c.toNat ∧ c.toNat ≤ 57) := by
  simp [isVehicleChar, isUpper, isDigit]

/-- A field is what is left of it with its filling before it. -/
theorem unfill_append_zeros (bytes : List Byte) : ∃ k, bytes = unfill bytes ++ zeros k := by
  obtain ⟨k, hk⟩ : ∃ k, bytes.reverse.takeWhile (fun b => decide (b = 0#8)) = zeros k :=
    ⟨_, List.eq_replicate_iff.2 ⟨rfl, fun b hb => by simpa using List.mem_takeWhile_imp hb⟩⟩
  have hsplit := List.takeWhile_append_dropWhile (p := fun b : Byte => decide (b = 0#8)) (l := bytes.reverse)
  rw [hk] at hsplit
  refine ⟨k, ?_⟩
  calc
    bytes = bytes.reverse.reverse := (List.reverse_reverse bytes).symm
    _ = (zeros k ++ bytes.reverse.dropWhile fun b => decide (b = 0#8)).reverse := by rw [hsplit]
    _ = unfill bytes ++ zeros k := by rw [List.reverse_append, zeros, List.reverse_replicate]; rfl

/-- What ends in no 0x00 is left of its filled field. -/
theorem unfill_filled {v : Text} (h : ∀ c ∈ v, c ≠ 0#8) (k : Nat) : unfill (v ++ zeros k) = v := by
  have hkept : v.reverse.dropWhile (fun b => decide (b = 0#8)) = v.reverse := by
    cases hv : v.reverse with
    | nil => rfl
    | cons c cs =>
      have hc : c ∈ v := List.mem_reverse.1 (by rw [hv]; exact List.mem_cons_self)
      rw [List.dropWhile_cons_of_neg (by simpa using h c hc)]
  unfold unfill
  rw [List.reverse_append, zeros, List.reverse_replicate, List.dropWhile_append_of_pos
    (fun b hb => by simpa using (List.mem_replicate.1 hb).2), hkept, List.reverse_reverse]

theorem vehicleOf_eq_some_iff (bytes : List Byte) (v : Text) : vehicleOf bytes = some v ↔
    (∃ k, bytes = v ++ zeros k) ∧ 1 ≤ v.length ∧ v.length ≤ 10
      ∧ ∀ c ∈ v, (65 ≤ c.toNat ∧ c.toNat ≤ 90) ∨ (48 ≤ c.toNat ∧ c.toNat ≤ 57) := by
  have hcond : vehicleOf bytes = some v ↔ unfill bytes = v ∧ 1 ≤ v.length ∧ v.length ≤ 10
      ∧ ∀ c ∈ v, isVehicleChar c = true := by
    unfold vehicleOf
    dsimp only
    constructor
    · intro h
      split at h
      · cases h
      · split at h
        · rename_i hlength hchars
          cases h
          exact ⟨rfl, by omega, by omega, List.all_eq_true.1 hchars⟩
        · cases h
    · rintro ⟨rfl, hmin, hmax, hchars⟩
      rw [if_neg (by omega), if_pos (List.all_eq_true.2 hchars)]
  simp only [isVehicleChar_iff] at hcond
  rw [hcond]
  constructor
  · rintro ⟨rfl, hrest⟩
    exact ⟨unfill_append_zeros bytes, hrest⟩
  · rintro ⟨⟨k, rfl⟩, hmin, hmax, hchars⟩
    refine ⟨unfill_filled (fun c hc e => ?_) k, hmin, hmax, hchars⟩
    have hchar := hchars c hc
    rw [e] at hchar
    revert hchar
    decide

end VehicleId

/-! ### The tests of ANNOUNCE (R49) -/

section Tests

variable {s : State} {l : Lane} {a : Announcement} {v : Text}
variable {vehicle : List Byte} {account : BitVec 16} {category kind : Byte} {payload : BitVec 32}

/-- What R49's first test refuses of a vehicle identifier that is well formed. -/
def Misdeclared (account : BitVec 16) (category kind : Byte) (payload : BitVec 32) : Prop :=
  account.toNat = 0 ∨ category.toNat < 1 ∨ 8 < category.toNat ∨ (kind.toNat ≠ 1 ∧ kind.toNat ≠ 2) ∨ 150000 < payload.toNat

theorem kindOf_eq (b : Byte) : kindOf b =
    if b.toNat = 1 then some .delivery else if b.toNat = 2 then some .collection else none := by
  unfold kindOf
  split
  · rename_i h
    rw [h]; rfl
  · rename_i h
    rw [h]; rfl
  · rename_i h1 h2
    rw [if_neg h1, if_neg h2]

theorem announcementOf_malformed (h : vehicleOf vehicle = none ∨ Misdeclared account category kind payload) :
    announcementOf vehicle account category kind payload = none := by
  unfold announcementOf
  split
  · rename_i v k hv hk
    have hkind : ¬ (kind.toNat ≠ 1 ∧ kind.toNat ≠ 2) := fun ⟨h1, h2⟩ => by
      rw [kindOf_eq, if_neg h1, if_neg h2] at hk
      cases hk
    refine if_pos ?_
    rcases h with h | h
    · rw [h] at hv
      cases hv
    · unfold Misdeclared at h
      tauto
  · rfl

/-- What ANNOUNCE carries, well formed (R49, R178). -/
def declared (v : Text) (account : BitVec 16) (category kind : Byte) (payload : BitVec 32) : Announcement :=
  { vehicle := v, account := account.toNat, category := category.toNat,
    kind := if kind.toNat = 1 then .delivery else .collection, payload := payload.toNat }

theorem announcementOf_wellFormed (hv : vehicleOf vehicle = some v) (h : ¬ Misdeclared account category kind payload) :
    announcementOf vehicle account category kind payload = some (declared v account category kind payload) := by
  unfold Misdeclared at h
  have hkind : kindOf kind = some (if kind.toNat = 1 then .delivery else .collection) := by
    rw [kindOf_eq]
    split
    · rfl
    · rw [if_pos (by tauto)]
  unfold announcementOf
  rw [hv, hkind]
  exact if_neg (by tauto)

/-- ANNOUNCE is barred by the lane, by a clock that is not set, and by an open visit of the vehicle (R49). -/
def AnnounceBarred (s : State) (l : Lane) (v : Text) : Prop :=
  (s.lane l).params.mode = .closed ∨ (s.lane l).params.direction = .outbound ∨ s.clock.isSet = false
    ∨ ∃ q ∈ s.visits.records, q.2.vehicle = v

/-- The account or the category is not there (R49). -/
def Unlisted (s : State) (account category : Nat) : Prop :=
  (∀ q ∈ s.allow.accounts, q.2.number ≠ account) ∨ Table.find s.allow.categories category = none

/-- No entry or no slot is free (R49). -/
def AnnounceFull (s : State) (l : Lane) : Prop :=
  (∀ e, e < 64 → Table.find s.visits.records e ≠ none) ∨ 4 ≤ (queueOf s l).length

theorem findVehicle_isSome_iff (s : State) (v : Text) :
    (findVehicle s v).isSome = true ↔ ∃ q ∈ s.visits.records, q.2.vehicle = v := by
  rw [Option.isSome_iff_ne_none, Ne, findVehicle_eq_none_iff]
  push Not
  rfl

theorem findAccount_isNone_iff (s : State) (n : Nat) :
    (findAccount s n).isNone = true ↔ ∀ q ∈ s.allow.accounts, q.2.number ≠ n := by
  simp [findAccount]

theorem announceBarred_iff (s : State) (l : Lane) (v : Text) : AnnounceBarred s l v ↔
    (s.lane l).params.mode = .closed ∨ (s.lane l).params.direction = .outbound ∨ (!s.clock.isSet) = true
      ∨ (findVehicle s v).isSome = true := by
  rw [findVehicle_isSome_iff, Bool.not_eq_true']
  rfl

theorem unlisted_iff (s : State) (account category : Nat) : Unlisted s account category ↔
    (findAccount s account).isNone = true ∨ (Table.find s.allow.categories category).isNone = true := by
  rw [findAccount_isNone_iff, Option.isNone_iff_eq_none]
  rfl

theorem announceFull_iff (s : State) (l : Lane) : AnnounceFull s l ↔
    (Table.lowestFree s.visits.records 64).isNone = true ∨ 4 ≤ (queueOf s l).length := by
  rw [Option.isNone_iff_eq_none, Table.lowestFree_eq_none_iff]
  rfl

theorem announceRefusal_barred (h : AnnounceBarred s l a.vehicle) : announceRefusal s l a = some .state :=
  if_pos ((announceBarred_iff s l a.vehicle).1 h)

theorem announceRefusal_unlisted (h : ¬ AnnounceBarred s l a.vehicle) (hu : Unlisted s a.account a.category) :
    announceRefusal s l a = some .noSuch :=
  (if_neg fun hc => h ((announceBarred_iff s l a.vehicle).2 hc)).trans (if_pos ((unlisted_iff s _ _).1 hu))

theorem announceRefusal_full (h : ¬ AnnounceBarred s l a.vehicle) (hu : ¬ Unlisted s a.account a.category)
    (hf : AnnounceFull s l) : announceRefusal s l a = some .full :=
  (if_neg fun hc => h ((announceBarred_iff s l a.vehicle).2 hc)).trans
    ((if_neg fun hc => hu ((unlisted_iff s _ _).2 hc)).trans (if_pos ((announceFull_iff s l).1 hf)))

theorem announceRefusal_accepts (h : ¬ AnnounceBarred s l a.vehicle) (hu : ¬ Unlisted s a.account a.category)
    (hf : ¬ AnnounceFull s l) : announceRefusal s l a = none :=
  (if_neg fun hc => h ((announceBarred_iff s l a.vehicle).2 hc)).trans
    ((if_neg fun hc => hu ((unlisted_iff s _ _).2 hc)).trans (if_neg fun hc => hf ((announceFull_iff s l).2 hc)))

theorem announceBody_refused {r : Result} (h : announceRefusal s l a = some r) :
    announceBody l (some a) s = ((r, ReplyData.zero), s) := by
  unfold announceBody
  dsimp only
  rw [h]

theorem announceBody_accepted (h : announceRefusal s l a = none) : announceBody l (some a) s = announceVisit l a s := by
  unfold announceBody
  dsimp only
  rw [h]

end Tests

/-! ### The new visit (R43, R44, R46) -/

section NewVisit

variable {s : State} {l : Lane} {a : Announcement} {e : Nat} {slot : Slot}

theorem freeNumber_congr {t : State} (h : t.visits = s.visits) (fuel n : Nat) :
    freeNumber t fuel n = freeNumber s fuel n := by
  induction fuel generalizing n with
  | zero => rfl
  | succ fuel ih => rw [freeNumber, freeNumber, findVisit_congr h, ih]

theorem newVisit_modPort (s : State) (p : PortId) (f : Port → Port) (l : Lane) (a : Announcement) :
    newVisit (s.modPort p f) l a = newVisit s l a := by
  have hnumber : takenNumber (s.modPort p f) = takenNumber s := freeNumber_congr rfl 64 s.visits.next
  unfold newVisit
  rw [hnumber]
  rfl

/-- The state with the new visit listed and in its lane's queue. -/
def announced (l : Lane) (a : Announcement) (e : Nat) (slot : Slot) (s : State) : State :=
  placeVisit l slot (takenNumber s) .entry (listVisit e (newVisit s l a) (nextNumber (takenNumber s)) s)

/-- The new visit at its lane. -/
def placedVisit (l : Lane) (a : Announcement) (slot : Slot) (s : State) : Visit :=
  { newVisit s l a with place := some { lane := l, slot := slot, pass := .entry } }

/-- No other visit has the new one's number, so its place is the only record that changes with the queue. -/
theorem announced_records (h : findVisit s (takenNumber s) = none) (l : Lane) (a : Announcement) (e : Nat) (slot : Slot) :
    (announced l a e slot s).visits.records = Table.insert s.visits.records e (placedVisit l a slot s) := by
  have hothers := congrArg VisitTable.records
    (modVisit_of_none h fun v => { v with place := some { lane := l, slot := slot, pass := .entry } })
  rw [modVisit_records] at hothers
  have hself : (newVisit s l a).number = takenNumber s := rfl
  unfold announced placeVisit
  rw [modVisit_records]
  refine (Table.mapVals_insert s.visits.records e (newVisit s l a) _).trans ?_
  rw [hothers, if_pos hself]
  rfl

theorem announced_queueOf (l : Lane) (a : Announcement) (e : Nat) (slot : Slot) (s : State) (k : Lane) :
    queueOf (announced l a e slot s) k = if k = l then queueOf s l ++ [(slot, takenNumber s)] else queueOf s k :=
  placeVisit_queueOf l slot _ .entry (listVisit e (newVisit s l a) (nextNumber (takenNumber s)) s) k

theorem announced_findVisit (hs : VisitsOk s) (h : announceRefusal s l a = none)
    (he : Table.lowestFree s.visits.records 64 = some e) (slot : Slot) :
    findVisit (announced l a e slot s) (takenNumber s) = some (placedVisit l a slot s) := by
  obtain ⟨-, hvehicle, -⟩ := announceRefusal_none h
  obtain ⟨hlt, hfree⟩ := Table.lowestFree_some he
  have listed : VisitsOk (listVisit e (newVisit s l a) (nextNumber (takenNumber s)) s) :=
    hs.insertVisit hlt hfree (hs.takenNumber_free he) hvehicle rfl _
  have hfound := listed.findVisit_of_mem
    ((mem_listVisit (v := newVisit s l a) (k := nextNumber (takenNumber s)) hfree).2 (.inl rfl))
  have hself : findVisit (listVisit e (newVisit s l a) (nextNumber (takenNumber s)) s) (takenNumber s) =
      some (newVisit s l a) := hfound
  rw [announced, placeVisit_findVisit, if_pos rfl, hself]
  rfl

/-- What an accepted ANNOUNCE does, at a port as an exchange finds it. -/
theorem announceVisit_eq (hs : VisitsOk s) (h : announceRefusal s l a = none)
    (he : Table.lowestFree s.visits.records 64 = some e) (hslot : freeSlot (queueOf s l) = some slot) :
    announceVisit l a s = ((.done, placedData s l slot (takenNumber s) (tareKnown s a.vehicle)),
      handJoined l (queueOf s l).isEmpty (announced l a e slot s)) := by
  have hjoin : joinQueue l (takenNumber s) .entry (listVisit e (newVisit s l a) (nextNumber (takenNumber s)) s) =
      handJoined l (queueOf s l).isEmpty (announced l a e slot s) :=
    joinQueue_handJoined (s := listVisit e (newVisit s l a) (nextNumber (takenNumber s)) s) hslot _ _
  have hvisits : (handJoined l (queueOf s l).isEmpty (announced l a e slot s)).visits = (announced l a e slot s).visits :=
    visits_of_outsideYard (handJoined_outsideYard l _ _)
  have hreply := replyFor_placed ((findVisit_congr hvisits _).trans (announced_findVisit hs h he slot)) rfl
    (tareKnown s a.vehicle)
  have hgenerations : ((announced l a e slot s).visits.queues.get l).generations =
      (s.visits.queues.get l).generations := placeVisit_generations _ _ _ _ _ _
  rw [hvisits, hgenerations] at hreply
  unfold announceVisit
  rw [he]
  show ((Result.done, replyFor (joinQueue l (takenNumber s) .entry (listVisit e (newVisit s l a)
    (nextNumber (takenNumber s)) s)) (takenNumber s) (tareKnown s a.vehicle)), joinQueue l (takenNumber s) .entry
      (listVisit e (newVisit s l a) (nextNumber (takenNumber s)) s)) = _
  rw [hjoin, hreply]
  rfl

end NewVisit

/-! ### The obligation -/

section Announce

variable {s : State} {p : PortId} {b : Byte} {l : Lane} {a : Announcement}
variable {vehicle : List Byte} {account : BitVec 16} {category kind : Byte} {payload : BitVec 32}

/-- The branches of ANNOUNCE that refuse. -/
theorem exec_announce_refused {r : Result} (h : Takes s p) (hb : laneBytePermitted p b = true) (hl : laneOf p b = some l)
    (hbody : announceBody l (announcementOf vehicle account category kind payload) (beginExchange p s) =
      ((r, ReplyData.zero), beginExchange p s)) :
    exec (.announce p b vehicle account category kind payload) s = .next (s.answer p 0x30#8 r) :=
  dataCommand_refused h 0x30#8 hb (by rw [hl]; exact hbody)

theorem announced_begun (l : Lane) (a : Announcement) (e : Nat) (slot : Slot) (p : PortId) (s : State) :
    announced l a e slot (beginExchange p s) = beginExchange p (s.setVisits (announced l a e slot s).visits) := by
  have hnumber : takenNumber (beginExchange p s) = takenNumber s := freeNumber_congr rfl 64 s.visits.next
  unfold announced
  rw [hnumber, show newVisit (beginExchange p s) l a = newVisit s l a from newVisit_modPort s p _ l a]
  rfl

theorem exec_announce_accepted {e : Nat} {slot : Slot} (hs : VisitsOk s) (h : Takes s p)
    (hb : laneBytePermitted p b = true) (hl : laneOf p b = some l)
    (ha : announcementOf vehicle account category kind payload = some a) (hr : announceRefusal s l a = none)
    (he : Table.lowestFree s.visits.records 64 = some e) (hslot : freeSlot (queueOf s l) = some slot) :
    exec (.announce p b vehicle account category kind payload) s =
      .next ((handJoined l (queueOf s l).isEmpty (s.setVisits (announced l a e slot s).visits)).modPort p
        fun x => x.answeredWith 0x30#8 .done (placedData s l slot (takenNumber s) (tareKnown s a.vehicle))) := by
  have hnumber : takenNumber (beginExchange p s) = takenNumber s := freeNumber_congr rfl 64 s.visits.next
  have hbody : announceBody l (some a) (beginExchange p s) =
      ((.done, placedData s l slot (takenNumber s) (tareKnown s a.vehicle)),
        beginExchange p (handJoined l (queueOf s l).isEmpty (s.setVisits (announced l a e slot s).visits))) := by
    refine (announceBody_accepted (s := beginExchange p s) hr).trans ?_
    rw [announceVisit_eq (s := beginExchange p s) (hs.of_visits rfl) hr he hslot, announced_begun, hnumber]
    exact congrArg _ ((handJoined_laneOp l _).modPort _ p _)
  exact dataCommand_answered h 0x30#8 hb (by rw [hl, ha]; exact hbody)

/-- Settles O32: the refusals are the branches of the tests in R49's order; an accepted ANNOUNCE lists one record and queues
it, and beyond the visit table moves what the sequencer makes of a new head. -/
theorem announceMakesAVisit : Obligations.AnnounceMakesAVisit := by
  refine ⟨vehicleOf_eq_some_iff, fun s p b vehicle account category kind payload h hb => ?_,
    fun s p b l vehicle account category kind payload a hs h hb hl ha hr => ?_⟩
  · intro refused malformed
    refine ⟨fun hl => dataCommand_refused h 0x30#8 hb (by rw [hl]), fun l hl => ⟨fun hm => ?_, fun v hv hm => ?_⟩⟩
    · have hnone : announcementOf vehicle account category kind payload = none := announcementOf_malformed hm
      exact exec_announce_refused h hb hl (by rw [hnone]; rfl)
    · have hdeclared : ¬ Misdeclared account category kind payload := fun hd => hm (.inr hd)
      have ha := announcementOf_wellFormed hv hdeclared
      have tested : ∀ {r}, announceRefusal s l (declared v account category kind payload) = some r → refused r :=
        fun ht => exec_announce_refused h hb hl (by rw [ha]; exact announceBody_refused ht)
      exact ⟨fun hbarred => tested (announceRefusal_barred hbarred),
        fun hbarred hunlisted => tested (announceRefusal_unlisted hbarred hunlisted),
        fun hbarred hunlisted hfull => tested (announceRefusal_full hbarred hunlisted hfull),
        fun hbarred hunlisted hfull => ⟨_, ha, announceRefusal_accepts hbarred hunlisted hfull, rfl, rfl, rfl, rfl, rfl⟩⟩
  · obtain ⟨⟨e, he⟩, -, hroom⟩ := announceRefusal_none hr
    obtain ⟨slot, hslot⟩ := freeSlot_of_room hroom
    have hfree := hs.takenNumber_free he
    obtain ⟨hvisits, hjoined⟩ := joinedAt l p 0x30#8 (placedData s l slot (takenNumber s) (tareKnown s a.vehicle))
      (queueOf s l).isEmpty (announced l a e slot s).visits s
    refine ⟨_, placedVisit l a slot s, e, slot, exec_announce_accepted hs h hb hl ha hr he hslot, he, rfl, hfree, rfl, rfl,
      rfl, rfl, rfl, rfl, rfl, rfl, rfl, rfl, rfl, rfl, rfl, rfl, rfl, rfl, hslot, ?_, ?_, ?_, fun k hk => ?_,
      hjoined.result, hjoined.command, hjoined.data, hjoined.ports, ?_, hjoined.keeps, hjoined.lanes⟩
    · rw [hvisits]
      exact announced_records hfree l a e slot
    · rw [hvisits]
      rfl
    · rw [queueOf_congr hvisits, announced_queueOf, if_pos rfl]
      rfl
    · rw [queueOf_congr hvisits, announced_queueOf, if_neg hk]
    · rw [hjoined.data]
      exact hjoined.yard

end Announce

end Sys2Proof.Machine

/-! PROOFS, 10_master_ports (R167, R175, R176) and 04_stored_tares (R72). WRITE RECORD: its framing, its own refusals and the
hand-over to the owner of the table. -/

namespace Sys2Proof.Machine
open Sys2Proof

/-! ### The WRITE RECORD exchange (R167, R176) -/

section WriteRecord

variable {s : State} {p : PortId} {t : TableId} {i : Nat} {framed : Port → Bool} {w : TableId → Option TableWrite}

theorem beginExchange_port (p : PortId) (s : State) :
    (beginExchange p s).port p = { s.port p with reply := none, move := none } := modPort_port s p _

@[simp] theorem beginExchange_cursor (p : PortId) (s : State) : ((beginExchange p s).port p).cursor = (s.port p).cursor := by
  rw [beginExchange_port]

@[simp] theorem beginExchange_follow (p : PortId) (s : State) : ((beginExchange p s).port p).follow = (s.port p).follow := by
  rw [beginExchange_port]

/-- The framing test reads the cursor alone. -/
theorem writeRecordFramed_congr {x y : Port} (h : x.cursor = y.cursor) (n : Nat) :
    writeRecordFramed x n = writeRecordFramed y n := by
  unfold writeRecordFramed
  rw [h]

theorem writeRecordFramed_none {x : Port} (h : x.cursor = none) (n : Nat) : writeRecordFramed x n = true := by
  simp [writeRecordFramed, h]

/-- At a table the framing test holds the byte count to the write length, where the table has one. -/
theorem writeRecordFramed_at {x : Port} (h : x.cursor = some (t, i)) (n : Nat) :
    writeRecordFramed x n = true ↔ ∀ k, t.writeLength = some k → n = k := by
  cases hk : t.writeLength <;> simp [writeRecordFramed, h, hk]

/-- A WRITE RECORD that passes framing is an office command with the write as its body. -/
theorem writeRecordExchange_framed (h : Takes s .office) (hf : framed ((beginExchange .office s).port .office) = true) :
    writeRecordExchange .office framed w s = command .office 0x1A#8 true (writeAtCursor .office w) s := by
  obtain ⟨hpower, -, -, hfollow⟩ := h
  simp [writeRecordExchange, command, whenRunning, exchange, hpower, hfollow, hf, isOffice]

/-- A WRITE RECORD that fails framing leaves the framing result alone (R167, log 10). -/
theorem writeRecordExchange_unframed (h : Takes s .office)
    (hf : framed ((beginExchange .office s).port .office) = false) :
    writeRecordExchange .office framed w s = .next (framingResult .office s) := by
  obtain ⟨hpower, -, -, hfollow⟩ := h
  have hbegun : framingResult .office (beginExchange .office s) = framingResult .office s := modPort_modPort s .office _ _
  simp [writeRecordExchange, whenRunning, exchange, hpower, hfollow, hf, hbegun]

/-! #### The write at the cursor (R176) -/

theorem writeAtCursor_unselected (h : (s.port p).cursor = none) : writeAtCursor p w s = (.state, s) := by
  simp [writeAtCursor, h]

theorem writeAtCursor_unwritable (h : (s.port p).cursor = some (t, i)) (ht : t.writeLength = none) :
    writeAtCursor p w s = (.denied, s) := by
  simp [writeAtCursor, h, ht]

/-- The write of a writable table is its owner's, and the cursor moves on. -/
theorem writeAtCursor_owner {x : TableWrite} {r : Result} {u : State} (h : (s.port p).cursor = some (t, i))
    (ht : t.writeLength ≠ none) (hw : w t = some x) (ho : ownerWrite i x s = (r, u)) :
    writeAtCursor p w s = (r, u.modPort p fun y => { y with cursor := some (t, t.after i) }) := by
  simp [writeAtCursor, h, ht, hw, ho]

/-- Only what the bytes spell for the selected table counts. -/
theorem writeAtCursor_congr {w' : TableId → Option TableWrite} (h : (s.port p).cursor = some (t, i)) (hw : w t = w' t) :
    writeAtCursor p w s = writeAtCursor p w' s := by
  unfold writeAtCursor
  simp only [h, hw]

/-- The row of a table, its fields spelled out, at a cursor in that table: an owner that changes the state to `u`, away from
the port's answer, leaves `u` with the answer and the cursor moved on. -/
theorem writeTable_wrote {x : TableWrite} {r : Result} {u : State} (h : Takes s .office)
    (hcursor : (s.port .office).cursor = some (t, i)) (ht : t.writeLength ≠ none)
    (ho : ownerWrite i x (beginExchange .office s) = (r, beginExchange .office u)) :
    writeTable .office t x s = .next (u.wrote t i r) := by
  have hbegun : ((beginExchange .office s).port .office).cursor = some (t, i) := (beginExchange_cursor _ _).trans hcursor
  have hf : writeRecordFramed ((beginExchange .office s).port .office) (t.writeLength.getD 0) = true :=
    (writeRecordFramed_at hbegun _).2 fun k hk => by rw [hk]; rfl
  have hbody : writeAtCursor .office (fun k => if k = t then some x else none) (beginExchange .office s) =
      (r, beginExchange .office (u.modPort .office fun y => { y with cursor := some (t, t.after i) })) :=
    writeAtCursor_owner hbegun ht (if_pos rfl) ho
  exact (writeRecordExchange_framed h hf).trans (command_eq_answer h 0x1A#8 rfl hbody)

/-! #### As argument bytes -/

variable {args : List Byte}

theorem exec_writeRecord (p : PortId) (args : List Byte) (s : State) : exec (.writeRecord p args) s =
    writeRecordExchange p (fun x => writeRecordFramed x args.length) (fun t => tableWriteOf t args) s := rfl

/-- A count that fits the cursor makes a WRITE RECORD an office command. -/
theorem exec_writeRecord_framed (h : Takes s .office) (hf : writeRecordFramed (s.port .office) args.length = true) :
    exec (.writeRecord .office args) s =
      command .office 0x1A#8 true (writeAtCursor .office fun t => tableWriteOf t args) s :=
  (exec_writeRecord .office args s).trans
    (writeRecordExchange_framed h ((writeRecordFramed_congr (beginExchange_cursor .office s) _).trans hf))

/-- WRITE RECORD's own refusals are the answers of a body that leaves the state alone. -/
theorem exec_writeRecord_refused {r : Result} (h : Takes s .office)
    (hf : writeRecordFramed (s.port .office) args.length = true)
    (hbody : writeAtCursor .office (fun t => tableWriteOf t args) (beginExchange .office s) =
      (r, beginExchange .office s)) :
    exec (.writeRecord .office args) s = .next (s.answer .office 0x1A#8 r) :=
  (exec_writeRecord_framed h hf).trans (command_refused h 0x1A#8 rfl hbody)

theorem exec_writeRecord_unframed (h : Takes s .office) (hf : writeRecordFramed (s.port .office) args.length = false) :
    exec (.writeRecord .office args) s = .next (framingResult .office s) :=
  (exec_writeRecord .office args s).trans
    (writeRecordExchange_unframed h ((writeRecordFramed_congr (beginExchange_cursor .office s) _).trans hf))

/-- Bytes of the table's write length are the write they spell, with its fields taken apart. -/
theorem exec_writeRecord_writeTable {x : TableWrite} (h : Takes s .office)
    (hcursor : (s.port .office).cursor = some (t, i)) (ht : t.writeLength = some args.length)
    (hw : tableWriteOf t args = some x) : exec (.writeRecord .office args) s = writeTable .office t x s := by
  have hbegun : ((beginExchange .office s).port .office).cursor = some (t, i) := (beginExchange_cursor _ _).trans hcursor
  have hargs : writeRecordFramed (s.port .office) args.length = true :=
    (writeRecordFramed_at hcursor _).2 fun k hk => Option.some.inj (ht.symm.trans hk)
  have hfields : writeRecordFramed ((beginExchange .office s).port .office) (t.writeLength.getD 0) = true := by
    rw [ht]
    exact (writeRecordFramed_congr (beginExchange_cursor .office s) _).trans hargs
  have hbodies : writeAtCursor .office (fun u => tableWriteOf u args) (beginExchange .office s) =
      writeAtCursor .office (fun u => if u = t then some x else none) (beginExchange .office s) :=
    writeAtCursor_congr hbegun (hw.trans (if_pos rfl).symm)
  have hcommand : writeTable .office t x s = command .office 0x1A#8 true
      (writeAtCursor .office fun u => if u = t then some x else none) s := writeRecordExchange_framed h hfields
  rw [exec_writeRecord_framed h hargs, hcommand, command_of_takes h _ rfl, command_of_takes h _ rfl, hbodies]

end WriteRecord

/-! ### A tare deleted (R72) -/

section TareDeleted

variable {s : State} {i : Nat}

theorem exec_deleteTare (h : Takes s .office) (hcursor : (s.port .office).cursor = some (.tares, i)) :
    exec (.deleteTare .office) s =
      .next ((s.setTares { s.tares with entries := Table.erase s.tares.entries i }).wrote .tares i .done) :=
  writeTable_wrote h hcursor (by decide) rfl

/-- Operation byte 1 spells the delete, whatever follows it. -/
theorem tableWriteOf_tares_delete (rest : List Byte) : tableWriteOf .tares (1#8 :: rest) = some .tareDelete := rfl

end TareDeleted

/-- Settles O25: the cursor decides the framing test and the two refusals, and the bytes spell the owner's write. -/
theorem writeRecordIsTestedAndHandedOver : Obligations.WriteRecordIsTestedAndHandedOver := by
  intro s args h
  refine ⟨fun hnone => ?_, fun t i hcursor => ⟨fun ht => ?_, fun n ht hn => ?_, fun x ht hw => ?_,
    fun rest htares hargs hrest => ?_⟩⟩
  · exact exec_writeRecord_refused h (writeRecordFramed_none hnone _)
      (writeAtCursor_unselected ((beginExchange_cursor _ _).trans hnone))
  · exact exec_writeRecord_refused h ((writeRecordFramed_at hcursor _).2 fun k hk => by simp [ht] at hk)
      (writeAtCursor_unwritable ((beginExchange_cursor _ _).trans hcursor) ht)
  · exact exec_writeRecord_unframed h (Bool.eq_false_iff.2 fun hf => hn ((writeRecordFramed_at hcursor _).1 hf n ht))
  · exact exec_writeRecord_writeTable h hcursor ht hw
  · subst htares hargs
    rw [exec_writeRecord_writeTable h hcursor (by simp [hrest, TableId.writeLength]) (tableWriteOf_tares_delete rest)]
    exact exec_deleteTare h hcursor

end Sys2Proof.Machine

/-! PROOFS, 04_stored_tares. Manual tares, validity, the query and the lookup, what a ticket keeps and where it is placed. -/

namespace Sys2Proof.Machine
open Sys2Proof

/-! ### Manual tares (R72) -/

section ManualTares

variable {s : State} {i : Nat} {vehicle : List Byte} {v : Text} {tare deck : Nat}

/-- Another entry holds the vehicle. -/
theorem tareHeldElsewhere_iff (t : Table TareEntry) (i : Nat) (v : Text) :
    (t.any fun p => decide (p.1 ≠ i) && decide (p.2.vehicle = v)) = true ↔ ∃ p ∈ t, p.2.vehicle = v ∧ p.1 ≠ i := by
  simp only [List.any_eq_true, Bool.and_eq_true, decide_eq_true_eq, and_comm]

/-- A tare that the store accepts is held with the present time, as a manual one. -/
theorem storeTare_stored (hv : vehicleOf vehicle = some v) (hlow : 1 ≤ tare) (hhigh : tare ≤ 150000) (hdeck : deck ≤ 4)
    (hset : s.clock.isSet = true) (hsole : ∀ p ∈ s.tares.entries, p.2.vehicle = v → p.1 = i) :
    storeTare i vehicle tare deck s = (.done, setTare i
      { vehicle := v, tare := tare, deck := deck, taken := nowStamp s, manual := true, uses := 0 } s) := by
  have hfields : ¬ (tare < 1 ∨ 150000 < tare ∨ 4 < deck) := by omega
  have hunheld := (tareHeldElsewhere_iff s.tares.entries i v).not.2 fun ⟨p, hp, hvehicle, hother⟩ =>
    hother (hsole p hp hvehicle)
  unfold storeTare
  simp only [hv, if_neg hfields, hset, if_neg hunheld]
  rfl

/-- Without a clock time, or beside another entry of the vehicle, a tare is refused. -/
theorem storeTare_refused (hv : vehicleOf vehicle = some v) (hlow : 1 ≤ tare) (hhigh : tare ≤ 150000) (hdeck : deck ≤ 4)
    (h : s.clock.isSet = false ∨ ∃ p ∈ s.tares.entries, p.2.vehicle = v ∧ p.1 ≠ i) :
    storeTare i vehicle tare deck s = (.state, s) := by
  have hfields : ¬ (tare < 1 ∨ 150000 < tare ∨ 4 < deck) := by omega
  unfold storeTare
  simp only [hv, if_neg hfields]
  rcases h with hunset | hheld
  · simp only [hunset]
    rfl
  · simp only [if_pos ((tareHeldElsewhere_iff s.tares.entries i v).2 hheld), ite_self]

variable {weight : BitVec 32} {deckByte : Byte}

/-- A manual tare of the office, by what the store makes of it. -/
theorem exec_writeTare {r : Result} {u : State} (h : Takes s .office)
    (hcursor : (s.port .office).cursor = some (.tares, i))
    (hstore : storeTare i vehicle weight.toNat deckByte.toNat (beginExchange .office s) = (r, beginExchange .office u)) :
    exec (.writeTare .office vehicle weight deckByte) s = .next (u.wrote .tares i r) :=
  writeTable_wrote h hcursor (by decide) hstore

end ManualTares

/-! ### Validity, the query and the lookup (R67 to R69) -/

section Lookup

variable {s : State} {v : Text} {i : Nat} {e : TareEntry}

theorem tareValid_iff (s : State) (e : TareEntry) : tareValid s e = true ↔
    0 < s.tares.validity ∧ (s.clock.day + 65536 - e.taken.day) % 65536 < s.tares.validity := by
  rw [tareValid, Bool.and_eq_true, decide_eq_true_iff, decide_eq_true_iff, tareAge]

theorem tareEntryOf_mem (h : tareEntryOf s v = some (i, e)) : (i, e) ∈ s.tares.entries := List.mem_of_find?_eq_some h

theorem tareEntryOf_vehicle (h : tareEntryOf s v = some (i, e)) : e.vehicle = v := by
  simpa using List.find?_some h

theorem tareEntryOf_none_iff : tareEntryOf s v = none ↔ ∀ p ∈ s.tares.entries, p.2.vehicle ≠ v := by
  simp [tareEntryOf, List.find?_eq_none]

theorem tareKnown_some (h : tareEntryOf s v = some (i, e)) : tareKnown s v = tareValid s e := by simp [tareKnown, h]

theorem tareKnown_none (h : tareEntryOf s v = none) : tareKnown s v = false := by simp [tareKnown, h]

/-- A use more, of no more than 65 535. -/
theorem countedUse (n : Nat) : (if n < 65535 then n + 1 else 65535) = min 65535 (n + 1) := by
  split <;> omega

theorem tareLookup_valid (h : tareEntryOf s v = some (i, e)) (hvalid : tareValid s e = true) :
    tareLookup v s = (some (e.tare, e.manual), s.setTares { s.tares with
      entries := Table.insert s.tares.entries i { e with uses := min 65535 (e.uses + 1) } }) := by
  unfold tareLookup
  simp only [h, hvalid, if_true, countedUse]
  rfl

theorem tareLookup_expired (h : tareEntryOf s v = some (i, e)) (hvalid : tareValid s e = false) :
    tareLookup v s = (none, s) := by
  simp [tareLookup, h, hvalid]

theorem tareLookup_unlisted (h : tareEntryOf s v = none) : tareLookup v s = (none, s) := by
  simp [tareLookup, h]

end Lookup

/-! ### What a ticket keeps (R70) -/

section Keeping

variable {s : State} {v : Visit}

theorem keptTare_wanted {a : Account} (ha : findAccount s v.account = some a) (hsource : v.tareSource = .weighed)
    (hkeep : a.keepTares = true) (hnet : v.negativeNet = false) :
    keptTare s v = if v.kind = .delivery then v.second else v.first := by
  unfold keptTare
  simp only [ha, hsource, hnet, hkeep, Option.map_some, and_self, if_true]
  cases v.kind <;> rfl

theorem keptTare_unwanted (h : v.tareSource ≠ .weighed ∨ v.negativeNet = true
    ∨ ∀ a, findAccount s v.account = some a → a.keepTares = false) : keptTare s v = none := by
  unfold keptTare
  refine if_neg fun ⟨hsource, hnet, hkeep⟩ => ?_
  obtain ⟨a, ha, hkept⟩ := Option.map_eq_some_iff.1 hkeep
  rcases h with h | h | h
  · exact h hsource
  · simp [hnet] at h
  · simp [h a ha] at hkept

theorem keepTare_some {w : CapturedWeight} (h : keptTare s v = some w) : keepTare v s = placeTare v.vehicle w s := by
  simp [keepTare, h]

theorem keepTare_none (h : keptTare s v = none) : keepTare v s = s := by simp [keepTare, h]

end Keeping

/-! ### The oldest weighed entry (R71) -/

section Oldest

variable {t : Table TareEntry} {p q b : Nat × TareEntry}

/-- An entry was taken before another, or at the same time and at no higher number (R71). -/
def Older (p q : Nat × TareEntry) : Prop :=
  p.2.taken.day < q.2.taken.day ∨ (p.2.taken.day = q.2.taken.day ∧ (p.2.taken.second < q.2.taken.second
    ∨ (p.2.taken.second = q.2.taken.second ∧ p.1 ≤ q.1)))

theorem Older.refl (p : Nat × TareEntry) : Older p p := .inr ⟨rfl, .inr ⟨rfl, le_rfl⟩⟩

theorem Older.trans (h : Older p q) (h' : Older q b) : Older p b := by
  unfold Older at *
  omega

theorem Older.number_eq (h : Older p q) (h' : Older q p) : p.1 = q.1 := by
  unfold Older at *
  omega

theorem Older.of_before (h : p.2.taken.before q.2.taken = true) : Older p q := by
  simp only [Stamp.before, decide_eq_true_eq] at h
  unfold Older
  omega

theorem Older.of_not_before (h : ¬ q.2.taken.before p.2.taken = true) (hn : p.1 ≤ q.1) : Older p q := by
  simp only [Stamp.before, decide_eq_true_eq] at h
  unfold Older
  omega

/-- A weighed entry of a table that is older than every other weighed one. -/
structure OldestIn (t : Table TareEntry) (b : Nat × TareEntry) : Prop where
  mem : b ∈ t
  weighed : b.2.manual = false
  older : ∀ q ∈ t, q.2.manual = false → Older b q

theorem OldestIn.number_eq (h : OldestIn t p) (h' : OldestIn t q) : p.1 = q.1 :=
  (h.older q h'.mem h'.weighed).number_eq (h'.older p h.mem h.weighed)

/-- A weighed entry older than the weighed ones before it is the oldest. -/
theorem OldestIn.last (hp : p.2.manual = false) (ho : ∀ q ∈ t, q.2.manual = false → Older p q) :
    OldestIn (t ++ [p]) p := by
  refine ⟨by simp, hp, fun q hq hm => ?_⟩
  rcases List.mem_append.1 hq with hq | hq
  · exact ho q hq hm
  · rw [List.mem_singleton.1 hq]
    exact .refl p

/-- An entry that is manual or no older leaves the oldest one in its place. -/
theorem OldestIn.kept (h : OldestIn t b) (hp : p.2.manual = false → Older b p) : OldestIn (t ++ [p]) b := by
  refine ⟨List.mem_append_left _ h.mem, h.weighed, fun q hq hm => ?_⟩
  rcases List.mem_append.1 hq with hq | hq
  · exact h.older q hq hm
  · rw [List.mem_singleton.1 hq] at hm ⊢
    exact hp hm

/-- The older of the best so far and the next entry, as `oldestWeighed` goes through the table. -/
def pickOlder (best : Option (Nat × TareEntry)) (p : Nat × TareEntry) : Option (Nat × TareEntry) :=
  if p.2.manual then best
  else
    match best with
    | none => some p
    | some b => if p.2.taken.before b.2.taken then some p else best

theorem oldestWeighed_eq (t : Table TareEntry) : oldestWeighed t = (t.foldl pickOlder none).map Prod.fst := rfl

/-- Going through a table of rising numbers finds its oldest weighed entry, if it has a weighed one. -/
theorem pickOlder_foldl (h : t.Pairwise fun p q => p.1 < q.1) :
    (t.foldl pickOlder none = none ∧ ∀ q ∈ t, q.2.manual = true) ∨ ∃ b, t.foldl pickOlder none = some b ∧ OldestIn t b := by
  induction t using List.reverseRecOn with
  | nil => exact .inl ⟨rfl, by simp⟩
  | append_singleton t p ih =>
    obtain ⟨ht, -, hlast⟩ := List.pairwise_append.1 h
    rw [List.foldl_append, List.foldl_cons, List.foldl_nil]
    rcases ih ht with ⟨hnone, hmanual⟩ | ⟨b, hb, hold⟩
    · rw [hnone]
      cases hp : p.2.manual with
      | true => exact .inl ⟨by simp [pickOlder, hp], List.forall_mem_append.2 ⟨hmanual, by simpa using hp⟩⟩
      | false =>
        exact .inr ⟨p, by simp [pickOlder, hp], .last hp fun q hq hm => absurd (hmanual q hq) (by simp [hm])⟩
    · rw [hb]
      cases hp : p.2.manual with
      | true => exact .inr ⟨b, by simp [pickOlder, hp], hold.kept fun hf => by simp [hp] at hf⟩
      | false =>
        by_cases hbefore : p.2.taken.before b.2.taken = true
        · exact .inr ⟨p, by simp [pickOlder, hp, hbefore],
            .last hp fun q hq hm => (Older.of_before hbefore).trans (hold.older q hq hm)⟩
        · exact .inr ⟨b, by simp [pickOlder, hp, hbefore],
            hold.kept fun _ => .of_not_before hbefore (hlast b hold.mem p (by simp)).le⟩

theorem oldestWeighed_of_oldestIn (hr : Table.rising t = true) (h : OldestIn t b) : oldestWeighed t = some b.1 := by
  rw [oldestWeighed_eq]
  rcases pickOlder_foldl ((Table.rising_iff t).1 hr) with ⟨-, hmanual⟩ | ⟨b', hb', hold⟩
  · exact absurd (hmanual b h.mem) (by simp [h.weighed])
  · rw [hb', Option.map_some, hold.number_eq h]

theorem oldestWeighed_manual (hr : Table.rising t = true) (h : ∀ q ∈ t, q.2.manual = true) : oldestWeighed t = none := by
  rw [oldestWeighed_eq]
  rcases pickOlder_foldl ((Table.rising_iff t).1 hr) with ⟨hnone, -⟩ | ⟨b, -, hold⟩
  · rw [hnone, Option.map_none]
  · exact absurd (h b hold.mem) (by simp [hold.weighed])

end Oldest

/-! ### Where a weighed tare is placed (R71) -/

section Placing

variable {s : State} {v : Text} {i : Nat} {e : TareEntry}

/-- A captured weight as the tare of a vehicle (R70, R71). -/
def weighedTare (v : Text) (w : CapturedWeight) : TareEntry :=
  { vehicle := v, tare := w.weight.toNat, deck := w.deck.num, taken := w.time, manual := false, uses := 0 }

theorem placeTare_own (h : tareEntryOf s v = some (i, e)) (w : CapturedWeight) :
    placeTare v w s = if e.manual = true then s else setTare i (weighedTare v w) s := by
  simp [placeTare, h, weighedTare]

theorem placeTare_free (h : tareEntryOf s v = none) (hfree : Table.lowestFree s.tares.entries 512 = some i)
    (w : CapturedWeight) : placeTare v w s = setTare i (weighedTare v w) s := by
  simp [placeTare, h, hfree, weighedTare]

theorem placeTare_oldest (h : tareEntryOf s v = none) (hfull : Table.lowestFree s.tares.entries 512 = none)
    (hold : oldestWeighed s.tares.entries = some i) (w : CapturedWeight) :
    placeTare v w s = setTare i (weighedTare v w) s := by
  simp [placeTare, h, hfull, hold, weighedTare]

theorem placeTare_manual (h : tareEntryOf s v = none) (hfull : Table.lowestFree s.tares.entries 512 = none)
    (hold : oldestWeighed s.tares.entries = none) (w : CapturedWeight) :
    placeTare v w s = raiseNotice .visit .office s := by
  simp [placeTare, h, hfull, hold]

end Placing

/-- Settles O29: the tare write by `writeTable_wrote`, the store's own operations by an equation for each of their cases, and
the placing over the oldest weighed entry by an induction over the table. -/
theorem manualTaresAreStoredAndDeleted : Obligations.ManualTaresAreStoredAndDeleted := by
  refine ⟨fun s i h hcursor => ⟨fun vehicle v tare deck hv hlow hhigh hdeck => ⟨fun hset hsole => ?_, fun hrefused => ?_⟩,
    exec_deleteTare h hcursor⟩, tareValid_iff, fun s v => ⟨fun i e he => ?_, tareEntryOf_none_iff, fun hnone => ?_⟩,
    fun s v => ⟨fun a ha hsource hkeep hnet w hw => ?_, fun hunwanted => ?_⟩,
    fun s v w hr => ⟨fun i e he => ?_, fun j hnone hfree => ?_, fun j e hnone hfull hmem hweighed holdest => ?_,
      fun hnone hfull hmanual => ?_⟩⟩
  · exact exec_writeTare h hcursor (storeTare_stored (s := beginExchange .office s) hv hlow hhigh hdeck hset hsole)
  · exact exec_writeTare h hcursor (storeTare_refused (s := beginExchange .office s) hv hlow hhigh hdeck hrefused)
  · exact ⟨tareEntryOf_mem he, tareEntryOf_vehicle he, tareKnown_some he, tareLookup_valid he, tareLookup_expired he⟩
  · exact ⟨tareKnown_none hnone, tareLookup_unlisted hnone⟩
  · exact keepTare_some ((keptTare_wanted ha hsource hkeep hnet).trans hw)
  · exact keepTare_none (keptTare_unwanted hunwanted)
  · exact placeTare_own he w
  · exact placeTare_free hnone hfree w
  · exact placeTare_oldest hnone hfull (oldestWeighed_of_oldestIn hr ⟨hmem, hweighed, holdest⟩) w
  · exact placeTare_manual hnone hfull (oldestWeighed_manual hr hmanual) w

end Sys2Proof.Machine

/-! PROOFS, 05_accounts_allowances_and_site_limits (R77, R79, R85 to R88) and 10_master_ports (R167, R176). The writes of
CATEGORIES, ACCOUNTS and SITE_CAPS: what each owner makes of a write, and what the office port's WRITE RECORD leaves. -/

namespace Sys2Proof.Machine
open Sys2Proof

/-! ### An owner that raises events (R158, R167, R176) -/

section EventfulOwner

variable {s u v : State} {t : TableId} {i : Nat} {r : Result} {x : TableWrite}

/-- A port's change depends on the port alone. -/
theorem modPort_congr (s : State) (p : PortId) {f g : Port → Port} (h : f (s.port p) = g (s.port p)) :
    s.modPort p f = s.modPort p g := by
  unfold State.modPort
  rw [show f (s.ports.get p) = g (s.ports.get p) from h]

/-- The answer to a write covers whatever the exchange began with. -/
theorem wrote_beginExchange (s : State) (t : TableId) (i : Nat) (r : Result) :
    (beginExchange .office s).wrote t i r = s.wrote t i r := modPort_modPort s .office _ _

/-- The answer to a write reads and changes nothing that routes reach. -/
theorem wrote_outsideRoutes (s : State) (t : TableId) (i : Nat) (r : Result) :
    (s.wrote t i r).outsideRoutes = s.outsideRoutes.wrote t i r := rfl

theorem SameOutsideRoutes.wrote (h : SameOutsideRoutes u v) (t : TableId) (i : Nat) (r : Result) :
    SameOutsideRoutes (u.wrote t i r) (v.wrote t i r) := by
  unfold SameOutsideRoutes at *
  rw [wrote_outsideRoutes, wrote_outsideRoutes, h]

theorem PortsKept.of_outsideRoutes (h : SameOutsideRoutes s u) : PortsKept s u :=
  .of_outsideYard (outsideYard_of_outsideRoutes h)

/-- The row of a table at a cursor in it, where the owner's events may reach the ports' notices: the owner's state with the
answer and the cursor moved on. -/
theorem writeTable_owner (h : Takes s .office) (hcursor : (s.port .office).cursor = some (t, i)) (ht : t.writeLength ≠ none)
    (ho : ownerWrite i x (beginExchange .office s) = (r, u)) (hu : PortsKept (beginExchange .office s) u) :
    writeTable .office t x s = .next (u.wrote t i r) := by
  have hbegun : ((beginExchange .office s).port .office).cursor = some (t, i) := (beginExchange_cursor _ _).trans hcursor
  have hf : writeRecordFramed ((beginExchange .office s).port .office) (t.writeLength.getD 0) = true :=
    (writeRecordFramed_at hbegun _).2 fun k hk => by rw [hk]; rfl
  have hport := hu .office
  rw [beginExchange_port] at hport
  have hreply : (u.port .office).reply = none := congrArg Port.reply hport
  have hmove : (u.port .office).move = none := congrArg Port.move hport
  have hshown : setResult .office 0x1A#8 r ReplyData.zero
      (u.modPort .office fun y => { y with cursor := some (t, t.after i) }) = u.wrote t i r :=
    (modPort_modPort u .office _ _).trans (modPort_congr u .office (by simp [Port.answered, hreply, hmove]))
  refine (writeRecordExchange_framed h hf).trans ?_
  rw [command_of_takes h 0x1A#8 rfl, writeAtCursor_owner hbegun ht (if_pos rfl) ho, hshown]

/-- Event OVERRUN where a mark is new, whatever says so, reaches no more than its routes do (R158). -/
theorem markEvent_outsideRoutes (c : Prop) [Decidable c] (u : State) :
    SameOutsideRoutes u (if c then raiseEvent .overrun none u else u) := by
  split
  · exact raiseEvent_outsideRoutes u .overrun none
  · rfl

/-- The row of a table at a cursor in it, where the owner leaves `u` and raises OVERRUN for a new mark. -/
theorem writeTable_marked {c : Prop} [Decidable c] (h : Takes s .office) (hcursor : (s.port .office).cursor = some (t, i))
    (ht : t.writeLength ≠ none) (hu : u.ports = s.ports)
    (ho : ownerWrite i x (beginExchange .office s) =
      (r, if c then raiseEvent .overrun none (beginExchange .office u) else beginExchange .office u)) :
    writeTable .office t x s = .next ((if c then raiseEvent .overrun none (beginExchange .office u)
        else beginExchange .office u).wrote t i r)
      ∧ SameOutsideRoutes (u.wrote t i r) ((if c then raiseEvent .overrun none (beginExchange .office u)
        else beginExchange .office u).wrote t i r) := by
  have hsame := markEvent_outsideRoutes c (beginExchange .office u)
  have hbegun : PortsKept (beginExchange .office s) (beginExchange .office u) :=
    .of_ports (congrArg (fun y => y.put .office { y.get .office with reply := none, move := none }) hu)
  refine ⟨writeTable_owner h hcursor ht ho (hbegun.trans (.of_outsideRoutes hsame)), ?_⟩
  have hwrote := hsame.wrote t i r
  rwa [wrote_beginExchange] at hwrote

end EventfulOwner

theorem anyVisit_iff (s : State) (f : Visit → Bool) : anyVisit s f = true ↔ ∃ p ∈ s.visits.records, f p.2 = true :=
  List.any_eq_true

/-! ### CATEGORIES (R77) -/

section Categories

variable {s : State} {i reserve : Nat} {name : Text}

theorem storeCategory_stored (hname : legalName name = true) (hreserve : reserve ≤ 150000) :
    storeCategory i name reserve s = (.done, s.setAllow { s.allow with
      categories := Table.insert s.allow.categories (i + 1) { name := name, reserve := reserve } }) := by
  simp [storeCategory, hname, Nat.not_lt.2 hreserve, State.setAllow]

theorem storeCategory_refused (h : legalName name = false ∨ 150000 < reserve) :
    storeCategory i name reserve s = (.range, s) :=
  if_pos (by simpa using h)

/-- An account row, an open visit or a site cap uses a category (R77). -/
def CategoryUsed (s : State) (c : Nat) : Prop :=
  (∃ p ∈ s.allow.accounts, ∃ r ∈ p.2.rows, r.category = c)
    ∨ (∃ p ∈ s.visits.records, p.2.category = c) ∨ (Table.find s.allow.caps c).isSome = true

theorem rowsOfCategory_iff (s : State) (c : Nat) :
    (s.allow.accounts.any fun p => p.2.rows.any fun r => r.category = c) = true ↔
      ∃ p ∈ s.allow.accounts, ∃ r ∈ p.2.rows, r.category = c := by
  simp only [List.any_eq_true, decide_eq_true_eq]

theorem visitsOfCategory_iff (s : State) (c : Nat) :
    (anyVisit s fun v => v.category = c) = true ↔ ∃ p ∈ s.visits.records, p.2.category = c := by
  simp only [anyVisit_iff, decide_eq_true_eq]

theorem removeCategory_removed (h : ¬ CategoryUsed s (i + 1)) : removeCategory i s =
    (.done, s.setAllow { s.allow with categories := Table.erase s.allow.categories (i + 1) }) := by
  obtain ⟨hrows, hvisits, hcap⟩ : _ ∧ _ ∧ _ := by simpa only [CategoryUsed, not_or] using h
  unfold removeCategory
  simp only [rowsOfCategory_iff, visitsOfCategory_iff, if_neg hrows, if_neg hvisits, if_neg hcap]
  rfl

theorem removeCategory_refused (h : CategoryUsed s (i + 1)) : removeCategory i s = (.state, s) := by
  unfold removeCategory
  simp only [rowsOfCategory_iff, visitsOfCategory_iff]
  rcases h with hrows | hvisits | hcap
  · exact if_pos hrows
  · simp only [if_pos hvisits, ite_self]
  · simp only [if_pos hcap, ite_self]

end Categories

/-- Settles O26: the exchange hands the write on, and the owner answers by the name and reserve, or by the category's use. -/
theorem categoriesAreStoredAndRemoved : Obligations.CategoriesAreStoredAndRemoved := by
  intro s i h hcursor
  refine ⟨fun name reserve => ⟨fun hname hreserve => ?_, fun hrefused => ?_⟩, fun hunused => ?_, fun hused => ?_⟩
  · exact writeTable_wrote h hcursor (by decide) (storeCategory_stored (s := beginExchange .office s) hname hreserve)
  · exact writeTable_wrote h hcursor (by decide) (storeCategory_refused (s := beginExchange .office s) hrefused)
  · exact writeTable_wrote h hcursor (by decide) (removeCategory_removed (s := beginExchange .office s) hunused)
  · exact writeTable_wrote h hcursor (by decide) (removeCategory_refused (s := beginExchange .office s) hused)

/-! ### The tests of an account write (R85) -/

section AccountTests

variable {s : State} {i : Nat} {w : AccountWrite}

theorem distinctCategories_iff (rows : List (Byte × BitVec 32)) :
    distinctCategories rows = true ↔ (rows.map Prod.fst).Nodup := by
  induction rows with
  | nil => simp [distinctCategories]
  | cons r rows ih =>
    have hfresh : (!rows.any fun x => x.1 = r.1) = true ↔ r.1 ∉ rows.map Prod.fst := by
      simp only [Bool.not_eq_true', List.any_eq_false, decide_eq_true_eq, List.mem_map, not_exists, not_and]
    simp only [distinctCategories, Bool.and_eq_true, hfresh, ih, List.map_cons, List.nodup_cons]

theorem accountLegal_iff (w : AccountWrite) : accountLegal w = true ↔
    w.number.toNat ≠ 0 ∧ w.status ≠ none ∧ w.rows.length ≤ 8 ∧ (w.rows.map Prod.fst).Nodup
      ∧ ∀ r ∈ w.rows, 1 ≤ r.1.toNat ∧ r.1.toNat ≤ 8 ∧ r.2.toNat ≤ 4000000000 := by
  simp only [accountLegal, Bool.and_eq_true, decide_eq_true_eq, distinctCategories_iff, List.all_eq_true,
    Option.isSome_iff_ne_none, and_assoc]

theorem accountLegal_status (h : accountLegal w = true) : ∃ st, w.status = some st :=
  Option.ne_none_iff_exists'.1 ((accountLegal_iff w).1 h).2.1

theorem unknownCategory_iff (s : State) (rows : List (Byte × BitVec 32)) :
    (rows.any fun r => (Table.find s.allow.categories r.1.toNat).isNone) = true ↔
      ¬ ∀ r ∈ rows, (Table.find s.allow.categories r.1.toNat).isSome = true := by
  simp only [List.any_eq_true, not_forall, exists_prop, Bool.not_eq_true, Option.isSome_eq_false_iff]

theorem weighedIn_iff (v : Visit) :
    weighedIn v = true ↔ v.kind = .delivery ∧ v.state ≠ .announced ∧ v.state ≠ .refused := by
  simp only [weighedIn, Bool.and_eq_true, decide_eq_true_eq, and_assoc]

/-- A row is held against, or a delivery that has been weighed in will be settled to it. -/
theorem rowKept_iff (s : State) (a : Account) (r : AllowanceRow) : rowKept s a r = true ↔
    0 < r.amounts.held ∨ ∃ p ∈ s.visits.records, p.2.account = a.number ∧ p.2.category = r.category
      ∧ p.2.kind = .delivery ∧ p.2.state ≠ .announced ∧ p.2.state ≠ .refused := by
  simp only [rowKept, Bool.or_eq_true, decide_eq_true_eq, anyVisit_iff, Bool.and_eq_true, weighedIn_iff, and_assoc]

/-- The three grounds of STATE: the number stands elsewhere, open visits carry the old number, or a row left out is needed. -/
theorem accountWriteBlocked_iff (i : Nat) (w : AccountWrite) (s : State) : accountWriteBlocked i w s = true ↔
    (∃ p ∈ s.allow.accounts, p.1 ≠ i ∧ p.2.number = w.number.toNat)
      ∨ ∃ a, Table.find s.allow.accounts i = some a
        ∧ ((a.number ≠ w.number.toNat ∧ ∃ p ∈ s.visits.records, p.2.account = a.number)
          ∨ (a.number = w.number.toNat
            ∧ ∃ r ∈ a.rows, (∀ x ∈ w.rows, x.1.toNat ≠ r.category) ∧ rowKept s a r = true)) := by
  cases hfind : Table.find s.allow.accounts i <;>
    simp [accountWriteBlocked, hfind, anyVisit_iff, or_assoc]

end AccountTests

/-! ### The account stored (R79, R86) -/

section AccountStored

variable {s : State} {i : Nat} {w : AccountWrite} {old : List AllowanceRow} {r : AllowanceRow}

/-- The rows that an accepted account write leaves at an index. -/
def writtenRows (i : Nat) (w : AccountWrite) (s : State) : List AllowanceRow :=
  newRows (rowsBefore s i w.number.toNat) w.rows

/-- The account that an accepted write leaves at an index. -/
def writtenAccount (i : Nat) (w : AccountWrite) (st : AccountStatus) (s : State) : Account :=
  { number := w.number.toNat, status := st, keepTares := w.keepTares, storedTareAllowed := w.storedTareAllowed,
    rows := writtenRows i w s }

/-- The state with the account written, before the events of new marks. -/
def accountWritten (i : Nat) (w : AccountWrite) (st : AccountStatus) (s : State) : State :=
  s.setAllow { s.allow with accounts := Table.insert s.allow.accounts i (writtenAccount i w st s) }

theorem storeAccount_illegal (h : ¬ accountLegal w = true) : storeAccount i w s = (.range, s) := by
  cases hst : w.status <;> simp [storeAccount, hst, h]

theorem storeAccount_noSuch (h : accountLegal w = true)
    (hknown : ¬ ∀ r ∈ w.rows, (Table.find s.allow.categories r.1.toNat).isSome = true) :
    storeAccount i w s = (.noSuch, s) := by
  obtain ⟨st, hst⟩ := accountLegal_status h
  unfold storeAccount
  simp only [hst, h, unknownCategory_iff, if_pos hknown]
  rfl

theorem storeAccount_blocked (h : accountLegal w = true)
    (hknown : ∀ r ∈ w.rows, (Table.find s.allow.categories r.1.toNat).isSome = true)
    (hblocked : accountWriteBlocked i w s = true) : storeAccount i w s = (.state, s) := by
  obtain ⟨st, hst⟩ := accountLegal_status h
  unfold storeAccount
  simp only [hst, h, unknownCategory_iff, if_neg (not_not.2 hknown), hblocked]
  rfl

theorem storeAccount_stored {st : AccountStatus} (hst : w.status = some st) (h : accountLegal w = true)
    (hknown : ∀ r ∈ w.rows, (Table.find s.allow.categories r.1.toNat).isSome = true)
    (hfree : ¬ accountWriteBlocked i w s = true) : storeAccount i w s =
      (.done, if newMarks (rowsBefore s i w.number.toNat) (writtenRows i w s) = true then
          raiseEvent .overrun none (accountWritten i w st s)
        else accountWritten i w st s) := by
  unfold storeAccount
  simp only [hst, h, unknownCategory_iff, if_neg (not_not.2 hknown), if_neg hfree]
  rfl

/-- The rows carried are the ones written, with their allowances, in order. -/
theorem newRows_allowances (old : List AllowanceRow) (rows : List (Byte × BitVec 32)) :
    (newRows old rows).map (fun r => (r.category, r.amounts.allow)) = rows.map fun r => (r.1.toNat, r.2.toNat) := by
  unfold newRows
  rw [List.map_map]
  refine List.map_congr_left fun x _ => ?_
  cases hfind : old.find? fun r => r.category = x.1.toNat <;> simp [hfind, Amounts.recompute]

/-- A row carried has its mark recomputed, and D and H of the row of its category, 0 where there was none. -/
theorem newRows_amounts {rows : List (Byte × BitVec 32)} (h : r ∈ newRows old rows) :
    r.amounts.overrun = decide (r.amounts.free < 0)
      ∧ ((∃ o, (old.find? fun x => x.category = r.category) = some o
            ∧ r.amounts.debited = o.amounts.debited ∧ r.amounts.held = o.amounts.held)
          ∨ ((old.find? fun x => x.category = r.category) = none ∧ r.amounts.debited = 0 ∧ r.amounts.held = 0)) := by
  obtain ⟨x, -, rfl⟩ := List.mem_map.1 h
  refine ⟨rfl, ?_⟩
  cases hfind : old.find? fun o => o.category = x.1.toNat with
  | none => exact .inr ⟨rfl, rfl, rfl⟩
  | some o => exact .inl ⟨o, rfl, rfl, rfl⟩

theorem rowsBefore_of_same {a : Account} (hfind : Table.find s.allow.accounts i = some a) {n : Nat} (hn : a.number = n) :
    rowsBefore s i n = a.rows := by
  simp [rowsBefore, hfind, hn]

theorem rowsBefore_of_other {n : Nat} (h : ∀ a, Table.find s.allow.accounts i = some a → a.number ≠ n) :
    rowsBefore s i n = [] := by
  cases hfind : Table.find s.allow.accounts i with
  | none => simp [rowsBefore, hfind]
  | some a => simp [rowsBefore, hfind, h a hfind]

/-- D and H of a row written are those of the same account's row for its category, and 0 where there was none. -/
theorem writtenRows_amounts (h : r ∈ writtenRows i w s) : r.amounts.overrun = decide (r.amounts.free < 0)
    ∧ ((∃ a o, Table.find s.allow.accounts i = some a ∧ a.number = w.number.toNat ∧ a.row r.category = some o
          ∧ r.amounts.debited = o.amounts.debited ∧ r.amounts.held = o.amounts.held)
      ∨ ((∀ a, Table.find s.allow.accounts i = some a → a.number = w.number.toNat → a.row r.category = none)
          ∧ r.amounts.debited = 0 ∧ r.amounts.held = 0)) := by
  obtain ⟨hmark, hkept⟩ := newRows_amounts h
  refine ⟨hmark, ?_⟩
  by_cases hsame : ∃ a, Table.find s.allow.accounts i = some a ∧ a.number = w.number.toNat
  · obtain ⟨a, hfind, hn⟩ := hsame
    rw [rowsBefore_of_same hfind hn] at hkept
    rcases hkept with ⟨o, hrow, hamounts⟩ | ⟨hrow, hzero⟩
    · exact .inl ⟨a, o, hfind, hn, hrow, hamounts⟩
    · refine .inr ⟨fun b hb _ => ?_, hzero⟩
      cases hfind.symm.trans hb
      exact hrow
  · have hother : ∀ a, Table.find s.allow.accounts i = some a → a.number ≠ w.number.toNat := fun a hfind hn =>
      hsame ⟨a, hfind, hn⟩
    rw [rowsBefore_of_other hother] at hkept
    rcases hkept with ⟨o, hrow, -⟩ | ⟨-, hzero⟩
    · simp at hrow
    · exact .inr ⟨fun a hfind hn => absurd hn (hother a hfind), hzero⟩

/-- Rows that start afresh have D and H at 0 and no mark (R87). -/
theorem newRows_fresh (rows : List (Byte × BitVec 32)) : newRows [] rows = rows.map fun r =>
    { category := r.1.toNat, amounts := { allow := r.2.toNat, debited := 0, held := 0, overrun := false } } := by
  have hunmarked : ∀ n : Nat, ¬ (n : Int) - (0 : Nat) - (0 : Nat) < 0 := fun n => by omega
  refine List.map_congr_left fun r _ => ?_
  simp only [List.find?_nil, Amounts.recompute, Amounts.free, hunmarked, decide_false]

theorem newMarks_fresh (rows : List (Byte × BitVec 32)) : newMarks [] (newRows [] rows) = false := by
  simp [newMarks, newRows_fresh]

/-- An account write of the office that is refused, by what its owner answers. -/
theorem exec_writeAccount_refused {a : Result} (h : Takes s .office) (hcursor : (s.port .office).cursor = some (.accounts, i))
    (ho : storeAccount i w (beginExchange .office s) = (a, beginExchange .office s)) :
    exec (.writeAccount .office w) s = .next (s.wrote .accounts i a) :=
  writeTable_wrote h hcursor (by decide) ho

/-- An account write of the office that is accepted. -/
theorem exec_writeAccount_stored {st : AccountStatus} (h : Takes s .office)
    (hcursor : (s.port .office).cursor = some (.accounts, i)) (hst : w.status = some st) (hlegal : accountLegal w = true)
    (hknown : ∀ r ∈ w.rows, (Table.find s.allow.categories r.1.toNat).isSome = true)
    (hfree : ¬ accountWriteBlocked i w s = true) :
    ∃ t, exec (.writeAccount .office w) s = .next t
      ∧ SameOutsideRoutes ((accountWritten i w st s).wrote .accounts i .done) t
      ∧ (newMarks (rowsBefore s i w.number.toNat) (writtenRows i w s) = false →
          t = (accountWritten i w st s).wrote .accounts i .done) := by
  obtain ⟨hexec, hsame⟩ := writeTable_marked (x := .account w) (u := accountWritten i w st s) (r := .done)
    (c := newMarks (rowsBefore s i w.number.toNat) (writtenRows i w s) = true) h hcursor (by decide) rfl
    (storeAccount_stored (s := beginExchange .office s) hst hlegal hknown hfree)
  exact ⟨_, hexec, hsame, fun hunmarked => (congrArg (State.wrote · .accounts i .done)
    (if_neg (Bool.eq_false_iff.1 hunmarked))).trans (wrote_beginExchange _ _ _ _)⟩

end AccountStored

/-- Settles O27: the owner's three tests in R85's order, and of an accepted write the rows, with what the event of a new mark
leaves alone. -/
theorem accountsAreStoredKeepingDebitsAndHolds : Obligations.AccountsAreStoredKeepingDebitsAndHolds := by
  intro s i w h hcursor legal known needed blocked
  have hlegal : accountLegal w = true ↔ legal := accountLegal_iff w
  have hblocked : accountWriteBlocked i w s = true ↔ blocked := by
    simp only [accountWriteBlocked_iff, rowKept_iff, blocked, needed]
  refine ⟨fun hl => ?_, fun hl hk => ?_, fun hl hk hb => ?_, fun hl hk hb st hst => ?_⟩
  · exact exec_writeAccount_refused h hcursor (storeAccount_illegal (hlegal.not.2 hl))
  · exact exec_writeAccount_refused h hcursor (storeAccount_noSuch (hlegal.2 hl) hk)
  · exact exec_writeAccount_refused h hcursor (storeAccount_blocked (hlegal.2 hl) hk (hblocked.2 hb))
  · obtain ⟨t, hexec, hsame, -⟩ := exec_writeAccount_stored h hcursor hst (hlegal.2 hl) hk (hblocked.not.2 hb)
    exact ⟨t, writtenRows i w s, hexec, hsame, newRows_allowances _ _, fun r hr => writtenRows_amounts hr⟩

/-! ### Accounts deleted (R87) -/

section AccountDeleted

variable {s : State} {i : Nat} {a : Account} {w : AccountWrite} {st : AccountStatus}

theorem visitsOfAccount_iff (s : State) (n : Nat) :
    (anyVisit s fun v => v.account = n) = true ↔ ∃ p ∈ s.visits.records, p.2.account = n := by
  simp only [anyVisit_iff, decide_eq_true_eq]

theorem deleteAccount_empty (h : Table.find s.allow.accounts i = none) : deleteAccount i s = (.done, s) := by
  simp [deleteAccount, h]

theorem deleteAccount_deleted (h : Table.find s.allow.accounts i = some a)
    (hopen : ∀ p ∈ s.visits.records, p.2.account ≠ a.number) : deleteAccount i s =
      (.done, s.setAllow { s.allow with accounts := Table.erase s.allow.accounts i }) := by
  have hnone : ¬ ∃ p ∈ s.visits.records, p.2.account = a.number := fun ⟨p, hp, hn⟩ => hopen p hp hn
  unfold deleteAccount
  simp only [h, visitsOfAccount_iff, if_neg hnone]
  rfl

theorem deleteAccount_refused (h : Table.find s.allow.accounts i = some a)
    (hopen : ∃ p ∈ s.visits.records, p.2.account = a.number) : deleteAccount i s = (.state, s) := by
  unfold deleteAccount
  simp only [h, visitsOfAccount_iff, if_pos hopen]

/-- A number that no record holds is accepted at an empty index, and its rows start afresh. -/
theorem exec_writeAccount_fresh (h : Takes s .office) (hcursor : (s.port .office).cursor = some (.accounts, i))
    (hempty : Table.find s.allow.accounts i = none) (hnew : ∀ p ∈ s.allow.accounts, p.2.number ≠ w.number.toNat)
    (hst : w.status = some st) (hlegal : accountLegal w = true)
    (hknown : ∀ r ∈ w.rows, (Table.find s.allow.categories r.1.toNat).isSome = true) :
    exec (.writeAccount .office w) s = .next ((s.setAllow { s.allow with
      accounts := Table.insert s.allow.accounts i
        { number := w.number.toNat, status := st, keepTares := w.keepTares, storedTareAllowed := w.storedTareAllowed,
          rows := newRows [] w.rows } }).wrote .accounts i .done) := by
  have hfree : ¬ accountWriteBlocked i w s = true := by
    rw [accountWriteBlocked_iff]
    rintro (⟨p, hp, -, hn⟩ | ⟨a, ha, -⟩)
    · exact hnew p hp hn
    · cases hempty.symm.trans ha
  have hbefore : rowsBefore s i w.number.toNat = [] := rowsBefore_of_other fun a ha => by cases hempty.symm.trans ha
  have hrows : writtenRows i w s = newRows [] w.rows := congrArg (newRows · w.rows) hbefore
  obtain ⟨t, hexec, -, hunmarked⟩ := exec_writeAccount_stored h hcursor hst hlegal hknown hfree
  rw [hexec, hunmarked (by rw [hbefore, hrows, newMarks_fresh]), accountWritten, writtenAccount, hrows]

end AccountDeleted

/-! ### SITE_CAPS (R79, R88) -/

section SiteCaps

variable {s : State} {i cap : Nat}

/-- The cap row that a category has, or one of zeros. -/
def capBefore (s : State) (i : Nat) : Amounts :=
  (Table.find s.allow.caps (i + 1)).getD { allow := 0, debited := 0, held := 0, overrun := false }

/-- The cap row written: D and H stay and the mark is recomputed (R79, R88). -/
def capRow (s : State) (i cap : Nat) : Amounts :=
  { allow := cap, debited := (capBefore s i).debited, held := (capBefore s i).held,
    overrun := decide ((cap : Int) - (capBefore s i).debited - (capBefore s i).held < 0) }

/-- The state with a cap row written, before the event of a new mark. -/
def capWritten (s : State) (i cap : Nat) : State :=
  s.setAllow { s.allow with caps := Table.insert s.allow.caps (i + 1) (capRow s i cap) }

theorem storeCap_range (h : 4000000000 < cap) : storeCap i cap s = (.range, s) := if_pos h

theorem storeCap_noSuch (h : cap ≤ 4000000000) (hnone : Table.find s.allow.categories (i + 1) = none) :
    storeCap i cap s = (.noSuch, s) := by
  simp [storeCap, Nat.not_lt.2 h, hnone]

theorem storeCap_stored (h : cap ≤ 4000000000) (hknown : (Table.find s.allow.categories (i + 1)).isSome = true) :
    storeCap i cap s = (.done, if (capRow s i cap).overrun = true ∧ (capBefore s i).overrun = false then
      raiseEvent .overrun none (capWritten s i cap) else capWritten s i cap) := by
  have hnew : ∀ a b : Bool, (a && !b) = true ↔ a = true ∧ b = false := fun a b => by
    rw [Bool.and_eq_true, Bool.not_eq_true']
  have hsome : ¬ (Table.find s.allow.categories (i + 1)).isNone = true := by
    rw [Option.isNone_iff_eq_none]
    exact Option.isSome_iff_ne_none.1 hknown
  unfold storeCap
  simp only [if_neg (Nat.not_lt.2 h), if_neg hsome, hnew]
  rfl

/-- A cap row is held against, or a delivery of its category has been weighed in (R88). -/
def CapNeeded (s : State) (c : Nat) : Prop :=
  (∃ a, Table.find s.allow.caps c = some a ∧ 0 < a.held) ∨ ∃ p ∈ s.visits.records, p.2.category = c
    ∧ p.2.kind = .delivery ∧ p.2.state ≠ .announced ∧ p.2.state ≠ .refused

theorem capNeeded_iff (s : State) (c : Nat) : (decide (0 < ((Table.find s.allow.caps c).map (·.held)).getD 0)
    || anyVisit s (fun v => decide (v.category = c) && weighedIn v)) = true ↔ CapNeeded s c := by
  have hheld : 0 < ((Table.find s.allow.caps c).map (·.held)).getD 0 ↔
      ∃ a, Table.find s.allow.caps c = some a ∧ 0 < a.held := by
    cases Table.find s.allow.caps c <;> simp
  simp only [CapNeeded, Bool.or_eq_true, decide_eq_true_eq, hheld, anyVisit_iff, Bool.and_eq_true, weighedIn_iff]

theorem emptyCap_refused (h : CapNeeded s (i + 1)) : emptyCap i s = (.state, s) :=
  if_pos ((capNeeded_iff s (i + 1)).2 h)

theorem emptyCap_emptied (h : ¬ CapNeeded s (i + 1)) : emptyCap i s =
    (.done, s.setAllow { s.allow with caps := Table.erase s.allow.caps (i + 1) }) :=
  if_neg ((capNeeded_iff s (i + 1)).not.2 h)

end SiteCaps

/-- Settles O28: the deletes and the fresh account by the account's owner, the caps by theirs. -/
theorem accountsDeletedAndCapsWritten : Obligations.AccountsDeletedAndCapsWritten := by
  intro s i h
  refine ⟨fun hcursor => ⟨fun hempty => ?_, fun a ha => ⟨fun hclosed => ?_, fun hopen => ?_⟩,
      fun w st hempty hnew hst hlegal hknown => ?_⟩,
    fun hcursor => ⟨fun cap hcap hknown => ?_, fun cap hcap => ?_, fun cap hcap hnone => ?_, fun hunneeded => ?_,
      fun hneeded => ?_⟩⟩
  · exact writeTable_wrote h hcursor (by decide) (deleteAccount_empty (s := beginExchange .office s) hempty)
  · exact writeTable_wrote h hcursor (by decide) (deleteAccount_deleted (s := beginExchange .office s) ha hclosed)
  · exact writeTable_wrote h hcursor (by decide) (deleteAccount_refused (s := beginExchange .office s) ha hopen)
  · rw [exec_writeAccount_fresh h hcursor hempty hnew hst hlegal hknown, newRows_fresh]
  · obtain ⟨hexec, hsame⟩ := writeTable_marked (x := .siteCap cap.toNat) (u := capWritten s i cap.toNat) (r := .done)
      (c := (capRow s i cap.toNat).overrun = true ∧ (capBefore s i).overrun = false) h hcursor (by decide) rfl
      (storeCap_stored (s := beginExchange .office s) hcap hknown)
    exact ⟨_, hexec, hsame, rfl⟩
  · exact writeTable_wrote h hcursor (by decide) (storeCap_range (s := beginExchange .office s) hcap)
  · exact writeTable_wrote h hcursor (by decide) (storeCap_noSuch (s := beginExchange .office s) hcap hnone)
  · exact writeTable_wrote h hcursor (by decide) (emptyCap_emptied (s := beginExchange .office s) hunneeded)
  · exact writeTable_wrote h hcursor (by decide) (emptyCap_refused (s := beginExchange .office s) hneeded)

end Sys2Proof.Machine

/-! PROOFS, 05_accounts_allowances_and_site_limits (R91, R92) and 07_tickets_and_the_journal (R126, R131). The rollover: a
record that is appended with its effects, or one that is left pending. -/

namespace Sys2Proof.Machine
open Sys2Proof

section Rollover

variable {s : State} {d : Nat}

/-! ### A rollover event (R91) -/

theorem rolloverEvent_pending (h : s.tickets.pendingRollover = some d) :
    rolloverEvent s = s.setTickets { s.tickets with pendingRollover := some (nextYardDay d) } := by
  simp [rolloverEvent, h, State.setTickets]

theorem waitForRecord_eq (t : TicketUnit) : t.waitForRecord = if t.queue = [] then t.wait else .systemRecord := by
  simp only [TicketUnit.waitForRecord, List.isEmpty_iff]

theorem rolloverEvent_noRoom (h : s.tickets.pendingRollover = none) (hroom : systemRoom s.journal = false) :
    rolloverEvent s = raiseNotice .allowance .office (s.setTickets { s.tickets with
      pendingRollover := some (nextYardDay s.allow.yardDay)
      wait := if s.tickets.queue = [] then s.tickets.wait else .systemRecord }) := by
  simp [rolloverEvent, h, hroom, waitForRecord_eq, State.setTickets]

theorem rolloverEvent_room (h : s.tickets.pendingRollover = none) (hroom : systemRoom s.journal = true) :
    rolloverEvent s = appendRollover (nextYardDay s.allow.yardDay) s := by
  simp [rolloverEvent, h, hroom]

/-! ### The record appended (R92) -/

/-- The event of a new yard day leaves the allowance unit as the day began. -/
theorem appendRollover_allow (d : Nat) (s : State) : (appendRollover d s).allow = (beginYardDay d s).allow := by
  have hevent : (appendRollover d s).allow = (beginYardDay d (appendEntry (.rollover d (nowStamp s)) s)).allow :=
    KeepsAllBut.allow (ps := yardParts) (raiseEvent_hide (fun _ h => h) _ _) (by decide)
  rw [hevent]
  unfold beginYardDay
  rw [appendEntry_allow]

theorem appendRollover_journal (d : Nat) (s : State) :
    (appendRollover d s).journal = s.journal.push (.rollover d (nowStamp s)) := by
  have hevent : (appendRollover d s).journal = (beginYardDay d (appendEntry (.rollover d (nowStamp s)) s)).journal :=
    KeepsAllBut.journal (ps := yardParts) (raiseEvent_hide (fun _ h => h) _ _) (by decide)
  rw [hevent, beginYardDay_journal, appendEntry_journal]

theorem appendRollover_portsKept (d : Nat) (s : State) : PortsKept s (appendRollover d s) :=
  (appendRollover_appends d s).port

/-! ### FORCE ROLLOVER (R91) -/

theorem exec_forceRollover {t : State} (h : Takes s .office)
    (hroll : rolloverEvent (beginExchange .office s) = beginExchange .office t) :
    exec (.forceRollover .office) s = .next (t.answer .office 0x51#8 .done) :=
  command_eq_answer h 0x51#8 rfl (congrArg (Prod.mk Result.done) hroll)

theorem exec_forceRollover_room (h : Takes s .office) (hnone : s.tickets.pendingRollover = none)
    (hroom : systemRoom s.journal = true) : exec (.forceRollover .office) s = .next (setResult .office 0x51#8 .done
      ReplyData.zero (appendRollover (nextYardDay s.allow.yardDay) (beginExchange .office s))) := by
  have hroll := rolloverEvent_room (s := beginExchange .office s) hnone hroom
  exact (command_of_takes h 0x51#8 rfl fun x => (.done, rolloverEvent x)).trans (by rw [hroll]; rfl)

end Rollover

/-- Settles O43: the three cases of a rollover event, each under the command's answer. -/
theorem rolloverBeginsANewYardDay : Obligations.RolloverBeginsANewYardDay := by
  intro s h next
  refine ⟨fun d hd => ?_, fun hnone hroom => ?_, fun hnone hroom => ?_⟩
  · exact exec_forceRollover h (rolloverEvent_pending (s := beginExchange .office s) hd)
  · exact exec_forceRollover h ((rolloverEvent_noRoom (s := beginExchange .office s) hnone hroom).trans rfl)
  · have hjournal := appendRollover_journal (nextYardDay s.allow.yardDay) (beginExchange .office s)
    have hyard : HidesYard ([.allow, .journal] ++ yardParts) := by unfold HidesYard; decide
    have hlast := congrArg Journal.last hjournal
    have hmark := congrArg Journal.mark hjournal
    refine ⟨_, exec_forceRollover_room h hnone hroom, (appendRollover_portsKept _ _).answered _ _,
      appendRollover_allow _ (beginExchange .office s), hlast, hmark, ?_, ?_⟩
    · exact (congrArg (retainedEntry · (s.journal.last + 1)) hjournal).trans (retainedEntry_push_last s.journal _)
    · exact (setResult_hide (by decide) _ _ _ _ _).trans
        ((appendRollover_hide hyard (by decide) (by decide) _).trans (beginExchange_hide (by decide) _ s))

end Sys2Proof.Machine

/-! PROOFS, 06_lanes_and_barriers (R99 to R117). What keeps the barrier of every lane in order and its sequencer in its mode: the
relation that each operation of the model is shown to keep, and the barrier's requests. -/

namespace Sys2Proof.Machine
open Sys2Proof

/-! ### What a lane keeps: its barrier in order and its sequencer in its mode -/

section LanesKept

variable {s t u : State} {l k : Lane}

/-- The barrier and the sequencer of a lane are in order in `v` where they were in `u`. -/
structure LaneKept (u v : LaneUnit) : Prop where
  barrier : BarrierOk u → BarrierOk v
  sequencer : SequencerOk u → SequencerOk v

theorem LaneKept.refl (u : LaneUnit) : LaneKept u u := ⟨id, id⟩
theorem LaneKept.trans {u v w : LaneUnit} (h : LaneKept u v) (g : LaneKept v w) : LaneKept u w :=
  ⟨fun hu => g.barrier (h.barrier hu), fun hu => g.sequencer (h.sequencer hu)⟩

/-- Every lane is kept so. -/
def LanesKept (s t : State) : Prop := ∀ k : Lane, LaneKept (s.lane k) (t.lane k)

theorem LanesKept.refl (s : State) : LanesKept s s := fun _ => .refl _
theorem LanesKept.trans (h : LanesKept s t) (g : LanesKept t u) : LanesKept s u := fun k => (h k).trans (g k)
theorem LanesKept.of_lanes (h : t.lanes = s.lanes) : LanesKept s t := fun k => by
  rw [State.lane, State.lane, h]
  exact .refl _

/-- Work at one lane keeps the lanes where it keeps that one. -/
theorem LanesKept.of_work (h : LaneWork l s t) (hl : LaneKept (s.lane l) (t.lane l)) : LanesKept s t := fun k => by
  by_cases hk : k = l
  · subst hk; exact hl
  · rw [h.lane_of_ne hk]; exact .refl _

theorem LanesKept.of_modLane {f : LaneUnit → LaneUnit} (hf : LaneKept (s.lane l) (f (s.lane l))) :
    LanesKept s (s.modLane l f) :=
  .of_work (.of_modLane f) (by rw [modLane_lane]; exact hf)

/-- What is hidden with the lanes shown leaves the lanes as they are. -/
theorem LanesKept.of_hide {ps : List Part} (h : t.hide ps = s.hide ps) (hp : .lanes ∉ ps) : LanesKept s t := by
  refine .of_lanes ?_
  have hlanes := congrArg State.lanes h
  simpa [State.hide, hp] using hlanes

end LanesKept

/-! ### The barrier's requests (R114) -/

section Requests

variable {s : State} {l : Lane}

/-- The barrier a raise request leaves (R114). -/
theorem raiseRequest_lane (l : Lane) (s : State) : (raiseRequest l s).lane l = { s.lane l with barrier :=
    match (s.lane l).barrier.state with
    | .down | .lowering => { (s.lane l).barrier with
        state := .raising, pendingLower := false, travelTimer := travelStarted s l (s.lane l).barrier.travelTimer }
    | .raising | .up => { (s.lane l).barrier with pendingLower := false }
    | .fault => (s.lane l).barrier } := modBarrier_lane s l _

/-- The barrier a lower request leaves (R114). -/
theorem lowerRequest_lane (l : Lane) (s : State) : (lowerRequest l s).lane l = { s.lane l with barrier :=
    match (s.lane l).barrier.state with
    | .raising | .up =>
      if (s.lane l).sensors.loopOccupied then { (s.lane l).barrier with pendingLower := true }
      else { (s.lane l).barrier with
        state := .lowering, pendingLower := false, travelTimer := travelStarted s l (s.lane l).barrier.travelTimer }
    | .down | .lowering | .fault => (s.lane l).barrier } := modBarrier_lane s l _

/-- A change of the barrier that leaves FAULT where it is keeps the sequencer in order. -/
theorem SequencerOk.of_barrier {u : LaneUnit} {b : Barrier} (h : SequencerOk u)
    (hb : b.state = .fault → u.barrier.state = .fault) : SequencerOk { u with barrier := b } := by
  obtain ⟨hclosed, hmanual, hlight, htimer, hfault⟩ := h
  exact ⟨hclosed, hmanual, hlight, htimer, fun hm hs => hfault hm (hb hs)⟩

theorem raiseRequest_kept (l : Lane) (s : State) : LaneKept (s.lane l) ((raiseRequest l s).lane l) := by
  rw [raiseRequest_lane]
  generalize s.lane l = v
  refine ⟨fun h => ?_, fun h => h.of_barrier ?_⟩
  · obtain ⟨hloop, htimer, hpending⟩ := h
    cases hstate : v.barrier.state <;> simp_all [BarrierOk, travelStarted]
  · cases hstate : v.barrier.state <;> simp [hstate]

theorem lowerRequest_kept (l : Lane) (s : State) : LaneKept (s.lane l) ((lowerRequest l s).lane l) := by
  rw [lowerRequest_lane]
  generalize s.lane l = v
  refine ⟨fun h => ?_, fun h => h.of_barrier ?_⟩
  · obtain ⟨hloop, htimer, hpending⟩ := h
    cases hstate : v.barrier.state <;> cases hocc : v.sensors.loopOccupied <;> simp_all [BarrierOk, travelStarted]
  · cases hstate : v.barrier.state <;> cases v.sensors.loopOccupied <;> simp [hstate]

end Requests

end Sys2Proof.Machine

/-! PROOFS, 06_lanes_and_barriers (R100 to R113). The sequencer's states and what entering each leaves of a lane in order. -/

namespace Sys2Proof.Machine
open Sys2Proof

/-! ### The sequencer's states entered (R100 to R113) -/

section Entered

variable {s : State} {l : Lane}

/-- In AUTO the invariant is about the state, the light, the pass timer and the barrier's FAULT (R99, R103, R109, R111). -/
theorem sequencerOk_auto {u : LaneUnit} (hmode : u.params.mode = .auto) : SequencerOk u ↔
    (u.seqr.state ≠ .closed ∧ u.seqr.state ≠ .manual)
    ∧ (u.seqr.light = .green ↔ u.seqr.state = .opened ∨ u.seqr.state = .passing)
    ∧ (u.seqr.passTimer.running = true ↔ u.seqr.state = .opened)
    ∧ (u.barrier.state = .fault → u.seqr.state = .held) := by
  simp [SequencerOk, hmode, and_assoc]

/-- Outside AUTO it is about the state and the pass timer (R112, R113). -/
theorem sequencerOk_other {u : LaneUnit} (hmode : u.params.mode ≠ .auto) : SequencerOk u ↔
    u.seqr.state = (if u.params.mode = .manual then .manual else .closed) ∧ u.seqr.passTimer.running = false := by
  cases h : u.params.mode with
  | auto => exact absurd h hmode
  | closed | manual =>
    constructor
    · rintro ⟨hclosed, hmanual, -, htimer, -⟩
      simp_all
    · rintro ⟨hstate, htimer⟩
      simp_all [SequencerOk]

@[simp] theorem modSeq_barrierOk (l : Lane) (f : Sequencer → Sequencer) (s : State) :
    BarrierOk ((s.modSeq l f).lane l) ↔ BarrierOk (s.lane l) := by rw [modSeq_lane]; exact Iff.rfl

theorem BarrierOk.raiseRequest (h : BarrierOk (s.lane l)) : BarrierOk ((raiseRequest l s).lane l) :=
  (raiseRequest_kept l s).barrier h
theorem BarrierOk.lowerRequest (h : BarrierOk (s.lane l)) : BarrierOk ((lowerRequest l s).lane l) :=
  (lowerRequest_kept l s).barrier h

theorem BarrierOk.lowerUnlessDown (h : BarrierOk (s.lane l)) : BarrierOk ((lowerUnlessDown l s).lane l) := by
  unfold Machine.lowerUnlessDown
  split
  exacts [h, h.lowerRequest]

theorem BarrierOk.enterOpen (h : BarrierOk (s.lane l)) : BarrierOk ((enterOpen l s).lane l) := by
  unfold Machine.enterOpen
  split <;> exact (modSeq_barrierOk l _ s).2 h

theorem BarrierOk.enterReleasing (h : BarrierOk (s.lane l)) : BarrierOk ((enterReleasing l s).lane l) := by
  unfold Machine.enterReleasing
  have raised := BarrierOk.raiseRequest ((modSeq_barrierOk l (fun q =>
    { q with state := .releasing, light := .red, released := headNumber s l }) s).2 h)
  dsimp only
  split
  exacts [raised.enterOpen, raised]

theorem BarrierOk.enterHeld (h : BarrierOk (s.lane l)) : BarrierOk ((enterHeld l s).lane l) :=
  BarrierOk.lowerUnlessDown ((modSeq_barrierOk l _ s).2 h)

/-- What a capture start leaves of a lane: CAPTURING in AUTO, or a report. -/
theorem startForHead_lane (l : Lane) (n : Nat) (s : State) :
    ((startForHead l n s).2.lane l = if (s.lane l).params.mode = .auto then
      { s.lane l with seqr := { (s.lane l).seqr with state := .capturing } } else s.lane l)
    ∨ ∃ r, (startForHead l n s).2.lane l = { s.lane l with report := r } := by
  unfold startForHead
  split
  · by_cases hmode : (s.lane l).params.mode = .auto <;> simp [acceptStart, hmode]
  · exact .inr ⟨_, modReport_lane s l _⟩

theorem BarrierOk.startForHead (h : BarrierOk (s.lane l)) (n : Nat) : BarrierOk ((startForHead l n s).2.lane l) := by
  rcases startForHead_lane l n s with hlane | ⟨r, hlane⟩ <;> rw [hlane]
  · split <;> exact h
  · exact h

theorem BarrierOk.actInOccupied (h : BarrierOk (s.lane l)) (auto : Bool) : BarrierOk ((actInOccupied l auto s).lane l) := by
  unfold Machine.actInOccupied
  split
  · split
    · unfold autoStart
      split
      exacts [h, h.startForHead _]
    · exact h
  · exact h.enterReleasing
  · exact h.enterHeld
  · exact h

theorem BarrierOk.enterOccupied (h : BarrierOk (s.lane l)) : BarrierOk ((enterOccupied l s).lane l) :=
  BarrierOk.actInOccupied ((modSeq_barrierOk l _ s).2 h) true

theorem BarrierOk.enterIdle (h : BarrierOk (s.lane l)) : BarrierOk ((enterIdle l s).lane l) := (modSeq_barrierOk l _ s).2 h

theorem BarrierOk.closingDone (h : BarrierOk (s.lane l)) : BarrierOk ((closingDone l s).lane l) := by
  unfold Machine.closingDone
  split
  exacts [h.enterOccupied, h.enterIdle]

theorem BarrierOk.enterClosing (h : BarrierOk (s.lane l)) : BarrierOk ((enterClosing l s).lane l) := by
  have lowered := BarrierOk.lowerRequest ((modSeq_barrierOk l (fun q =>
    { q with state := .closing, light := .red, released := none, passTimer := passStopped s l q.passTimer }) s).2 h)
  unfold Machine.enterClosing
  dsimp only
  split
  exacts [lowered.closingDone, lowered]

theorem BarrierOk.settle (h : BarrierOk (s.lane l)) : BarrierOk ((settle l s).lane l) := by
  have disarmed := (modSeq_barrierOk l (fun q => { q with passageArmed := false }) s).2 h
  have unreleased : ∀ x : State, BarrierOk (x.lane l) →
      BarrierOk ((x.modSeq l fun q => { q with released := none }).lane l) := fun x hx => (modSeq_barrierOk l _ x).2 hx
  unfold Machine.settle
  split
  · exact (modSeq_barrierOk l _ s).2 h
  · dsimp only
    generalize (s.modSeq l fun q => { q with passageArmed := false }) = x at disarmed ⊢
    split
    · exact disarmed.enterHeld
    · split
      · exact disarmed.enterReleasing
      · split
        exacts [(unreleased x disarmed).enterIdle, disarmed.enterClosing]
    all_goals
      split
      · exact disarmed.enterClosing
      · split
        exacts [(unreleased x disarmed).enterOccupied, (unreleased x disarmed).enterIdle]

theorem BarrierOk.handHeadAuto (h : BarrierOk (s.lane l)) (fresh : Bool) :
    BarrierOk ((handHeadAuto l fresh s).lane l) := by
  unfold Machine.handHeadAuto
  split
  · exact h.actInOccupied _
  · split
    exacts [h.enterReleasing, h.enterHeld, h, h]
  · exact h.settle
  · split
    · exact h.enterClosing
    · split
      exacts [h.enterHeld, h]
  · split
    · exact h.enterClosing
    · split
      exacts [h.enterHeld, h]
  · split
    exacts [h.enterHeld, h]
  · split
    exacts [h.enterHeld, h]
  all_goals exact h

/-! #### The sequencer in its mode -/

/-- A lane in AUTO whose barrier is not in FAULT and whose pass timer is stopped: it may enter any state. -/
structure Able (u : LaneUnit) : Prop where
  mode : u.params.mode = .auto
  barrier : u.barrier.state ≠ .fault
  timer : u.seqr.passTimer.running = false

/-- A change of the sequencer that leaves the pass timer alone leaves the lane able. -/
theorem Able.of_modSeq (h : Able (s.lane l)) {f : Sequencer → Sequencer}
    (hf : (f (s.lane l).seqr).passTimer = (s.lane l).seqr.passTimer) : Able ((s.modSeq l f).lane l) := by
  rw [modSeq_lane]
  exact ⟨h.mode, h.barrier, (congrArg Timer.running hf).trans h.timer⟩

/-- A state other than OPEN and PASSING, with a red light, is in order in an able lane. -/
theorem Able.sequencerOk_red {u : LaneUnit} (h : Able u) (hlight : u.seqr.light = .red)
    (hstate : u.seqr.state ≠ .closed ∧ u.seqr.state ≠ .manual ∧ u.seqr.state ≠ .opened ∧ u.seqr.state ≠ .passing) :
    SequencerOk u := by
  obtain ⟨hmode, hbarrier, htimer⟩ := h
  obtain ⟨hclosed, hmanual, hopened, hpassing⟩ := hstate
  exact (sequencerOk_auto hmode).2 ⟨⟨hclosed, hmanual⟩, by simp [hlight, hopened, hpassing], by simp [htimer, hopened, -Timer.running_eq],
    fun hf => absurd hf hbarrier⟩

/-- A raise request leaves the lane able. -/
theorem Able.raiseRequest (h : Able (s.lane l)) : Able ((raiseRequest l s).lane l) := by
  rw [raiseRequest_lane]
  refine ⟨h.mode, ?_, h.timer⟩
  have := h.barrier
  cases hstate : (s.lane l).barrier.state <;> simp_all

theorem Able.lowerRequest (h : Able (s.lane l)) : Able ((lowerRequest l s).lane l) := by
  rw [lowerRequest_lane]
  refine ⟨h.mode, ?_, h.timer⟩
  have := h.barrier
  cases hstate : (s.lane l).barrier.state <;> cases (s.lane l).sensors.loopOccupied <;> simp_all

theorem enterOpen_sequencerOk (h : Able (s.lane l)) : SequencerOk ((enterOpen l s).lane l) := by
  have hbarrier := h.barrier
  unfold enterOpen
  split
  all_goals
    rw [modSeq_lane]
    refine (sequencerOk_auto (by exact h.mode)).2 ?_
    simp [hbarrier, passStopped, passStarted]

theorem enterReleasing_sequencerOk (h : Able (s.lane l)) : SequencerOk ((enterReleasing l s).lane l) := by
  have entered : Able ((s.modSeq l fun q =>
      { q with state := .releasing, light := .red, released := headNumber s l }).lane l) := h.of_modSeq rfl
  have raised := entered.raiseRequest
  unfold enterReleasing
  dsimp only
  split
  · exact enterOpen_sequencerOk raised
  · refine raised.sequencerOk_red ?_ ?_ <;> simp [raiseRequest_lane]

/-- HELD is in order in any AUTO lane, its barrier in FAULT or not. -/
theorem enterHeld_sequencerOk (h : (s.lane l).params.mode = .auto) : SequencerOk ((enterHeld l s).lane l) := by
  have held : SequencerOk ((s.modSeq l fun q =>
      { q with state := .held, light := .red, released := none, passTimer := passStopped s l q.passTimer }).lane l) := by
    rw [modSeq_lane]
    exact (sequencerOk_auto (by exact h)).2 (by simp [passStopped])
  unfold enterHeld lowerUnlessDown
  split
  exacts [held, (lowerRequest_kept l _).sequencer held]

theorem enterIdle_lane (l : Lane) (s : State) : (enterIdle l s).lane l =
    { s.lane l with seqr := { (s.lane l).seqr with state := .idle, light := .red } } := modSeq_lane s l _

theorem enterIdle_sequencerOk (h : Able (s.lane l)) : SequencerOk ((enterIdle l s).lane l) := by
  rw [enterIdle_lane]
  exact Able.sequencerOk_red ⟨h.mode, h.barrier, h.timer⟩ rfl (by simp)

/-- A capture start in OCCUPIED keeps the sequencer in order (R100, R101). -/
theorem startForHead_sequencerOk (h : SequencerOk (s.lane l))
    (hstate : (s.lane l).params.mode = .auto → (s.lane l).seqr.state = .occupied) (n : Nat) :
    SequencerOk ((startForHead l n s).2.lane l) := by
  rcases startForHead_lane l n s with hlane | ⟨r, hlane⟩ <;> rw [hlane]
  · split
    · rename_i hmode
      have hocc := hstate hmode
      rw [sequencerOk_auto hmode] at h
      exact (sequencerOk_auto (by exact hmode)).2 (by simp_all)
    · exact h
  · exact h

/-- An AUTO lane in order whose sequencer is neither in OPEN nor HELD is able. -/
theorem SequencerOk.able {u : LaneUnit} (h : SequencerOk u) (hmode : u.params.mode = .auto)
    (hopened : u.seqr.state ≠ .opened) (hheld : u.seqr.state ≠ .held) : Able u := by
  obtain ⟨-, -, htimer, hfault⟩ := (sequencerOk_auto hmode).1 h
  exact ⟨hmode, mt hfault hheld, Bool.eq_false_iff.2 (mt htimer.1 hopened)⟩

theorem actInOccupied_sequencerOk (h : SequencerOk (s.lane l)) (hmode : (s.lane l).params.mode = .auto)
    (hstate : (s.lane l).seqr.state = .occupied) (auto : Bool) : SequencerOk ((actInOccupied l auto s).lane l) := by
  unfold actInOccupied
  split
  · split
    · unfold autoStart
      split
      exacts [h, startForHead_sequencerOk h (fun _ => hstate) _]
    · exact h
  · exact enterReleasing_sequencerOk (h.able hmode (by simp [hstate]) (by simp [hstate]))
  · exact enterHeld_sequencerOk hmode
  · exact h

theorem enterOccupied_sequencerOk (h : Able (s.lane l)) : SequencerOk ((enterOccupied l s).lane l) := by
  refine actInOccupied_sequencerOk ?_ ?_ ?_ true <;> rw [modSeq_lane]
  exacts [Able.sequencerOk_red ⟨h.mode, h.barrier, h.timer⟩ rfl (by simp), h.mode]

theorem closingDone_sequencerOk (h : Able (s.lane l)) : SequencerOk ((closingDone l s).lane l) := by
  unfold closingDone
  split
  exacts [enterOccupied_sequencerOk h, enterIdle_sequencerOk h]

/-- CLOSING stops the pass timer itself. -/
theorem enterClosing_sequencerOk (hmode : (s.lane l).params.mode = .auto) (hfault : (s.lane l).barrier.state ≠ .fault) :
    SequencerOk ((enterClosing l s).lane l) := by
  have entered : Able ((s.modSeq l fun q => { q with
      state := .closing, light := .red, released := none, passTimer := passStopped s l q.passTimer }).lane l) := by
    rw [modSeq_lane]
    exact ⟨hmode, hfault, rfl⟩
  have lowered := entered.lowerRequest
  unfold enterClosing
  dsimp only
  split
  · exact closingDone_sequencerOk lowered
  · refine lowered.sequencerOk_red ?_ ?_ <;> simp [lowerRequest_lane]

/-- Settling puts an AUTO lane whose pass timer is stopped in order, whatever its state was (R103). -/
theorem settle_sequencerOk (hmode : (s.lane l).params.mode = .auto) (htimer : (s.lane l).seqr.passTimer.running = false) :
    SequencerOk ((settle l s).lane l) := by
  unfold settle
  split
  · rw [modSeq_lane]
    exact (sequencerOk_auto (by exact hmode)).2 (by simp [htimer, -Timer.running_eq])
  · rename_i hfault
    have able : Able ((s.modSeq l fun q => { q with passageArmed := false }).lane l) :=
      Able.of_modSeq ⟨hmode, hfault, htimer⟩ rfl
    dsimp only
    generalize (s.modSeq l fun q => { q with passageArmed := false }) = x at able ⊢
    have unreleased : Able ((x.modSeq l fun q => { q with released := none }).lane l) := able.of_modSeq rfl
    have closing := enterClosing_sequencerOk able.mode able.barrier
    split
    · exact enterHeld_sequencerOk able.mode
    · split
      · exact enterReleasing_sequencerOk able
      · split
        exacts [enterIdle_sequencerOk unreleased, closing]
    all_goals
      split
      · exact closing
      · split
        exacts [enterOccupied_sequencerOk unreleased, enterIdle_sequencerOk unreleased]

/-- A hand-over to an AUTO sequencer keeps it in order, state by state (R100, R102, R103, R107). -/
theorem handHeadAuto_sequencerOk (h : SequencerOk (s.lane l)) (hmode : (s.lane l).params.mode = .auto) (fresh : Bool) :
    SequencerOk ((handHeadAuto l fresh s).lane l) := by
  have held := enterHeld_sequencerOk hmode
  have closing : (s.lane l).seqr.state ≠ .held → SequencerOk ((enterClosing l s).lane l) := fun hstate =>
    enterClosing_sequencerOk hmode (mt ((sequencerOk_auto hmode).1 h).2.2.2 hstate)
  unfold handHeadAuto
  split <;> rename_i hstate
  · exact actInOccupied_sequencerOk h hmode hstate fresh
  · split
    · exact enterReleasing_sequencerOk (h.able hmode (by simp [hstate]) (by simp [hstate]))
    all_goals first | exact held | exact h
  · obtain ⟨-, -, htimer, -⟩ := (sequencerOk_auto hmode).1 h
    exact settle_sequencerOk hmode (Bool.eq_false_iff.2 (mt htimer.1 (by simp [hstate])))
  · split
    · exact closing (by simp [hstate])
    · split
      exacts [held, h]
  · split
    · exact closing (by simp [hstate])
    · split
      exacts [held, h]
  · split
    exacts [held, h]
  · split
    exacts [held, h]
  all_goals exact h

end Entered
end Sys2Proof.Machine

/-! PROOFS, 06_lanes_and_barriers. Hand-overs, routes, captures and departures keep the lanes. -/

namespace Sys2Proof.Machine
open Sys2Proof

/-! ### Hand-overs, events and captures keep the lanes -/

section Yard

variable {s t : State} {l k : Lane}

/-- A change of a sequencer that leaves its state, its pass timer's running and, in AUTO, its light keeps the lanes. -/
theorem modSeq_kept (l : Lane) (f : Sequencer → Sequencer) (s : State)
    (hstate : (f (s.lane l).seqr).state = (s.lane l).seqr.state)
    (htimer : (f (s.lane l).seqr).passTimer.running = (s.lane l).seqr.passTimer.running)
    (hlight : (s.lane l).params.mode = .auto → (f (s.lane l).seqr).light = (s.lane l).seqr.light) :
    LanesKept s (s.modSeq l f) := by
  refine .of_modLane ⟨id, fun h => ?_⟩
  obtain ⟨hclosed, hmanual, hgreen, hpass, hfault⟩ := h
  simp only [SequencerOk, hstate, htimer]
  exact ⟨hclosed, hmanual, fun hm => by rw [hlight hm]; exact hgreen hm, hpass, hfault⟩

theorem modReport_kept (l : Lane) (f : LaneReport → LaneReport) (s : State) : LanesKept s (s.modReport l f) :=
  .of_modLane ⟨id, id⟩
theorem modPrinter_kept (l : Lane) (f : PrintEngine → PrintEngine) (s : State) : LanesKept s (s.modPrinter l f) :=
  .of_modLane ⟨id, id⟩

/-- Other lane parameters than the mode do not bear on the invariants. -/
theorem modParams_kept (l : Lane) (f : LaneParams → LaneParams) (s : State)
    (hf : (f (s.lane l).params).mode = (s.lane l).params.mode) : LanesKept s (s.modParams l f) := by
  refine .of_modLane ⟨id, fun h => ?_⟩
  simp only [SequencerOk, hf]
  exact h

theorem syncUnannounced_kept (l : Lane) (s : State) : LanesKept s (syncUnannounced l s) := modSeq_kept l _ s rfl rfl fun _ => rfl

/-- The hand-over of a head keeps the lanes (R46). -/
theorem handHead_kept (l : Lane) (fresh : Bool) (s : State) : LanesKept s (handHead l fresh s) := by
  have kept : LanesKept s (keepHead l s) := modSeq_kept l _ s rfl rfl fun _ => rfl
  unfold handHead
  dsimp only
  split
  · rename_i hmode
    exact kept.trans (.of_work ((handHeadAuto_laneOp l fresh).works _)
      ⟨fun h => h.handHeadAuto fresh, fun h => handHeadAuto_sequencerOk h hmode fresh⟩)
  · exact kept

/-! #### Events (R158 to R161) -/

theorem onTaskLane_kept {f : Lane → State → Bool × State} (hf : ∀ l, LanesKept s (f l s).2) (i : Nat) :
    LanesKept s (onTaskLane i s f).2 := by
  unfold onTaskLane
  split
  exacts [.refl s, hf _]

theorem lightTask_kept (x : Light) (l : Lane) (s : State) : LanesKept s (lightTask x l s).2 := by
  unfold lightTask
  split <;> rename_i hmode
  · exact .refl s
  · exact modSeq_kept l _ s rfl rfl fun h => by simp [hmode] at h
  · exact modSeq_kept l _ s rfl rfl fun h => by simp [hmode] at h

theorem startCaptureTask_kept (l : Lane) (s : State) : LanesKept s (startCaptureTask l s).2 := by
  unfold startCaptureTask
  split
  · rename_i hstart
    obtain ⟨-, hstate, -⟩ := hstart
    split
    · exact .refl s
    · rename_i n _
      split
      · exact .of_work ((startForHead_laneOp l n).works s)
          ⟨fun h => h.startForHead n, fun h => startForHead_sequencerOk h (fun _ => hstate) n⟩
      · exact .refl s
  · exact .refl s

theorem takeTask_kept (task : TaskKind) (i : Nat) (s : State) : LanesKept s (takeTask task i s).2 := by
  have barrier : ∀ request : Lane → State → State, (∀ l, LanesKept s (request l s)) →
      ∀ l, LanesKept s (barrierTask request l s).2 := fun request hr l => by
    unfold barrierTask
    split
    exacts [hr l, .refl s]
  cases task with
  | outputSet | outputClear | outputPulse => exact .of_lanes rfl
  | lightRed | lightGreen => exact onTaskLane_kept (fun l => lightTask_kept _ l s) i
  | barrierRaise =>
    exact onTaskLane_kept (barrier raiseRequest fun l => .of_work ((raiseRequest_laneOp l).works s) (raiseRequest_kept l s)) i
  | barrierLower =>
    exact onTaskLane_kept (barrier lowerRequest fun l => .of_work ((lowerRequest_laneOp l).works s) (lowerRequest_kept l s)) i
  | startCapture => exact onTaskLane_kept (fun l => startCaptureTask_kept l s) i
  | notice =>
    unfold takeTask
    dsimp only
    split <;> exact .of_lanes rfl

theorem fireRoute_kept (e : EventKind) (x : Option Nat) (s : State) (p : Nat × Route) : LanesKept s (fireRoute e x s p) := by
  unfold fireRoute
  split
  · exact (takeTask_kept p.2.task p.2.taskIndex s).trans (.of_lanes rfl)
  · exact .refl s

/-- One route after another. -/
theorem LanesKept.foldl {α : Type} {f : State → α → State} (hf : ∀ s a, LanesKept s (f s a)) (xs : List α) (s : State) :
    LanesKept s (xs.foldl f s) := by
  induction xs generalizing s with
  | nil => exact .refl s
  | cons x xs ih => exact (hf s x).trans (ih _)

theorem raiseEvent_kept (e : EventKind) (x : Option Nat) (s : State) : LanesKept s (raiseEvent e x s) :=
  .foldl (fireRoute_kept e x) _ s
theorem raiseAt_kept (e : EventKind) (l : Lane) (s : State) : LanesKept s (raiseAt e l s) := raiseEvent_kept e _ s

theorem raiseLeaving_kept (e : EventKind) (l : Lane) (s : State) : LanesKept s (raiseLeaving e l s) := by
  refine .foldl (fun s p => ?_) _ s
  unfold fireRouteLeaving
  split
  exacts [.of_lanes rfl, fireRoute_kept e _ s p]

/-! #### Captures, queues and passages -/

/-- The sequencer takes the end of a FAILED capture in CAPTURING alone (R102). -/
theorem captureFailed_kept (l : Lane) (s : State) : LanesKept s (captureFailed l s) := by
  refine .of_work ((captureFailed_laneOp l).works s) ⟨fun h => ?_, fun h => ?_⟩ <;> unfold captureFailed
  · split
    · split
      exacts [BarrierOk.actInOccupied ((modSeq_barrierOk l _ s).2 h) false, h.enterIdle]
    · exact h
  · split
    · rename_i hcapturing
      obtain ⟨hmode, hstate⟩ := hcapturing
      have able := h.able hmode (by simp [hstate]) (by simp [hstate])
      split
      · refine actInOccupied_sequencerOk ?_ ?_ ?_ false <;> rw [modSeq_lane]
        exacts [Able.sequencerOk_red ⟨hmode, able.barrier, able.timer⟩ rfl (by simp), hmode]
      · exact enterIdle_sequencerOk able
    · exact h

theorem endCaptureBy_kept {raise : EventKind → Lane → State → State} (hr : ∀ e l x, LanesKept x (raise e l x)) (l : Lane)
    (r : CaptureReason) (s : State) : LanesKept s (endCaptureBy raise l r s) := by
  unfold endCaptureBy
  split
  · exact .refl s
  · have dropped : LanesKept s (dropCapture l s) := .of_lanes rfl
    exact dropped.trans ((captureFailed_kept l _).trans ((modReport_kept l _ _).trans ((hr _ l _).trans (.of_lanes rfl))))

theorem endCapture_kept (l : Lane) (r : CaptureReason) (s : State) : LanesKept s (endCapture l r s) :=
  endCaptureBy_kept raiseAt_kept l r s
theorem endCaptureLeaving_kept (l : Lane) (r : CaptureReason) (s : State) : LanesKept s (endCaptureLeaving l r s) :=
  endCaptureBy_kept raiseLeaving_kept l r s

theorem joinQueue_kept (l : Lane) (n : Nat) (pass : PassKind) (s : State) : LanesKept s (joinQueue l n pass s) := by
  unfold joinQueue
  split
  · exact .refl s
  · dsimp only
    refine LanesKept.trans ?_ (syncUnannounced_kept l _)
    split
    · refine LanesKept.trans ?_ (handHead_kept l true _)
      exact .of_lanes rfl
    · exact .of_lanes rfl

theorem depart_kept (n : Nat) {f : State → State} (hf : ∀ x, LanesKept x (f x)) (s : State) :
    LanesKept s (depart n f s) := by
  unfold depart
  split
  · exact .refl s
  · split
    · exact hf s
    · rename_i pl _
      have freed : LanesKept s (freePlace pl n s) := .of_lanes rfl
      have finished := freed.trans (hf _)
      dsimp only
      refine LanesKept.trans ?_ (syncUnannounced_kept _ _)
      split
      exacts [finished.trans (handHead_kept _ true _), finished]

theorem vehiclePassed_kept (l : Lane) (s : State) : LanesKept s (vehiclePassed l s) := by
  have leaves : ∀ (n : Nat) (f : State → State), (∀ x : State, (f x).lanes = x.lanes) →
      LanesKept s (depart n f (endCaptureLeaving l .abandoned s)) := fun n f hf =>
    (endCaptureLeaving_kept l _ s).trans (depart_kept n (fun x => .of_lanes (hf x)) _)
  unfold vehiclePassed
  split
  · exact .refl s
  · split
    · exact .refl s
    · split
      exacts [.refl s, leaves _ id fun _ => rfl, leaves _ _ fun _ => rfl, leaves _ _ fun _ => rfl]

end Yard
end Sys2Proof.Machine

/-! PROOFS, 06_lanes_and_barriers and 11_routes_and_outputs. What routes leave of a lane by its mode (R158 to R161). -/

namespace Sys2Proof.Machine
open Sys2Proof

/-! ### What routes leave of a lane by its mode (R158 to R161) -/

section RoutedLane

variable {s t : State} {l k : Lane} {α : Type} {g : LaneUnit → α}

/-- The routes of a table ask for no travel at the lane while they are enabled. -/
def Unrouted (l : Lane) (table : Table Route) : Prop :=
  ∀ p ∈ table, p.2.enabled = true → p.2.task = .barrierRaise ∨ p.2.task = .barrierLower → p.2.taskIndex ≠ l.num

/-- A task that acts on the lane it names leaves of lane `l` what it leaves there when it names `l`. -/
theorem onTaskLane_lane {f : Lane → State → Bool × State} {i : Nat} (hf : ∀ k, LaneWork k s (f k s).2)
    (hl : i = l.num → g ((f l s).2.lane l) = g (s.lane l)) : g ((onTaskLane i s f).2.lane l) = g (s.lane l) := by
  unfold onTaskLane
  split
  · rfl
  · rename_i k hk
    by_cases hkl : l = k
    · subst hkl
      exact hl (Idx.ofNat?_eq_some hk)
    · rw [(hf k).lane_of_ne hkl]

theorem lightTask_work (x : Light) (l : Lane) (s : State) : LaneWork l s (lightTask x l s).2 := by
  unfold lightTask
  split
  · exact .refl l s
  all_goals
    dsimp only
    exact .of_modSeq _

theorem barrierTask_work {request : Lane → State → State} (hr : LaneOp l (request l)) (s : State) :
    LaneWork l s (barrierTask request l s).2 := by
  unfold barrierTask
  split
  exacts [hr.works s, .refl l s]

theorem startCaptureTask_work (l : Lane) (s : State) : LaneWork l s (startCaptureTask l s).2 := by
  unfold startCaptureTask
  split
  · split
    · exact .refl l s
    · split
      exacts [(startForHead_laneOp l _).works s, .refl l s]
  · exact .refl l s

/-- What a task leaves of a lane is what the light, barrier and capture tasks there leave. -/
theorem takeTask_lane (task : TaskKind) (i : Nat) (hlight : ∀ x, g ((lightTask x l s).2.lane l) = g (s.lane l))
    (hbarrier : task = .barrierRaise ∨ task = .barrierLower → i = l.num →
      ∀ r, g ((barrierTask r l s).2.lane l) = g (s.lane l))
    (hstart : g ((startCaptureTask l s).2.lane l) = g (s.lane l)) : g ((takeTask task i s).2.lane l) = g (s.lane l) := by
  cases task with
  | outputSet | outputClear | outputPulse => rfl
  | lightRed | lightGreen => exact onTaskLane_lane (fun k => lightTask_work _ k s) fun _ => hlight _
  | barrierRaise =>
    exact onTaskLane_lane (fun k => barrierTask_work (raiseRequest_laneOp k) s) fun hi => hbarrier (.inl rfl) hi _
  | barrierLower =>
    exact onTaskLane_lane (fun k => barrierTask_work (lowerRequest_laneOp k) s) fun hi => hbarrier (.inr rfl) hi _
  | startCapture => exact onTaskLane_lane (fun k => startCaptureTask_work k s) fun _ => hstart
  | notice =>
    unfold takeTask
    dsimp only
    split <;> rfl

theorem fireRoute_lane {e : EventKind} {x : Option Nat} {p : Nat × Route}
    (h : p.2.enabled = true → g ((takeTask p.2.task p.2.taskIndex s).2.lane l) = g (s.lane l)) :
    g ((fireRoute e x s p).lane l) = g (s.lane l) := by
  rw [fireRoute_eq]
  split
  · rename_i hmatch
    obtain ⟨henabled, -, -⟩ := hmatch
    exact h henabled
  · rfl

/-- A task leaves a lane in AUTO alone that is not in OCCUPIED (R160, R161). -/
theorem takeTask_lane_of_auto (hmode : (s.lane l).params.mode = .auto) (hstate : (s.lane l).seqr.state ≠ .occupied)
    (task : TaskKind) (i : Nat) : (takeTask task i s).2.lane l = s.lane l := by
  refine takeTask_lane (g := id) task i (fun x => ?_) (fun _ _ r => ?_) ?_
  · simp [lightTask, hmode]
  · simp [barrierTask, hmode]
  · simp [startCaptureTask, hstate]

/-- A task leaves a lane's barrier where a barrier task there would leave it (R160). -/
theorem takeTask_barrier_of {task : TaskKind} {i : Nat} (h : task = .barrierRaise ∨ task = .barrierLower → i = l.num →
    ∀ r, ((barrierTask r l s).2.lane l).barrier = (s.lane l).barrier) :
    ((takeTask task i s).2.lane l).barrier = (s.lane l).barrier := by
  refine takeTask_lane (g := LaneUnit.barrier) task i (fun x => ?_) h ?_
  · unfold lightTask
    split <;> simp
  · unfold startCaptureTask
    split
    · split
      · rfl
      · rename_i n _
        split
        · rcases startForHead_lane l n s with hlane | ⟨r, hlane⟩ <;> rw [hlane]
          split <;> rfl
        · rfl
    · rfl

/-- A task moves a lane's barrier in MANUAL alone, and there only as a barrier task (R160). -/
theorem takeTask_barrier {task : TaskKind} {i : Nat} (h : (s.lane l).params.mode ≠ .manual
    ∨ (task = .barrierRaise ∨ task = .barrierLower → i ≠ l.num)) :
    ((takeTask task i s).2.lane l).barrier = (s.lane l).barrier :=
  takeTask_barrier_of fun htask hi r => by
    rcases h with hmode | hroute
    · simp [barrierTask, hmode]
    · exact absurd hi (hroute htask)

theorem foldl_lane_of_auto {fire : State → Nat × Route → State}
    (hfire : ∀ x p, (x.lane l).params.mode = .auto → (x.lane l).seqr.state ≠ .occupied → (fire x p).lane l = x.lane l)
    (hmode : (s.lane l).params.mode = .auto) (hstate : (s.lane l).seqr.state ≠ .occupied) (table : Table Route) :
    (table.foldl fire s).lane l = s.lane l :=
  List.foldlRecOn table fire (motive := fun x => x.lane l = s.lane l) rfl fun x hx p _ => by
    rw [hfire x p (by rw [hx]; exact hmode) (by rw [hx]; exact hstate), hx]

/-- An event leaves a lane in AUTO alone that is not in OCCUPIED. -/
theorem raiseEvent_lane_of_auto (hmode : (s.lane l).params.mode = .auto) (hstate : (s.lane l).seqr.state ≠ .occupied)
    (e : EventKind) (x : Option Nat) : (raiseEvent e x s).lane l = s.lane l :=
  foldl_lane_of_auto (fun _ p hm hs => fireRoute_lane (g := id) fun _ => takeTask_lane_of_auto hm hs p.2.task p.2.taskIndex)
    hmode hstate _

theorem raiseLeaving_lane_of_auto (hmode : (s.lane l).params.mode = .auto) (hstate : (s.lane l).seqr.state ≠ .occupied)
    (e : EventKind) (k : Lane) : (raiseLeaving e k s).lane l = s.lane l := by
  refine foldl_lane_of_auto (fun x p hm hs => ?_) hmode hstate _
  unfold fireRouteLeaving
  split
  · rfl
  · exact fireRoute_lane (g := id) fun _ => takeTask_lane_of_auto hm hs p.2.task p.2.taskIndex

theorem foldl_barrier {fire : State → Nat × Route → State} {table : Table Route}
    (hfire : ∀ x p, (x.lane l).params.mode ≠ .manual ∨ (p.2.enabled = true → p.2.task = .barrierRaise ∨ p.2.task = .barrierLower →
      p.2.taskIndex ≠ l.num) → ((fire x p).lane l).barrier = (x.lane l).barrier)
    (hparams : ∀ x p, ((fire x p).lane l).params = (x.lane l).params)
    (h : (s.lane l).params.mode ≠ .manual ∨ Unrouted l table) : ((table.foldl fire s).lane l).barrier = (s.lane l).barrier :=
  (List.foldlRecOn table fire
    (motive := fun x => (x.lane l).barrier = (s.lane l).barrier ∧ (x.lane l).params = (s.lane l).params) ⟨rfl, rfl⟩
    fun x hx p hp => by
      obtain ⟨hbarrier, hsame⟩ := hx
      refine ⟨(hfire x p ?_).trans hbarrier, (hparams x p).trans hsame⟩
      rw [hsame]
      exact h.imp_right fun hun => hun p hp).1

/-- An event moves a lane's barrier in MANUAL alone, through a route that asks for it. -/
theorem raiseEvent_barrier (h : (s.lane l).params.mode ≠ .manual ∨ Unrouted l s.routes.routes) (e : EventKind)
    (x : Option Nat) : ((raiseEvent e x s).lane l).barrier = (s.lane l).barrier :=
  foldl_barrier (fun _ _ hp => fireRoute_lane fun henabled => takeTask_barrier (hp.imp_right fun hr => hr henabled))
    (fun y p => (fireRoute_aside l e x y p).params) h

theorem raiseLeaving_barrier (h : (s.lane l).params.mode ≠ .manual ∨ Unrouted l s.routes.routes) (e : EventKind)
    (k : Lane) : ((raiseLeaving e k s).lane l).barrier = (s.lane l).barrier := by
  refine foldl_barrier (fun x p hp => ?_) (fun x p => ?_) h <;> unfold fireRouteLeaving <;> split
  exacts [rfl, fireRoute_lane fun henabled => takeTask_barrier (hp.imp_right fun hr => hr henabled), rfl,
    (fireRoute_aside l e _ x p).params]

end RoutedLane
end Sys2Proof.Machine

/-! PROOFS, 06_lanes_and_barriers (R60, R104 to R106). What the departure of a head leaves of a lane that watches a passage. -/

namespace Sys2Proof.Machine
open Sys2Proof

/-! ### A watched passage in AUTO (R60, R106) -/

section Watching

variable {s t u : State} {l k : Lane}

/-- A lane without what a departing head changes there while its passage is watched: the head, the light, the unannounced
occupancy timer and the report. -/
def LaneUnit.watched (u : LaneUnit) : LaneUnit :=
  { u with
    seqr := { u.seqr with head := none, light := .red, unannounced := .stopped, unannouncedLate := 0 }
    report := LaneUnit.cold.report }

/-- A lane in AUTO that watches a passage: in PASSING, or HELD in a FAULT (R104, R105). -/
def Watches (u : LaneUnit) : Prop :=
  u.params.mode = .auto ∧ (u.seqr.state = .passing ∨ (u.seqr.state = .held ∧ u.barrier.state = .fault))

/-- A lane that differs only so watches as before. -/
theorem watches_congr {u v : LaneUnit} (h : v.watched = u.watched) : Watches v ↔ Watches u := by
  have hparams : v.params = u.params := congrArg (fun w => w.params) h
  have hstate : v.seqr.state = u.seqr.state := congrArg (fun w => w.seqr.state) h
  have hbarrier : v.barrier = u.barrier := congrArg (fun w => w.barrier) h
  simp only [Watches, hparams, hstate, hbarrier]

theorem Watches.not_occupied {u : LaneUnit} (h : Watches u) : u.seqr.state ≠ .occupied := by
  obtain ⟨-, hstate | ⟨hstate, -⟩⟩ := h <;> simp [hstate]

/-- The new head of a lane that watches moves it no further (R107): HELD settles to HELD in a FAULT. -/
theorem handHead_watched (h : Watches (s.lane l)) (fresh : Bool) :
    ((handHead l fresh s).lane l).watched = (s.lane l).watched := by
  have kept : ((keepHead l s).lane l).watched = (s.lane l).watched := by simp [keepHead, LaneUnit.watched]
  have hwatch := (watches_congr kept).2 h
  unfold handHead
  dsimp only
  generalize keepHead l s = x at kept hwatch ⊢
  obtain ⟨hmode, hpassing | ⟨hheld, hfault⟩⟩ := hwatch
  · rw [if_pos hmode, handHeadAuto, hpassing]
    exact kept
  · rw [if_pos hmode, handHeadAuto, hheld]
    refine Eq.trans ?_ kept
    simp [settle, hfault, LaneUnit.watched, hheld]

theorem endCaptureLeaving_watched (h : Watches (s.lane l)) (k : Lane) (r : CaptureReason) :
    ((endCaptureLeaving k r s).lane l).watched = (s.lane l).watched := by
  by_cases hcapture : (s.deck k).capture = none
  · unfold endCaptureLeaving endCaptureBy
    rw [hcapture]
  · have dropped : ((captureDropped k r s).lane l).watched = (s.lane l).watched := by
      by_cases hk : l = k
      · subst hk
        have hstate : (s.lane l).seqr.state ≠ .capturing := by
          obtain ⟨-, hstate | ⟨hstate, -⟩⟩ := h <;> simp [hstate]
        simp [captureDropped, captureFailed, dropCapture, hstate, LaneUnit.watched]
      · rw [(captureDropped_works k r s).lane_of_ne hk]
    have hwatch := (watches_congr dropped).2 h
    rw [endCaptureLeaving_of_some hcapture]
    show ((raiseLeaving .captureFailed k (captureDropped k r s)).lane l).watched = _
    rw [raiseLeaving_lane_of_auto hwatch.1 hwatch.not_occupied]
    exact dropped

theorem depart_watched (h : Watches (s.lane l)) (n : Nat) {f : State → State} (hf : ∀ x, (f x).lanes = x.lanes) :
    ((depart n f s).lane l).watched = (s.lane l).watched := by
  unfold depart
  split
  · rfl
  · split
    · rw [State.lane, hf]
      rfl
    · rename_i pl _
      have hlane : (f (freePlace pl n s)).lane l = s.lane l := by
        rw [State.lane, hf]
        rfl
      have synced : ∀ x : State, ((syncUnannounced pl.lane x).lane l).watched = (x.lane l).watched := fun x => by
        by_cases hk : l = pl.lane
        · rw [← hk]
          simp [syncUnannounced, setUnannounced, LaneUnit.watched]
        · rw [((syncUnannounced_laneOp pl.lane).works x).lane_of_ne hk]
      dsimp only
      rw [synced]
      split
      · by_cases hk : l = pl.lane
        · rw [← hk, handHead_watched (by rw [hlane]; exact h), hlane]
        · rw [((handHead_laneOp pl.lane true).works _).lane_of_ne hk, hlane]
      · rw [hlane]

/-- A passed vehicle leaves a lane that watches as it stands, but for its head, light, timer of unannounced occupancy and
report. -/
theorem vehiclePassed_watched (h : Watches (s.lane l)) : ((vehiclePassed l s).lane l).watched = (s.lane l).watched := by
  have ended := endCaptureLeaving_watched h l .abandoned
  have leaves : ∀ (n : Nat) (f : State → State), (∀ x : State, (f x).lanes = x.lanes) →
      ((depart n f (endCaptureLeaving l .abandoned s)).lane l).watched = (s.lane l).watched := fun n f hf =>
    (depart_watched ((watches_congr ended).2 h) n hf).trans ended
  unfold vehiclePassed
  split
  · rfl
  · split
    · rfl
    · split
      exacts [rfl, leaves _ id fun _ => rfl, leaves _ _ fun _ => rfl, leaves _ _ fun _ => rfl]

theorem handReleased_watched (h : Watches (s.lane l)) : ((handReleased l s).lane l).watched =
    { (s.lane l).watched with seqr := { (s.lane l).watched.seqr with released := none, passageArmed := false } } := by
  have passed : ((if headIsReleased s l then vehiclePassed l s else s).lane l).watched = (s.lane l).watched := by
    split
    exacts [vehiclePassed_watched h, rfl]
  unfold handReleased
  dsimp only
  rw [modSeq_lane, ← passed]
  rfl

end Watching

end Sys2Proof.Machine

/-! PROOFS, 06_lanes_and_barriers. Passages, the loop, the journal, decisions, samples and printing keep the lanes. -/

namespace Sys2Proof.Machine
open Sys2Proof

/-! ### The other units' operations keep the lanes -/

section OtherUnitsLanes

variable (s : State)

theorem raiseNotice_kept (n : Notice) (p : PortId) : LanesKept s (raiseNotice n p s) := .of_lanes rfl
theorem raiseLaneOffice_kept (n : Notice) (l : Lane) : LanesKept s (raiseLaneOffice n l s) := .of_lanes rfl

/-! #### Passages, occupancy and the loop (R97 to R106, R113, R115) -/

theorem handReleased_kept (l : Lane) : LanesKept s (handReleased l s) := by
  unfold handReleased
  dsimp only
  refine LanesKept.trans ?_ (modSeq_kept l _ _ rfl rfl fun _ => rfl)
  split
  exacts [vehiclePassed_kept l s, .refl s]

/-- PASSING that ends: the light is red before the head leaves and the state CLOSING after, and the lane is in order again
only then (R106). -/
theorem passageEnd_kept (l : Lane) (hmode : (s.lane l).params.mode = .auto) (hstate : (s.lane l).seqr.state = .passing) :
    LanesKept s (enterClosing l (handReleased l (s.modSeq l fun q => { q with light := .red }))) := by
  have reddened : Watches ((s.modSeq l fun q => { q with light := .red }).lane l) := by
    rw [modSeq_lane]
    exact ⟨hmode, .inl hstate⟩
  have watched := handReleased_watched reddened
  have kept := handReleased_kept (s.modSeq l fun q => { q with light := .red }) l
  have hother : ∀ k, k ≠ l → (s.modSeq l fun q => { q with light := .red }).lane k = s.lane k := fun k hk =>
    (LaneWork.of_modSeq _).lane_of_ne hk
  rw [modSeq_lane] at watched
  generalize hy : handReleased l (s.modSeq l fun q => { q with light := .red }) = y at watched kept ⊢
  have hsameParams := congrArg LaneUnit.params watched
  have hsameBarrier := congrArg LaneUnit.barrier watched
  have hparams : (y.lane l).params = (s.lane l).params := hsameParams
  have hbarrier : (y.lane l).barrier = (s.lane l).barrier := hsameBarrier
  intro k
  by_cases hk : k = l
  · subst hk
    refine ⟨fun h => BarrierOk.enterClosing ((kept k).barrier ((modSeq_barrierOk k _ s).2 h)), fun h => ?_⟩
    have able := h.able hmode (by simp [hstate]) (by simp [hstate])
    exact enterClosing_sequencerOk (by rw [hparams]; exact hmode) (by rw [hbarrier]; exact able.barrier)
  · rw [((enterClosing_laneOp l).works y).lane_of_ne hk, ← hother k hk]
    exact kept k

theorem checkPassage_kept (l : Lane) : LanesKept s (checkPassage l s) := by
  unfold checkPassage
  dsimp only
  split
  · split
    · exact passageEnd_kept s l ‹_› ‹_›
    · exact handReleased_kept s l
    · exact (vehiclePassed_kept l s).trans (modSeq_kept l _ _ rfl rfl fun _ => rfl)
    · exact .refl s
  · exact .refl s

/-- IDLE and OCCUPIED follow each other in a lane that is in either (R98, R100, R102). -/
theorem enterIdle_kept (l : Lane) (hmode : (s.lane l).params.mode = .auto) (hstate : (s.lane l).seqr.state = .occupied) :
    LanesKept s (enterIdle l s) :=
  .of_work ((enterIdle_laneOp l).works s)
    ⟨fun h => h.enterIdle, fun h => enterIdle_sequencerOk (h.able hmode (by simp [hstate]) (by simp [hstate]))⟩

theorem enterOccupied_kept (l : Lane) (hmode : (s.lane l).params.mode = .auto) (hstate : (s.lane l).seqr.state = .idle) :
    LanesKept s (enterOccupied l s) :=
  .of_work ((enterOccupied_laneOp l).works s)
    ⟨fun h => h.enterOccupied, fun h => enterOccupied_sequencerOk (h.able hmode (by simp [hstate]) (by simp [hstate]))⟩

theorem laneOccupied_kept (l : Lane) : LanesKept s (laneOccupied l s) := by
  have copied := modSeq_kept l (fun q => { q with occupied := true }) s rfl rfl fun _ => rfl
  unfold laneOccupied
  dsimp only
  refine LanesKept.trans ?_ (syncUnannounced_kept l _)
  split
  · rename_i hidle
    exact copied.trans (enterOccupied_kept _ l hidle.1 hidle.2)
  · exact copied

theorem laneClear_kept (l : Lane) : LanesKept s (laneClear l s) := by
  have copied := modSeq_kept l (fun q => { q with occupied := false }) s rfl rfl fun _ => rfl
  unfold laneClear
  dsimp only
  refine LanesKept.trans ?_ (syncUnannounced_kept l _)
  split
  · rename_i hoccupied
    exact copied.trans (enterIdle_kept _ l hoccupied.1 hoccupied.2)
  · exact copied.trans (checkPassage_kept _ l)

/-- The barrier and the loop after a change of the loop (R97, R115). -/
def loopMoved (l : Lane) (occupied : Bool) (s : State) : State :=
  barrierLoop l occupied (s.modSensors l fun x => { x with loopOccupied := occupied })

theorem loopMoved_work (l : Lane) (occupied : Bool) : LaneWork l s (loopMoved l occupied s) := by
  have sensed : LaneWork l s (s.modSensors l fun x => { x with loopOccupied := occupied }) := .of_modLane _
  unfold loopMoved barrierLoop
  exact sensed.trans (.of_modBarrier _)

theorem loopMoved_lane (l : Lane) (occupied : Bool) : (loopMoved l occupied s).lane l = { s.lane l with
    sensors := { (s.lane l).sensors with loopOccupied := occupied }
    barrier :=
      if occupied then
        match (s.lane l).barrier.state with
        | .lowering => { (s.lane l).barrier with
            state := .raising, pendingLower := true, travelTimer := travelStarted s l (s.lane l).barrier.travelTimer }
        | .down | .raising | .up | .fault => (s.lane l).barrier
      else
        match (s.lane l).barrier.state with
        | .raising | .up =>
          if (s.lane l).barrier.pendingLower then { (s.lane l).barrier with
            state := .lowering, pendingLower := false, travelTimer := travelStarted s l (s.lane l).barrier.travelTimer }
          else (s.lane l).barrier
        | .down | .lowering | .fault => (s.lane l).barrier } := by
  have hstarted : ∀ k, travelStarted (s.modSensors l fun x => { x with loopOccupied := occupied }) l k =
      travelStarted s l k := fun k => by
    simp only [travelStarted, inSec, inMs, modSensors_lane]
    rfl
  rw [loopMoved, barrierLoop, modBarrier_lane, modSensors_lane]
  simp only [hstarted] <;> rfl

/-- No arm lowers once the loop is OCCUPIED, and no lower stays pending once it is CLEAR (R115). -/
theorem loopMoved_kept (l : Lane) (occupied : Bool) : LanesKept s (loopMoved l occupied s) := by
  refine .of_work (loopMoved_work s l occupied) ?_
  rw [loopMoved_lane]
  generalize s.lane l = v
  refine ⟨fun h => ?_, fun h => h.of_barrier (u := { v with sensors := _ }) ?_⟩
  · obtain ⟨hloop, htimer, hpending⟩ := h
    cases hstate : v.barrier.state <;> cases occupied <;> cases hp : v.barrier.pendingLower <;>
      simp_all [BarrierOk, travelStarted]
  · cases hstate : v.barrier.state <;> cases occupied <;> cases v.barrier.pendingLower <;> simp [hstate]

theorem laneLoopOccupied_kept (l : Lane) : LanesKept s (laneLoopOccupied l s) := by
  unfold laneLoopOccupied
  dsimp only
  split <;> rename_i hmode hstate
  · refine .of_modLane ⟨id, fun h => ?_⟩
    have hfault := (sequencerOk_auto hmode).1 h
    exact (sequencerOk_auto (by exact hmode)).2 (by simp_all [passStopped])
  · split
    exacts [modSeq_kept l _ s rfl rfl fun _ => rfl, .refl s]
  · split
    exacts [modSeq_kept l _ s rfl rfl fun _ => rfl, .refl s]
  · exact .refl s

theorem loopChange_kept (l : Lane) (occupied : Bool) : LanesKept s (loopChange l occupied s) := by
  have moved : ∀ e, LanesKept s (raiseAt e l (loopMoved l occupied s)) := fun e =>
    (loopMoved_kept s l occupied).trans (raiseAt_kept e l _)
  unfold loopChange
  dsimp only
  split
  exacts [(moved _).trans (laneLoopOccupied_kept _ l), (moved _).trans (checkPassage_kept _ l)]

/-! #### The journal and the tickets -/

theorem countEvents_kept (n : Nat) : LanesKept s (countEvents n s) := by
  unfold countEvents
  split
  · exact (raiseEvent_kept _ _ s).trans (.of_lanes rfl)
  · split
    exacts [(raiseEvent_kept _ _ s).trans (.of_lanes rfl), .refl s]

theorem appendEntry_kept (b : JournalBody) : LanesKept s (appendEntry b s) :=
  LanesKept.trans (t := { s with journal := s.journal.push b }) (.of_lanes rfl) (countEvents_kept _ _)

theorem appendRollover_kept (d : Nat) : LanesKept s (appendRollover d s) :=
  ((appendEntry_kept s _).trans (.of_lanes rfl)).trans (raiseEvent_kept _ _ (beginYardDay d _))

theorem rolloverEvent_kept : LanesKept s (rolloverEvent s) := by
  unfold rolloverEvent
  split
  · exact .of_lanes rfl
  · split
    exacts [appendRollover_kept s _, .of_lanes rfl]

theorem tryHead_kept : LanesKept s (tryHead s) := .of_hide (tryHead_hide (ps := [.nv, .tickets]) (by decide) (by decide)) (by decide)
theorem nvServe_kept : LanesKept s (nvServe s) := .of_hide (nvServe_hide (ps := [.nv]) (by decide)) (by decide)
theorem nvEnd_kept (ok : Bool) : LanesKept s (nvEnd ok s) := .of_hide (nvEnd_hide (ps := [.nv]) (by decide) ok) (by decide)
theorem nvRequest_kept (r : NvRequest) : LanesKept s (nvRequest r s) :=
  .of_hide (nvRequest_hide (ps := [.nv]) (by decide) r) (by decide)
theorem requestFloorWrite_kept (b : Bool) : LanesKept s (requestFloorWrite b s) :=
  .of_hide (requestFloorWrite_hide (ps := [.nv, .tickets]) (by decide) (by decide) b) (by decide)

theorem drain_kept : LanesKept s (drain s) := by
  have restart : LanesKept s (drainRestart s) := by
    unfold drainRestart
    split
    · exact .refl s
    · split
      · exact LanesKept.trans (t := { s with tickets := { s.tickets with pendingRestart := none } }) (.of_lanes rfl)
          (appendEntry_kept _ _)
      · exact .refl s
  have rollover : ∀ x : State, LanesKept x (drainRollover x) := fun x => by
    unfold drainRollover
    split
    · exact .refl x
    · split
      · exact LanesKept.trans (t := { x with tickets := { x.tickets with pendingRollover := none } }) (.of_lanes rfl)
          (appendRollover_kept _ _)
      · exact .refl x
  unfold drain
  dsimp only
  split
  · exact restart
  · split
    exacts [restart.trans (rollover _), (restart.trans (rollover _)).trans (tryHead_kept _)]

/-! #### Decisions (R53 to R58) -/

theorem handOut_kept (l : Lane) (n : Nat) : LanesKept s (handOut l n s) := by
  unfold handOut
  split
  · exact .refl s
  · dsimp only
    have handed := fun d : Decision => (modReport_kept l (fun r => { r with lastDecision := d }) s).trans
      (handHead_kept l false _)
    refine LanesKept.trans ?_ (raiseLaneOffice_kept _ _ l)
    split
    · exact ((handed _).trans (raiseAt_kept _ l _)).trans (modReport_kept l _ _)
    · exact ((handed _).trans (raiseAt_kept _ l _)).trans (modReport_kept l _ _)
    · exact handed _

/-- What a decision works on besides the lane it is handed to: no lane among it. -/
def decidingParts : List Part := [.visits, .tares, .allow, .tickets, .nv]

theorem decideVisit_kept (l : Lane) (n : Nat) (w : CapturedWeight) : LanesKept s (decideVisit l n w s) := by
  unfold decideVisit
  split
  · exact .refl s
  · split
    · exact (LanesKept.of_hide (firstCapture_hide (ps := decidingParts) (by decide) (by decide) (by decide) (by decide)
        (by decide) _ _) (by decide)).trans (handOut_kept _ l n)
    · exact (LanesKept.of_hide (secondCapture_hide (ps := decidingParts) (by decide) (by decide) (by decide) _ _)
        (by decide)).trans (handOut_kept _ l n)
    · exact .refl s

theorem completeCapture_kept (d : Deck) : LanesKept s (completeCapture d s) := by
  unfold completeCapture
  split
  · exact .refl s
  · have dropped : LanesKept s (dropCapture d s) := .of_lanes rfl
    exact (dropped.trans (decideVisit_kept _ d _ _)).trans
      ((modReport_kept d _ _).trans ((raiseAt_kept _ d _).trans (raiseLaneOffice_kept _ _ d)))

/-! #### A sample and the link fault (R3, R7) -/

theorem stageEvents_kept (d : Deck) (u : DeckUnit) : LanesKept s (stageEvents d u s) := by
  have overload : LanesKept s (if (s.deck d).overload && !u.overload then raiseAt .deckOverload d s else s) := by
    split
    exacts [raiseAt_kept _ d s, .refl s]
  unfold stageEvents
  dsimp only
  generalize (if (s.deck d).overload && !u.overload then raiseAt .deckOverload d s else s) = x at overload ⊢
  have occupancy : LanesKept s (if (s.deck d).occupied && !u.occupied then laneOccupied d (raiseAt .deckOccupied d x)
      else if u.occupied && !(s.deck d).occupied then laneClear d (raiseAt .deckClear d x) else x) := by
    split
    · exact overload.trans ((raiseAt_kept _ d x).trans (laneOccupied_kept _ d))
    · split
      exacts [overload.trans ((raiseAt_kept _ d x).trans (laneClear_kept _ d)), overload]
  split
  exacts [occupancy.trans (raiseAt_kept _ d _), occupancy]

theorem captureTests_kept (d : Deck) (b a : DeckUnit) : LanesKept s (captureTests d b a s) := by
  unfold captureTests
  split
  · split
    · exact endCapture_kept d _ s
    · split
      exacts [completeCapture_kept s d, .refl s]
  · exact .refl s

theorem trackStep_kept (d : Deck) : LanesKept s (trackStep d s) :=
  .of_hide (trackStep_hide (ps := [.decks]) s d (by decide)) (by decide)

theorem sampleStep_kept (d : Deck) (c : BitVec 24) : LanesKept s (sampleStep d c s) := by
  have weighed : ∀ f, LanesKept s ((linkRecover d (trackStep d s)).modDeck d f) := fun f =>
    (trackStep_kept s d).trans (.of_lanes rfl)
  unfold sampleStep
  dsimp only
  exact ((weighed _).trans ((stageEvents_kept _ d _).trans (captureTests_kept _ d _ _))).trans (.of_lanes rfl)

theorem linkFault_kept (d : Deck) : LanesKept s (linkFault d s) := by
  have lost : LanesKept s (linkLostAt d s) := (trackStep_kept s d).trans (.of_lanes rfl)
  rw [linkFault_eq]
  exact lost.trans ((endCapture_kept d _ _).trans ((raiseAt_kept _ d _).trans (raiseLaneOffice_kept _ _ d)))

/-! #### Printing (R145 to R155) -/

theorem closeJob_kept (l : Lane) (r : PrintResult) : LanesKept s (closeJob l r s) := by
  have uncount : ∀ j : PrintJob, LanesKept s (uncountJob j s) := fun j => by
    unfold uncountJob
    split <;> exact .of_lanes rfl
  unfold closeJob
  split
  · exact .refl s
  · dsimp only
    refine LanesKept.trans ?_ (modPrinter_kept l _ _)
    have emptied : ∀ j f, LanesKept s ((uncountJob j s).modPrinter l f) := fun j f =>
      (uncount j).trans (modPrinter_kept l f _)
    split
    · exact (emptied _ _).trans ((raiseAt_kept _ l _).trans (raiseLaneOffice_kept _ _ l))
    all_goals exact (emptied _ _).trans (raiseAt_kept _ l _)

theorem startJob_kept (l : Lane) : LanesKept s (startJob l s) := by
  unfold startJob
  dsimp only
  split
  · exact .refl s
  · split
    · exact closeJob_kept s l _
    · have started : ∀ (i : Nat) (w : JobWalk), LanesKept s ((setWalk l w (modInUse i (· + 1) s)).modPrinter l fun e =>
          { e with state := .printing }) := fun i w =>
        LanesKept.trans (t := modInUse i (· + 1) s) (.of_lanes rfl) ((modPrinter_kept l _ _).trans (modPrinter_kept l _ _))
      split
      · exact (started _ _).trans ((modPrinter_kept l _ _).trans (raiseLaneOffice_kept _ _ l))
      · exact started _ _

theorem engineMove_kept (l : Lane) {t : State} (h : engineMove l s = some t) : LanesKept s t := by
  unfold engineMove at h
  dsimp only at h
  split at h
  · cases h
  · split at h
    · cases h; exact startJob_kept s l
    · split at h
      · cases h
      · split at h
        · split at h
          · cases h; exact closeJob_kept s l _
          · cases h
        · split at h
          · split at h
            · cases h; exact closeJob_kept s l _
            · split at h
              · cases h; exact closeJob_kept s l _
              · cases h; exact (modPrinter_kept l _ _).trans (modPrinter_kept l _ _)
          · cases h

theorem pumpEngine_kept (l : Lane) : LanesKept s (pumpEngine l s) := by
  unfold pumpEngine
  generalize 32 = n
  induction n generalizing s with
  | zero => exact .refl s
  | succ n ih =>
    unfold runEngine
    split
    · exact .refl s
    · exact (engineMove_kept s l ‹_›).trans (ih _)

theorem endJob_kept (l : Lane) (r : PrintResult) : LanesKept s (endJob l r s) :=
  (closeJob_kept s l r).trans (pumpEngine_kept _ l)

theorem queueJob_kept (l : Lane) (k : TicketRecord) (b : Bool) : LanesKept s (queueJob l k b s).2 := by
  unfold queueJob
  dsimp only
  split
  exacts [.refl s, (modPrinter_kept l _ s).trans (pumpEngine_kept _ l)]

theorem queueOriginal_kept (l : Lane) (k : TicketRecord) : LanesKept s (queueOriginal l k s) := by
  have queued := queueJob_kept s l k false
  unfold queueOriginal
  split <;> rename_i h <;> rw [h] at queued
  · exact queued
  · exact (queued.trans ((raiseAt_kept _ l _).trans (raiseLaneOffice_kept _ _ l))).trans (modPrinter_kept l _ _)

theorem reprint_kept (l : Lane) (n : Nat) : LanesKept s (reprint l n s).2 := by
  unfold reprint
  split
  · exact .refl s
  · rename_i k _
    have queued := queueJob_kept s l k true
    split <;> rename_i h <;> rw [h] at queued <;> exact queued

end OtherUnitsLanes
end Sys2Proof.Machine

/-! PROOFS, 06_lanes_and_barriers. The ticket issue, the ends of writes, the parameters and the lane commands keep the lanes. -/

namespace Sys2Proof.Machine
open Sys2Proof

section CommandLanes

variable (s : State)

/-! #### The ticket issue and the ends of writes -/

theorem settleTicket_kept (v : Visit) (n : Nat) : LanesKept s (settleTicket v n s) := by
  unfold settleTicket overrunOutcome
  split
  · exact .refl s
  · dsimp only
    split
    · refine LanesKept.trans ?_ (raiseEvent_kept _ _ _)
      exact .of_lanes rfl
    · exact .of_lanes rfl

theorem keepTare_kept (v : Visit) : LanesKept s (keepTare v s) := by
  refine .of_lanes ?_
  unfold keepTare
  split
  · rfl
  · unfold placeTare
    dsimp only
    split
    · split <;> rfl
    · split
      · rfl
      · split <;> rfl

theorem ticketVisit_kept (v : Visit) (t : TicketRecord) : LanesKept s (ticketVisit v t s) := by
  have told := modReport_kept t.lane (fun r => { r with lastDecision := .pass })
    (modVisit v.number (fun v => { v with ticket := some t.number, state := ticketedState t }) s)
  have visited : LanesKept s (modVisit v.number (fun v => { v with ticket := some t.number, state := ticketedState t }) s) :=
    .of_lanes rfl
  exact (visited.trans told).trans (handHead_kept t.lane false _)

theorem announceTicket_kept (t : TicketRecord) : LanesKept s (announceTicket t s) :=
  ((modReport_kept t.lane _ s).trans (raiseAt_kept _ t.lane _)).trans (raiseLaneOffice_kept _ _ t.lane)

theorem issueRecord_kept (v : Visit) (t : TicketRecord) : LanesKept s (issueRecord v t s) := by
  have settled := (appendEntry_kept s (.ticket t)).trans (settleTicket_kept _ v t.net.toNat)
  have counted : LanesKept s (countTicket t.kind t.category t.net.toNat
      (keepTare v (settleTicket v t.net.toNat (appendEntry (.ticket t) s)))) :=
    (settled.trans (keepTare_kept _ v)).trans (.of_lanes rfl)
  exact counted.trans ((ticketVisit_kept _ v t).trans ((queueOriginal_kept _ t.lane t).trans (announceTicket_kept _ t)))

theorem issueStep_kept : LanesKept s (issueStep s) := by
  unfold issueStep
  split
  · exact .refl s
  · split
    · unfold issueHead
      split
      · split
        · have finished : ∀ x : State, LanesKept x (finishIssue x) := fun _ => .of_lanes rfl
          exact (issueRecord_kept s _ _).trans ((finished _).trans (tryHead_kept _))
        · exact .refl s
      · exact .refl s
    · exact tryHead_kept s

theorem floorWriteEnd_kept (ok : Bool) : LanesKept s (floorWriteEnd ok s) := by
  have retry : ∀ (f : FloorWrite) (x : State), LanesKept x (retryEnd f ok x) := fun f x => by
    unfold retryEnd
    split
    exacts [.of_lanes rfl, .refl x]
  have outcome : ∀ (f : FloorWrite) (x : State), LanesKept x (floorOutcome f ok x) := fun f x => by
    unfold floorOutcome
    dsimp only
    split
    · refine LanesKept.trans (LanesKept.trans ?_ (retry f _)) (tryHead_kept _)
      exact .of_lanes rfl
    · split
      · refine LanesKept.trans ?_ (retry f _)
        exact .of_lanes rfl
      · exact .of_lanes rfl
  unfold floorWriteEnd
  split
  exacts [(nvEnd_kept s ok).trans ((outcome _ _).trans (nvServe_kept _)), .refl s]

theorem siteWriteEnd_kept (ok : Bool) : LanesKept s (siteWriteEnd ok s) := by
  have outcome : ∀ (v : Nat) (x : State), LanesKept x (siteOutcome v ok x) := fun v x => by
    unfold siteOutcome
    split
    · refine LanesKept.trans ?_ (tryHead_kept _)
      exact .of_lanes rfl
    · exact .of_lanes rfl
  unfold siteWriteEnd
  split
  exacts [(nvEnd_kept s ok).trans ((outcome _ _).trans (nvServe_kept _)), .refl s]

theorem appendReserved_kept (b : JournalBody) : LanesKept s (appendReserved b s) := by
  refine LanesKept.trans ?_ (appendEntry_kept _ b)
  exact .of_lanes rfl

theorem calStored_kept (d : Deck) (r : CalRecord) (c : StagedCal) : LanesKept s (calStored d r c s) := by
  have put : LanesKept s (calPut d r c s) := .of_lanes rfl
  exact (put.trans (appendReserved_kept _ _)).trans (.of_lanes rfl)

theorem calWriteEnd_kept (ok : Bool) : LanesKept s (calWriteEnd ok s) := by
  have after : ∀ (b : Bool) (x : State), LanesKept x (nvServe (afterCalWrite b x)) := fun b x => by
    refine LanesKept.trans ?_ (nvServe_kept _)
    unfold afterCalWrite
    dsimp only
    split
    exacts [(drain_kept x).trans (tryHead_kept _), drain_kept x]
  unfold calWriteEnd
  split
  · dsimp only
    split
    · exact (nvEnd_kept s ok).trans ((calStored_kept _ _ _ _).trans (after _ _))
    · refine (nvEnd_kept s ok).trans (LanesKept.trans ?_ (after _ _))
      unfold calNotStored
      dsimp only
      split <;> exact .of_lanes rfl
  · exact .refl s

/-! #### Owners' writes and parameters -/

/-- Of the owners' writes only those of accounts and caps raise an event. -/
theorem ownerWrite_kept (i : Nat) (w : TableWrite) : LanesKept s (ownerWrite i w s).2 := by
  have raised : ∀ (b : Bool) (a : AllowanceUnit), LanesKept s (if b = true then raiseEvent .overrun none (s.setAllow a)
      else s.setAllow a) := fun b a => by
    split
    · refine LanesKept.trans ?_ (raiseEvent_kept _ _ _)
      exact .of_lanes rfl
    · exact .of_lanes rfl
  cases w with
  | account w =>
    unfold ownerWrite storeAccount
    dsimp only
    split
    · exact .refl s
    · split
      · exact .refl s
      · split
        · exact .refl s
        · split
          exacts [.refl s, raised _ _]
  | siteCap cap =>
    unfold ownerWrite storeCap
    dsimp only
    split
    · exact .refl s
    · split
      exacts [.refl s, raised _ _]
  | category name reserve => unfold ownerWrite storeCategory; dsimp only; split <;> exact .of_lanes rfl
  | categoryRemove =>
    unfold ownerWrite removeCategory
    dsimp only
    split
    · exact .refl s
    · split
      · exact .refl s
      · split <;> exact .of_lanes rfl
  | accountDelete =>
    unfold ownerWrite deleteAccount
    dsimp only
    split
    · exact .refl s
    · split <;> exact .of_lanes rfl
  | siteCapEmpty => unfold ownerWrite emptyCap; dsimp only; split <;> exact .of_lanes rfl
  | tare v t d =>
    unfold ownerWrite storeTare
    dsimp only
    split
    · exact .refl s
    · split
      · exact .refl s
      · split
        · exact .refl s
        · split <;> exact .of_lanes rfl
  | tareDelete => exact .of_lanes rfl
  | template name head =>
    unfold ownerWrite storeTemplate
    dsimp only
    split
    · exact .refl s
    · split <;> exact .of_lanes rfl
  | templateEmpty => unfold ownerWrite emptyTemplate; dsimp only; split <;> exact .of_lanes rfl
  | line w =>
    unfold ownerWrite storeLine
    dsimp only
    split
    · exact .refl s
    · split <;> exact .of_lanes rfl
  | route w =>
    unfold ownerWrite storeRoute
    dsimp only
    split
    · split
      · exact .refl s
      · split <;> exact .of_lanes rfl
    · exact .refl s

/-- A lane with a stopped pass timer restarts in order in any mode, whatever its sequencer's state was (R96, R121). -/
theorem restartInMode_ok {l : Lane} (htimer : (s.lane l).seqr.passTimer.running = false) :
    SequencerOk ((restartInMode l (s.lane l).params.mode s).lane l) := by
  unfold restartInMode
  split <;> rename_i hmode
  · have closed : SequencerOk ((s.modSeq l fun q => { q with state := .closed, light := .red }).lane l) := by
      rw [modSeq_lane]
      exact (sequencerOk_other (by simp [hmode])).2 ⟨by simp [hmode], htimer⟩
    exact (lowerRequest_kept l _).sequencer closed
  · rw [enterManual, modSeq_lane]
    exact (sequencerOk_other (by simp [hmode])).2 ⟨by simp [hmode], htimer⟩
  · exact settle_sequencerOk hmode htimer

theorem restartInMode_work (l : Lane) (m : LaneMode) : LaneWork l s (restartInMode l m s) := by
  unfold restartInMode
  split
  exacts [(enterClosed_laneOp l).works s, .of_modSeq _, (settle_laneOp l).works s]

theorem restartInMode_barrierOk {l : Lane} (m : LaneMode) (h : BarrierOk (s.lane l)) :
    BarrierOk ((restartInMode l m s).lane l) := by
  unfold restartInMode
  split
  · exact BarrierOk.lowerRequest ((modSeq_barrierOk l _ s).2 h)
  · exact (modSeq_barrierOk l _ s).2 h
  · exact h.settle

/-- A lane stopped and taken to a mode, before it restarts there (R96). -/
def modeTaken (l : Lane) (m : LaneMode) (s : State) : State :=
  (cancelRaiseWait l (stopLane l s)).modParams l fun x => { x with mode := m }

theorem modeTaken_work (l : Lane) (m : LaneMode) : LaneWork l s (modeTaken l m s) := by
  have cancelled : LaneWork l (stopLane l s) (cancelRaiseWait l (stopLane l s)) := .of_modSeq _
  have taken : LaneWork l (cancelRaiseWait l (stopLane l s)) (modeTaken l m s) := by
    unfold modeTaken
    exact .of_modLane _
  exact (((stopLane_laneOp l).works s).trans cancelled).trans taken

theorem modeTaken_lane (l : Lane) (m : LaneMode) : ∃ u n, (modeTaken l m s).lane l = { s.lane l with
    params := { (s.lane l).params with mode := m }
    seqr := { (s.lane l).seqr with
      passTimer := passStopped s l (s.lane l).seqr.passTimer, passageArmed := false, released := none, raiseWait := false,
      unannounced := u, unannouncedLate := n } } := by
  rw [modeTaken, modParams_lane, cancelRaiseWait, modSeq_lane, stopLane, setUnannounced, modSeq_lane, modSeq_lane]
  exact ⟨_, _, rfl⟩

theorem setLaneMode_eq {l : Lane} {m : LaneMode} (h : (s.lane l).params.mode ≠ m) : setLaneMode l m s =
    syncUnannounced l (restartInMode l m (modeTaken l m (endCapture l .abandoned s))) := by
  unfold setLaneMode
  rw [if_neg h]
  rfl

theorem setLaneMode_kept (l : Lane) (m : LaneMode) : LanesKept s (setLaneMode l m s) := by
  by_cases hsame : (s.lane l).params.mode = m
  · unfold setLaneMode
    rw [if_pos hsame]
    exact .refl s
  · rw [setLaneMode_eq s hsame]
    refine (endCapture_kept l .abandoned s).trans (LanesKept.trans ?_ (syncUnannounced_kept l _))
    generalize endCapture l .abandoned s = x
    obtain ⟨u, n, htaken⟩ := modeTaken_lane x l m
    refine .of_work ((modeTaken_work x l m).trans (restartInMode_work _ l m)) ⟨fun h => ?_, fun _ => ?_⟩
    · exact restartInMode_barrierOk _ m (by rw [htaken]; exact h)
    · have restarted := restartInMode_ok (modeTaken l m x) (l := l) (by rw [htaken]; rfl)
      have hmode : ((modeTaken l m x).lane l).params.mode = m := by rw [htaken]
      rwa [hmode] at restarted

theorem overstayVisit_kept (n : Nat) : LanesKept s (overstayVisit n s) := by
  refine LanesKept.trans ?_ ((raiseEvent_kept _ _ _).trans (raiseNotice_kept _ _ _))
  exact .of_lanes rfl

theorem writeParam_kept (c i : Byte) (v : Nat) : LanesKept s (writeParam c i v s).2 := by
  have written : ∀ q : Param, LanesKept s (q.write v s) := fun q => by
    cases q with
    | overstayLimit =>
      refine LanesKept.trans (t := { s with visits := { s.visits with overstayLimit := v } }) (.of_lanes rfl) ?_
      exact .foldl (fun x n => overstayVisit_kept x n) _ _
    | laneMode l => exact setLaneMode_kept s l _
    | direction l | autoCapture l | passTimeout l | unannouncedTimeout l | travelTimeout l => exact modParams_kept l _ s rfl
    | deliveryTemplate l | collectionTemplate l | pauseTimeout l => exact modPrinter_kept l _ s
    | _ => exact .of_lanes rfl
  unfold writeParam
  split
  · exact .refl s
  · split
    exacts [.refl s, written _]

/-! #### The lane commands and the office commands -/

theorem announceBody_kept (l : Lane) (a : Option Announcement) : LanesKept s (announceBody l a s).2 := by
  unfold announceBody
  split
  · exact .refl s
  · split
    · exact .refl s
    · refine LanesKept.trans ?_ (joinQueue_kept l _ _ _)
      exact .of_lanes rfl

theorem attachBody_kept (l : Lane) (x : Option Text) : LanesKept s (attachBody l x s).2 := by
  unfold attachBody
  split
  · exact .refl s
  · split
    · exact .refl s
    · unfold attachVisit
      dsimp only
      split
      · refine LanesKept.trans ?_ (joinQueue_kept l _ _ _)
        exact .of_lanes rfl
      · exact joinQueue_kept l _ _ _

theorem releaseVisit_kept (l : Lane) (n : Nat) : LanesKept s (releaseVisit l n s).2 := by
  have ended : LanesKept s (if isHead s l n = true then endCaptureLeaving l .abandoned s else s) := by
    split
    exacts [endCaptureLeaving_kept l _ s, .refl s]
  unfold releaseVisit
  dsimp only
  split
  · exact ended
  · split
    · exact ended.trans (depart_kept n (f := removeVisit n) (fun _ => .of_lanes rfl) _)
    · exact ended.trans (depart_kept n (f := modVisit n _) (fun _ => .of_lanes rfl) _)
    · exact ended.trans (depart_kept n (f := id) (fun x => .refl x) _)
    · exact ended

/-- CAPTURE starts in OCCUPIED, or in MANUAL, where no sequencer moves (R52, R113). -/
theorem captureVisit_kept (l : Lane) (n : Nat) : LanesKept s (captureVisit l n s).2 := by
  unfold captureVisit
  split
  · exact .refl s
  · split
    · exact .refl s
    · split
      · exact .refl s
      · rename_i hpermitted
        have hstate : (s.lane l).params.mode = .auto → (s.lane l).seqr.state = .occupied := fun hmode => by
          rcases capturePermitted_iff.1 (by simpa using hpermitted) with hmanual | ⟨-, hoccupied⟩
          exacts [absurd (hmode.symm.trans hmanual) (by decide), hoccupied]
        split
        · exact .refl s
        · rename_i hrefusal
          have started : (startForHead l n s).2 = acceptStart l n s := by rw [startForHead, hrefusal]
          dsimp only
          rw [← started]
          exact .of_work ((startForHead_laneOp l n).works s)
            ⟨fun h => h.startForHead n, fun h => startForHead_sequencerOk h hstate n⟩

theorem manualRaise_kept (l : Lane) : LanesKept s (manualRaise l s).2 := by
  unfold manualRaise
  split
  · exact .refl s
  · rename_i hmode
    split
    · exact .refl s
    · have raised : LanesKept s (raiseRequest l s) := .of_work ((raiseRequest_laneOp l).works s) (raiseRequest_kept l s)
      refine raised.trans (modSeq_kept l _ _ ?_ ?_ fun h => absurd ?_ hmode)
      · split <;> rfl
      · split <;> rfl
      · rw [raiseRequest_lane] at h
        exact fun hm => absurd (hm.symm.trans h) (by decide)

theorem manualLower_kept (l : Lane) : LanesKept s (manualLower l s).2 := by
  unfold manualLower
  split
  · exact .refl s
  · rename_i hmode
    have reddened : LanesKept s (s.modSeq l fun q => { q with light := .red, raiseWait := false }) :=
      modSeq_kept l _ s rfl rfl fun h => absurd (by simp [h]) hmode
    dsimp only
    split
    · exact reddened
    · exact reddened.trans (.of_work ((lowerRequest_laneOp l).works _) (lowerRequest_kept l _))

end CommandLanes
end Sys2Proof.Machine

/-! PROOFS, 06_lanes_and_barriers (R108 to R110, R116 to R120). The barrier's reports, its FAULT, the lane timers and the restart
of the lanes keep the lanes. -/

namespace Sys2Proof.Machine
open Sys2Proof

section BarrierEvents

variable {s t : State} {k l : Lane}

/-! #### The barrier's reports, its FAULT and its limits (R116 to R118) -/

theorem reportUp_kept (l : Lane) (s : State) : LanesKept s (reportUp l s) := by
  unfold reportUp
  split <;> rename_i hmode
  · split
    · rename_i hstate
      exact .of_work ((enterOpen_laneOp l).works s) ⟨fun h => h.enterOpen,
        fun h => enterOpen_sequencerOk (h.able hmode (by simp [hstate]) (by simp [hstate]))⟩
    · exact .refl s
  · split
    · exact modSeq_kept l _ s rfl rfl fun h => absurd (h.symm.trans hmode) (by decide)
    · exact .refl s
  · exact .refl s

theorem reportDown_kept (l : Lane) (s : State) : LanesKept s (reportDown l s) := by
  unfold reportDown
  split
  · rename_i hclosing
    obtain ⟨hmode, hstate⟩ := hclosing
    exact .of_work ((closingDone_laneOp l).works s) ⟨fun h => h.closingDone,
      fun h => closingDone_sequencerOk (h.able hmode (by simp [hstate]) (by simp [hstate]))⟩
  · exact .refl s

/-- A change of the barrier alone, to no FAULT, keeps the lanes where it keeps the barrier in order. -/
theorem modBarrier_kept (l : Lane) (f : Barrier → Barrier) (s : State)
    (hb : BarrierOk (s.lane l) → BarrierOk { s.lane l with barrier := f (s.lane l).barrier })
    (hf : (f (s.lane l).barrier).state = .fault → (s.lane l).barrier.state = .fault) : LanesKept s (s.modBarrier l f) :=
  .of_modLane ⟨hb, fun h => h.of_barrier hf⟩

/-- The barrier in FAULT, before its event is raised (R117). -/
def barrierFaulted (l : Lane) (s : State) : State :=
  s.modBarrier l fun b => { b with state := .fault, pendingLower := false, travelTimer := travelStopped s l b.travelTimer }

/-- The barrier controller's FAULT reported, before the sequencer takes it (R117). -/
def faultReported (l : Lane) (s : State) : State := raiseLaneOffice .lane l (raiseAt .barrierFault l (barrierFaulted l s))

theorem enterFault_eq (l : Lane) (s : State) : enterFault l s =
    if ((faultReported l s).lane l).params.mode = .auto then enterFaultHeld l (faultReported l s) else faultReported l s := rfl

theorem barrierFaulted_lane (l : Lane) (s : State) : (barrierFaulted l s).lane l = { s.lane l with barrier :=
    { (s.lane l).barrier with
      state := .fault, pendingLower := false, travelTimer := travelStopped s l (s.lane l).barrier.travelTimer } } :=
  modBarrier_lane s l _

theorem barrierFaulted_barrierOk (l : Lane) (s : State) : BarrierOk ((barrierFaulted l s).lane l) := by
  rw [barrierFaulted_lane]
  simp [BarrierOk, travelStopped]

theorem faultReported_aside (l : Lane) (s : State) : Aside k (barrierFaulted l s) (faultReported l s) :=
  (raiseAt_aside k .barrierFault l _).trans (raiseLaneOffice_aside k .lane l _)

theorem faultReported_mode (l : Lane) (s : State) : ((faultReported l s).lane l).params = (s.lane l).params := by
  rw [(faultReported_aside l s).params, barrierFaulted_lane]

theorem faultReported_kept (l : Lane) (s : State) : LanesKept (barrierFaulted l s) (faultReported l s) :=
  (raiseAt_kept .barrierFault l _).trans (raiseLaneOffice_kept _ .lane l)

theorem enterFaultHeld_barrierOk (h : BarrierOk (s.lane l)) : BarrierOk ((enterFaultHeld l s).lane l) :=
  (modSeq_barrierOk l _ s).2 h

/-- HELD in a FAULT is in order whatever the sequencer's state was (R103). -/
theorem enterFaultHeld_sequencerOk (hmode : (s.lane l).params.mode = .auto) : SequencerOk ((enterFaultHeld l s).lane l) := by
  rw [enterFaultHeld, modSeq_lane]
  exact (sequencerOk_auto (by exact hmode)).2 (by simp [passStopped])

/-- A barrier's FAULT leaves its barrier in order, whatever it was. -/
theorem enterFault_barrierOk (l : Lane) (s : State) : BarrierOk ((enterFault l s).lane l) := by
  have reported := (faultReported_kept l s l).barrier (barrierFaulted_barrierOk l s)
  rw [enterFault_eq]
  split
  exacts [enterFaultHeld_barrierOk reported, reported]

theorem enterFault_kept_at (l : Lane) (s : State) : LaneKept (s.lane l) ((enterFault l s).lane l) := by
  refine ⟨fun _ => enterFault_barrierOk l s, fun h => ?_⟩
  have hparams := faultReported_mode l s
  rw [enterFault_eq]
  split
  · exact enterFaultHeld_sequencerOk ‹_›
  · rename_i hmode
    rw [hparams] at hmode
    refine (faultReported_kept l s l).sequencer ?_
    rw [barrierFaulted_lane]
    exact (sequencerOk_other (by exact hmode)).2 ((sequencerOk_other hmode).1 h)

/-- The other lanes keep of a FAULT what its event leaves them. -/
theorem enterFault_other (hk : k ≠ l) (s : State) : Aside k s (enterFault l s) ∧ LaneKept (s.lane k) ((enterFault l s).lane k) := by
  have hfaulted : LaneWork l s (barrierFaulted l s) := .of_modBarrier _
  have reported := faultReported_kept l s k
  rw [hfaulted.lane_of_ne hk] at reported
  have aside := (hfaulted.aside hk).trans (faultReported_aside l s)
  rw [enterFault_eq]
  split
  · have held : LaneWork l (faultReported l s) (enterFaultHeld l (faultReported l s)) := .of_modSeq _
    exact ⟨aside.trans (held.aside hk), by rw [held.lane_of_ne hk]; exact reported⟩
  · exact ⟨aside, reported⟩

theorem enterFault_kept (l : Lane) (s : State) : LanesKept s (enterFault l s) := fun k => by
  by_cases hk : k = l
  · subst hk; exact enterFault_kept_at k s
  · exact (enterFault_other hk s).2

/-- The travel that ends: a raise UP, a lower DOWN (R116). -/
theorem endTravel_kept (l : Lane) {st : BarrierState} (e : EventKind) (s : State)
    (h : (s.lane l).barrier.state = .raising ∧ st = .up ∨ (s.lane l).barrier.state = .lowering ∧ st = .down) :
    LanesKept s (endTravel l st e s) := by
  refine (modBarrier_kept l _ s (fun hb => ?_) (fun hf => ?_)).trans (raiseAt_kept e l _)
  · obtain ⟨hloop, htimer, hpending⟩ := hb
    rcases h with ⟨hstate, rfl⟩ | ⟨hstate, rfl⟩
    · exact ⟨by simp, by simp [travelStopped], fun hp => ⟨.inr rfl, (hpending hp).2⟩⟩
    · exact ⟨by simp, by simp [travelStopped], fun hp => absurd (hpending hp).1 (by simp [hstate])⟩
  · rcases h with ⟨-, rfl⟩ | ⟨-, rfl⟩ <;> cases hf

theorem limitActive_kept (l : Lane) (x : Limit) (s : State) : LanesKept s (limitActive l x s) := by
  unfold limitActive
  dsimp only
  split
  · exact enterFault_kept l s
  · split
    · rename_i hstate
      exact (endTravel_kept l _ s (.inl ⟨hstate, rfl⟩)).trans (reportUp_kept l _)
    · rename_i hstate
      exact (endTravel_kept l _ s (.inr ⟨hstate, rfl⟩)).trans (reportDown_kept l _)
    · exact .refl s

/-- CLEAR LANE FAULT: the barrier as its limits read, then its report (R118). -/
theorem clearLaneFault_kept (l : Lane) (s : State) : LanesKept s (clearLaneFault l s).2 := by
  unfold clearLaneFault
  dsimp only
  split
  · exact .refl s
  · rename_i hfault
    replace hfault := not_not.1 hfault
    split
    · exact .refl s
    · rename_i st hst
      have hclear : st = .up ∨ st = .down := by
        unfold stateFromLimits at hst
        split at hst <;> simp_all
      have cleared : LanesKept s (s.modBarrier l fun b => { b with state := st, pendingLower := false }) := by
        refine modBarrier_kept l _ s (fun hb => ?_) (fun _ => hfault)
        obtain ⟨-, htimer, -⟩ := hb
        rw [hfault] at htimer
        rcases hclear with rfl | rfl <;> exact ⟨by simp, by simpa using htimer, by simp⟩
      dsimp only
      unfold reportCleared
      split <;> rename_i hmode
      · rw [modBarrier_lane] at hmode
        replace hmode : (s.lane l).params.mode = .auto := hmode
        refine .of_work ((LaneWork.of_modBarrier _).trans ((settle_laneOp l).works _)) ⟨fun h => ?_, fun h => ?_⟩
        · exact BarrierOk.settle ((cleared l).barrier h)
        · obtain ⟨-, -, htimer, hheld⟩ := (sequencerOk_auto hmode).1 h
          refine settle_sequencerOk (by rw [modBarrier_lane]; exact hmode) ?_
          rw [modBarrier_lane]
          exact Bool.eq_false_iff.2 (mt htimer.1 (by simp [hheld hfault]))
      · exact cleared.trans (.of_work ((lowerRequest_laneOp l).works _) (lowerRequest_kept l _))
      · split
        exacts [cleared.trans (reportUp_kept l _), cleared]

/-! #### The lane timers (R109, R110, log 51) -/

/-- A stall closes an OPEN lane, which is in AUTO and in no FAULT (R109). -/
theorem stallLane_kept (l : Lane) (s : State) (hrun : (s.lane l).seqr.passTimer.running = true) :
    LanesKept s (stallLane l s) := by
  have unreleased : LanesKept s (s.modSeq l fun q => { q with released := none }) := modSeq_kept l _ s rfl rfl fun _ => rfl
  have raised := (unreleased.trans (raiseAt_kept .laneStalled l _)).trans (raiseLaneOffice_kept _ .lane l)
  intro k
  by_cases hk : k = l
  · subst hk
    refine ⟨fun h => BarrierOk.enterClosing ((raised k).barrier h), fun h => ?_⟩
    obtain ⟨hclosed, hmanual, -, htimer, hfault⟩ := h
    have hopened := htimer.1 hrun
    have hmode : (s.lane k).params.mode = .auto := by
      cases hm : (s.lane k).params.mode <;> simp_all
    have hlane : (raiseLaneOffice .lane k (raiseAt .laneStalled k (s.modSeq k fun q => { q with released := none }))).lane k =
        { s.lane k with seqr := { (s.lane k).seqr with released := none } } := by
      refine (raiseEvent_lane_of_auto (by rw [modSeq_lane]; exact hmode) ?_ _ _).trans (modSeq_lane s k _)
      rw [modSeq_lane]
      exact fun hocc => absurd (hopened.symm.trans hocc) (by decide)
    refine enterClosing_sequencerOk ?_ ?_ <;> rw [hlane]
    · exact hmode
    · exact fun hf => absurd (hopened.symm.trans (hfault hmode hf)) (by decide)
  · rw [stallLane, ((enterClosing_laneOp l).works _).lane_of_ne hk]
    exact raised k

theorem passAgain_kept (l : Lane) (s : State) (hrun : (s.lane l).seqr.passTimer.running = true) :
    LanesKept s (passAgain l s) := by
  have noticed := raiseLaneOffice_kept s .lane l
  exact noticed.trans (modSeq_kept l _ _ rfl (by rw [show ((raiseLaneOffice .lane l s).lane l) = s.lane l from rfl, hrun]; rfl)
    fun _ => rfl)

theorem beam_kept (l : Lane) (b : Beam) (x : Bool) (s : State) : LanesKept s (s.modSensors l fun y => y.setBeam b x) := by
  refine .of_modLane ⟨fun h => ?_, id⟩
  cases b <;> exact h

theorem setLimit_kept (l : Lane) (x : Limit) (a : Bool) (s : State) : LanesKept s (s.modBarrier l fun b => b.setLimit x a) := by
  refine modBarrier_kept l _ s (fun h => ?_) fun h => ?_ <;> cases x <;> exact h

/-! #### The restart of the lanes (R120) -/

theorem abortJobs_kept (l : Lane) (s : State) : LanesKept s (abortJobs l s) := (closeJob_kept s l _).trans (closeJob_kept _ l _)

theorem stopLane_lane (l : Lane) (s : State) : ∃ u n, (stopLane l s).lane l = { s.lane l with
    seqr := { (s.lane l).seqr with
      passTimer := passStopped s l (s.lane l).seqr.passTimer, passageArmed := false, released := none,
      unannounced := u, unannouncedLate := n } } := by
  rw [stopLane, setUnannounced, modSeq_lane, modSeq_lane]
  exact ⟨_, _, rfl⟩

/-- A stopped lane is in order once its sequencer has restarted, whatever its state was. -/
theorem restartSequencer_sequencerOk (htimer : (s.lane l).seqr.passTimer.running = false) :
    SequencerOk ((restartSequencer l s).lane l) := by
  unfold restartSequencer
  split <;> rename_i hmode
  · exact settle_sequencerOk hmode htimer
  · have closed : SequencerOk ((s.modSeq l fun q => { q with state := .closed, light := .red }).lane l) := by
      rw [modSeq_lane]
      exact (sequencerOk_other (by simp [hmode])).2 ⟨by simp [hmode], htimer⟩
    exact (lowerRequest_kept l _).sequencer closed
  · rw [modSeq_lane]
    exact (sequencerOk_other (by simp [hmode])).2 ⟨by simp [hmode], htimer⟩

theorem restartSequencer_barrierOk (h : BarrierOk (s.lane l)) : BarrierOk ((restartSequencer l s).lane l) := by
  unfold restartSequencer
  split
  · exact h.settle
  · exact BarrierOk.lowerRequest ((modSeq_barrierOk l _ s).2 h)
  · exact (modSeq_barrierOk l _ s).2 h

theorem restartTail_kept (l : Lane) (s : State) : LanesKept s (restartTail l s) := by
  obtain ⟨u, n, hstopped⟩ := stopLane_lane l s
  refine LanesKept.trans (t := restartSequencer l (stopLane l s)) (.of_work
    (((stopLane_laneOp l).works s).trans ((restartSequencer_laneOp l).works _)) ⟨fun h => ?_, fun _ => ?_⟩)
    (syncUnannounced_kept l _)
  · exact restartSequencer_barrierOk (by rw [hstopped]; exact h)
  · exact restartSequencer_sequencerOk (by rw [hstopped]; rfl)

theorem restartLane_kept (s : State) (l : Lane) : LanesKept s (restartLane s l) := by
  rw [restartLane_eq]
  exact (endCapture_kept l _ s).trans ((abortJobs_kept l _).trans ((restartTail_kept l _).trans (raiseNotice_kept _ _ _)))

theorem restartLanes_kept (s : State) : LanesKept s (restartLanes s) := by
  unfold restartLanes
  have each : ∀ (order : List Lane) (x : State), LanesKept x (order.foldl restartLane x) := LanesKept.foldl restartLane_kept
  exact LanesKept.trans (t := (takeLaneOrder s).2) (.of_lanes rfl) ((each _ _).trans (raiseNotice_kept _ _ _))

end BarrierEvents
end Sys2Proof.Machine

/-! PROOFS, 06_lanes_and_barriers. The office commands, the calibration unit, the clock and the starts keep the lanes. -/

namespace Sys2Proof.Machine
open Sys2Proof

section OfficeLanes

variable (s : State)

/-! #### The office commands, the calibration unit, the clock and the paper -/

theorem voidVisit_kept (n : Nat) : LanesKept s (voidVisit n s).2 := by
  have captured : ∀ v : Visit, LanesKept s (voidCapture v s) := fun v => by
    unfold voidCapture
    split
    · exact .refl s
    · split
      exacts [endCaptureLeaving_kept _ _ s, .refl s]
  have held : ∀ (v : Visit) (x : State), LanesKept x (voidHold v x) := fun v x => by
    unfold voidHold
    split
    exacts [.of_lanes rfl, .refl x]
  have recorded : ∀ (v : Visit) (x : State), LanesKept x (voidRecord v x) := fun v x => by
    have removed : ∀ (n : Nat) (y : State), LanesKept y (removeVisit n y) := fun _ _ => .of_lanes rfl
    unfold voidRecord
    dsimp only
    have noticed := ((appendEntry_kept x (.void v.number (nowStamp x) (v.place.map (·.lane)))).trans (removed v.number _)).trans
      (raiseNotice_kept _ .visit .office)
    split
    · exact noticed
    · exact noticed.trans (raiseNotice_kept _ _ _)
  unfold voidVisit
  split
  · exact .refl s
  · exact (captured _).trans ((held _ _).trans (depart_kept n (recorded _) _))

theorem awaitTicket_kept (n : Nat) : LanesKept s (awaitTicket n s) :=
  .of_hide (awaitTicket_hide (ps := [.visits, .tickets, .nv]) (by decide) (by decide) (by decide) n) (by decide)

theorem resolveVisit_kept (n : Nat) (c : Option Choice) : LanesKept s (resolveVisit n c s).2 := by
  have accepted : ∀ v : Visit, LanesKept s (acceptZero v s) := fun v => by
    have netted : LanesKept s (modVisit v.number (fun v => { v with net := some 0, negativeNet := true }) s) := .of_lanes rfl
    have awaited := netted.trans (awaitTicket_kept _ v.number)
    unfold acceptZero
    dsimp only
    split
    exacts [awaited, awaited.trans (handOut_kept _ _ _)]
  unfold resolveVisit
  split
  · exact .refl s
  · split
    · exact .refl s
    · split
      · exact .refl s
      · split
        exacts [voidVisit_kept s n, accepted _]

theorem archiveUpTo_kept (n : Nat) : LanesKept s (archiveUpTo n s).2 := by
  unfold archiveUpTo
  split
  · exact .refl s
  · exact LanesKept.trans (t := { s with journal := { s.journal with mark := n } }) (.of_lanes rfl) (drain_kept _)

theorem setOutput_kept (n k : Nat) : LanesKept s (setOutput n k s).2 := by
  unfold setOutput
  split
  · exact .refl s
  · split <;> exact .of_lanes rfl

theorem monoTick_kept : LanesKept s (monoTick s) := .of_hide (monoTick_keeps (s := s)) (by decide)

theorem countSecond_kept : LanesKept s (countSecond s) := by
  have counted : LanesKept s (monoAtAdvance { s with clock := s.clock.advance }) :=
    LanesKept.trans (t := { s with clock := s.clock.advance }) (.of_lanes rfl) (.of_hide (monoAtAdvance_keeps _) (by decide))
  have events : ∀ x : State, LanesKept x (clockEvents x) := fun x => by
    have minute : LanesKept x (if x.clock.second % 60 = 0 then raiseEvent .minute none x else x) := by
      split
      exacts [raiseEvent_kept _ _ x, .refl x]
    unfold clockEvents
    dsimp only
    generalize (if x.clock.second % 60 = 0 then raiseEvent .minute none x else x) = y at minute ⊢
    split
    · split
      exacts [minute.trans (rolloverEvent_kept y), minute]
    · exact .refl x
  unfold countSecond
  dsimp only
  split
  exacts [counted.trans (events _), counted]

theorem abandonIdles_kept (ds : List Deck) : LanesKept s (ds.foldl abandonIdle s) :=
  .foldl (fun x d => by unfold abandonIdle; split <;> exact .of_lanes rfl) ds s

theorem calBegin_kept (d : Deck) : LanesKept s (calBegin d s).2 := by
  have tracked := trackStep_kept s d
  unfold calBegin
  dsimp only
  split
  · exact tracked
  · split
    · exact tracked
    · split
      · exact tracked
      · split
        exacts [tracked, tracked.trans (.of_lanes rfl)]

theorem zeroDeck_kept (d : Deck) : LanesKept s (zeroDeck d s).2 := by
  have tracked := trackStep_kept s d
  unfold zeroDeck
  dsimp only
  split
  · exact tracked
  · exact tracked.trans (.of_lanes rfl)

theorem calSet_kept (f : CalFields) (r : CalRecord) (d : Deck) : LanesKept s (calSet f r d s).2 := by
  unfold calSet
  split
  · exact .refl s
  · split
    exacts [.of_lanes rfl, .refl s]

theorem calZero_kept (r : CalRecord) (d : Deck) : LanesKept s (calZero r d s).2 := by
  unfold calZero
  dsimp only
  split
  exacts [.refl s, .of_lanes rfl]

theorem calSpan_kept (n : Nat) (r : CalRecord) (d : Deck) : LanesKept s (calSpan n r d s).2 := by
  unfold calSpan
  dsimp only
  split
  · exact .refl s
  · split
    · exact .refl s
    · split
      · exact .refl s
      · split
        exacts [.refl s, .of_lanes rfl]

theorem setBusy_kept (p : PortId) : LanesKept s (setBusy p s) := .of_lanes rfl

theorem calEnd_kept (p : PortId) (r : CalRecord) (d : Deck) : LanesKept s (calEnd p r d s).2 := by
  unfold calEnd
  split
  · exact .of_lanes rfl
  · split
    · exact .refl s
    · split
      · exact .refl s
      · dsimp only [beginStore]
        refine LanesKept.trans (LanesKept.trans ?_ (nvRequest_kept _ _)) (setBusy_kept _ p)
        exact .of_lanes rfl

theorem writeSiteNumber_kept (p : PortId) (n : Nat) : LanesKept s (writeSiteNumber p n s).2 := by
  unfold writeSiteNumber
  split
  · exact .refl s
  · split
    exacts [.refl s, (nvRequest_kept s _).trans (setBusy_kept _ p)]

theorem retryStore_kept (p : PortId) : LanesKept s (retryStore p s).2 := by
  unfold retryStore
  split
  · exact .refl s
  · split
    exacts [.refl s, (requestFloorWrite_kept s true).trans (setBusy_kept _ p)]

theorem paperGone_kept (l : Lane) : LanesKept s (paperGone l s) := by
  have raised := (modPrinter_kept l (fun e => { e with paperOut := true }) s).trans (raiseAt_kept .paperOut l _)
  unfold paperGone
  dsimp only
  split
  exacts [raised.trans ((modPrinter_kept l _ _).trans (raiseLaneOffice_kept _ _ l)), raised]

theorem paperBack_kept (l : Lane) : LanesKept s (paperBack l s) := by
  have back := modPrinter_kept l (fun e => { e with paperOut := false }) s
  unfold paperBack
  dsimp only
  split
  exacts [back.trans ((modPrinter_kept l _ _).trans (pumpEngine_kept _ l)), back]

theorem reprintLast_kept (l : Lane) : LanesKept s (reprintLast l s).2 := by
  unfold reprintLast
  split
  exacts [.refl s, reprint_kept s l _]

theorem abortPrint_kept (l : Lane) : LanesKept s (abortPrint l s).2 := by
  unfold abortPrint
  split
  exacts [.refl s, endJob_kept s l _]

end OfficeLanes

/-! ### The starts (R121, R187, R188) -/

section StartLanes

variable {s t : State} {k l : Lane}

/-- A lane whose barrier is in order and whose pass timer is stopped, as a start finds it. -/
structure Unstarted (u : LaneUnit) : Prop where
  barrier : BarrierOk u
  timer : u.seqr.passTimer.running = false

/-- A lane in order. -/
structure LaneOk (u : LaneUnit) : Prop where
  barrier : BarrierOk u
  sequencer : SequencerOk u

theorem LaneOk.kept {u v : LaneUnit} (h : LaneOk u) (g : LaneKept u v) : LaneOk v := ⟨g.barrier h.barrier, g.sequencer h.sequencer⟩

/-- A lane that no other state of it has to keep. -/
theorem LaneOk.kept_of {u v : LaneUnit} (h : LaneOk v) : LaneKept u v := ⟨fun _ => h.barrier, fun _ => h.sequencer⟩

/-- The barrier's start, before the sequencer's (R121). -/
def startArm (l : Lane) (s : State) : State :=
  if (s.lane l).barrier.limitUp && (s.lane l).barrier.limitDown then enterFault l s else lowerUnlessDown l s

theorem startLane_eq (s : State) (l : Lane) :
    startLane s l = restartInMode l ((startArm l s).lane l).params.mode (startArm l s) := rfl

theorem enterFault_passTimer (h : (s.lane l).seqr.passTimer.running = false) :
    ((enterFault l s).lane l).seqr.passTimer.running = false := by
  have hreported : ((faultReported l s).lane l).seqr.passTimer = (s.lane l).seqr.passTimer := by
    have hseqr := congrArg (fun u => u.seqr.passTimer) (faultReported_aside (k := l) l s).lane
    have hsame : ((faultReported l s).lane l).seqr.passTimer = ((barrierFaulted l s).lane l).seqr.passTimer := hseqr
    rw [hsame, barrierFaulted_lane]
  rw [enterFault_eq]
  split
  · rw [enterFaultHeld, modSeq_lane]
    rfl
  · rw [hreported]
    exact h

theorem startArm_unstarted (h : Unstarted (s.lane l)) : Unstarted ((startArm l s).lane l) := by
  obtain ⟨hbarrier, htimer⟩ := h
  unfold startArm
  split
  · exact ⟨enterFault_barrierOk l s, enterFault_passTimer htimer⟩
  · refine ⟨hbarrier.lowerUnlessDown, ?_⟩
    unfold lowerUnlessDown
    split
    · exact htimer
    · rw [lowerRequest_lane]
      exact htimer

theorem startLane_laneOk (h : Unstarted (s.lane l)) : LaneOk ((startLane s l).lane l) := by
  obtain ⟨hbarrier, htimer⟩ := startArm_unstarted h
  rw [startLane_eq]
  exact ⟨restartInMode_barrierOk _ _ hbarrier, restartInMode_ok _ htimer⟩

theorem startLane_other (hk : k ≠ l) (s : State) :
    Aside k s (startLane s l) ∧ LaneKept (s.lane k) ((startLane s l).lane k) := by
  have armed : Aside k s (startArm l s) ∧ LaneKept (s.lane k) ((startArm l s).lane k) := by
    unfold startArm
    split
    · exact enterFault_other hk s
    · have lowered := (lowerUnlessDown_laneOp l).works s
      exact ⟨lowered.aside hk, by rw [lowered.lane_of_ne hk]; exact .refl _⟩
  obtain ⟨haside, hkept⟩ := armed
  rw [startLane_eq]
  have restarted := restartInMode_work (startArm l s) l ((startArm l s).lane l).params.mode
  exact ⟨haside.trans (restarted.aside hk), by rw [restarted.lane_of_ne hk]; exact hkept⟩

theorem Unstarted.of_other (h : Unstarted (s.lane k)) (hk : k ≠ l) : Unstarted ((startLane s l).lane k) := by
  obtain ⟨haside, hkept⟩ := startLane_other hk s
  have htimer := congrArg (fun u => u.seqr.passTimer) haside.lane
  have hsame : ((startLane s l).lane k).seqr.passTimer = (s.lane k).seqr.passTimer := htimer
  exact ⟨hkept.barrier h.barrier, by rw [hsame]; exact h.timer⟩

theorem LaneOk.startLanes {order : List Lane} (hk : k ∉ order) (h : LaneOk (s.lane k)) :
    LaneOk ((order.foldl startLane s).lane k) := by
  induction order generalizing s with
  | nil => exact h
  | cons l ls ih =>
    obtain ⟨hne, hls⟩ := not_or.1 (mt List.mem_cons.2 hk)
    exact ih hls (h.kept (startLane_other hne s).2)

/-- Each lane of the order is in order once the lanes have started: those started before it leave it as a start finds it,
those started after it keep it. -/
theorem startLanes_laneOk {order : List Lane} (hnodup : order.Nodup) (hk : k ∈ order) (h : Unstarted (s.lane k)) :
    LaneOk ((order.foldl startLane s).lane k) := by
  induction order generalizing s with
  | nil => cases hk
  | cons l ls ih =>
    obtain ⟨hl, hls⟩ := List.nodup_cons.1 hnodup
    rcases List.mem_cons.1 hk with rfl | hmem
    · exact LaneOk.startLanes (s := startLane s k) hl (startLane_laneOk h)
    · exact ih hls hmem (h.of_other fun heq => hl (heq ▸ hmem))

theorem lanePermutation_nodup (n : Fin 24) : (lanePermutation n).Nodup := by
  revert n
  decide

/-- A barrier as its limits read is at rest: neither travel, and no lower pending. -/
theorem startBarrier_ok (u : LaneUnit) (b : Barrier) (x : Timer) (hx : x.running = false) :
    BarrierOk { u with barrier := startBarrier x b } := by
  have hrest : (startBarrier x b).state = .down ∨ (startBarrier x b).state = .up := by
    unfold startBarrier
    cases b.limitUp <;> cases b.limitDown <;> simp [stateFromLimits]
  refine ⟨fun h => ?_, ?_, by simp [startBarrier]⟩
  · rcases hrest with hdown | hup
    exacts [absurd (hdown.symm.trans h) (by decide), absurd (hup.symm.trans h) (by decide)]
  · rcases hrest with hstate | hstate <;> simp only [hstate] <;> simpa [startBarrier] using hx

theorem warmValues_unstarted (x : CellsReadable) (s : State) : Unstarted ((warmValues x s).lane k) := by
  have hlane : (warmValues x s).lane k = (s.lane k).warm s k := Four.get_map _ _ _
  rw [hlane]
  exact ⟨startBarrier_ok ((s.lane k).warm s k) (s.lane k).barrier _ rfl, rfl⟩

theorem coldValues_unstarted (x : CellsReadable) (s : State) : Unstarted ((coldValues x s).lane k) := by
  have hlane : (coldValues x s).lane k = (s.lane k).coldFrom := Four.get_map _ _ _
  rw [hlane]
  exact ⟨startBarrier_ok (s.lane k).coldFrom
    { LaneUnit.cold.barrier with limitUp := (s.lane k).barrier.limitUp, limitDown := (s.lane k).barrier.limitDown } _ rfl, rfl⟩

theorem resolveStaged_kept (s : State) : LanesKept s (resolveStaged s) := by
  have unstaged : ∀ x : State, LanesKept x
      { x with cal := { x.cal with staged := none }, journal := { x.journal with reservations := 0 } } := fun _ => .of_lanes rfl
  unfold resolveStaged
  refine LanesKept.trans ?_ (unstaged _)
  split
  · exact .refl s
  · split
    · exact LanesKept.trans (appendReserved_kept s _) (.of_lanes rfl)
    · exact .refl s

theorem warmRestartRecord_kept (s : State) : LanesKept s (warmRestartRecord s) := by
  unfold warmRestartRecord
  split
  · exact .of_lanes rfl
  · dsimp only
    split
    exacts [appendEntry_kept s _, .of_lanes rfl]

theorem startNotices_kept (x : CellsReadable) (s : State) : LanesKept s (startNotices x s) := by
  have raised : LanesKept s (allPorts.foldl (fun s p => raiseNotice .restart p s) s) :=
    .foldl (fun y p => raiseNotice_kept y _ p) _ s
  unfold startNotices
  dsimp only
  split
  exacts [raised, raised.trans (raiseNotice_kept _ _ _)]

/-- After a warm start every lane is in order (R121, R187). -/
theorem warmStart_laneOk (x : CellsReadable) (s : State) : LaneOk ((warmStart x s).lane k) := by
  have restarted : LaneOk ((restartLanesAtStart (warmValues x s)).lane k) :=
    startLanes_laneOk (lanePermutation_nodup _) (mem_lanePermutation _ k)
      (s := { warmValues x s with freeIx := s.freeIx + 1 }) (warmValues_unstarted x s)
  have waited : ∀ y : State, LanesKept y (startWait y) := fun _ => .of_lanes rfl
  exact restarted.kept (((resolveStaged_kept _).trans ((warmRestartRecord_kept _).trans (waited _))).trans
    ((drain_kept _).trans (startNotices_kept x _)) k)

/-- After a cold start every lane is in order (R121, R188). -/
theorem coldStart_laneOk (x : CellsReadable) (s : State) : LaneOk ((coldStart x s).lane k) := by
  have started : LaneOk ((Idx.all.foldl startLane (coldValues x s)).lane k) :=
    startLanes_laneOk (by decide) (Idx.mem_all k) (coldValues_unstarted x s)
  exact started.kept (((appendEntry_kept _ _).trans (startNotices_kept x _)) k)

theorem startPart_kept (x : StartInputs) (s : State) : LanesKept s (startPart x s) := by
  have stopped : LanesKept s (if s.power then losePower x.writeLanded s else s) := by
    split
    exacts [.of_lanes rfl, .refl s]
  unfold startPart
  dsimp only
  generalize (if s.power then losePower x.writeLanded s else s) = y at stopped ⊢
  split
  · unfold startCutShort
    split
    · exact stopped
    · exact fun k => (coldStart_laneOk x.cells y (k := k)).kept_of
  · split
    · exact fun k => (warmStart_laneOk x.cells y).kept_of
    · exact fun k => (coldStart_laneOk x.cells y).kept_of

end StartLanes
end Sys2Proof.Machine

/-! PROOFS, 06_lanes_and_barriers. Every command and every step keep the lanes: the barriers safe (O4) and the sequencers in their
mode (O5). -/

namespace Sys2Proof.Machine
open Sys2Proof

/-! ### Every command keeps the lanes (R99, R103, R109, R111 to R115) -/

section CommandsLanes

variable {r s : State}

theorem portBlind_lanesKept (r : State) : PortBlind (LanesKept r) := fun _ _ _ h => h.trans (.of_lanes rfl)

/-- A command whose body keeps the lanes. -/
theorem command_lanesKept {p : PortId} {k : Byte} {b : Bool} {body : State → Result × State}
    (hb : ∀ x, LanesKept x (body x).2) (s : State) : ∀ t, command p k b body s = .next t → LanesKept s t :=
  command_keeps (portBlind_lanesKept s) (fun x hx => hx.trans (hb x)) (.refl s)

theorem laneCommand_lanesKept {p : PortId} {k b : Byte} {body : Lane → State → Result × State}
    (hb : ∀ l x, LanesKept x (body l x).2) (s : State) : ∀ t, laneCommand p k b body s = .next t → LanesKept s t :=
  laneCommand_keeps (portBlind_lanesKept s) (fun l x hx => hx.trans (hb l x)) (.refl s)

theorem sessionCommand_lanesKept {p : PortId} {k b : Byte} {body : CalRecord → Deck → State → Result × State}
    (hb : ∀ r d x, LanesKept x (body r d x).2) (s : State) :
    ∀ t, calCommand p k b (inSession body) s = .next t → LanesKept s t :=
  calCommand_keeps (portBlind_lanesKept s) (inSession_keeps fun r d x hx => hx.trans (hb r d x)) (.refl s)

theorem writeRecordExchange_lanesKept (p : PortId) (framed : Port → Bool) (w : TableId → Option TableWrite) (s : State) :
    ∀ t, writeRecordExchange p framed w s = .next t → LanesKept s t :=
  writeRecordExchange_keeps (portBlind_lanesKept s) (fun i w x hx => hx.trans (ownerWrite_kept x i w)) (.refl s)

theorem writeTable_lanesKept (p : PortId) (t : TableId) (w : TableWrite) (s : State) :
    ∀ u, writeTable p t w s = .next u → LanesKept s u := writeRecordExchange_lanesKept _ _ _ s

/-- An event of a running part that keeps the lanes. -/
theorem whenRunning_lanesKept {f : State → State} (hf : LanesKept s (f s)) : ∀ t, whenRunning s f = .next t → LanesKept s t :=
  whenRunning_keeps (.refl s) hf

/-- A choice between an effect that keeps the lanes and none. -/
theorem LanesKept.ite {c : Prop} [Decidable c] {f g : State} (hf : c → LanesKept s f) (hg : ¬ c → LanesKept s g) :
    LanesKept s (if c then f else g) := by
  split
  exacts [hf ‹_›, hg ‹_›]

theorem execBarrierLimitChange_kept (l : Lane) (x : Limit) (a : Bool) (s : State) :
    ∀ t, execBarrierLimitChange l x a s = .next t → LanesKept s t := by
  have level := setLimit_kept l x a s
  unfold execBarrierLimitChange
  split
  · rintro t ⟨⟩
    exact .refl s
  · rintro t ⟨⟩
    exact .ite (fun _ => level.trans (limitActive_kept l x _)) fun _ => level

/-- The lane timers: an expiry of an ended run is forgotten, which leaves the timer running or not (log 51). -/
theorem execTravelTimeout_kept (l : Lane) (s : State) : ∀ t, execTravelTimeout l s = .next t → LanesKept s t :=
  whenDue_keeps (.refl s) (modBarrier_kept l _ s id id) (.ite (fun _ => enterFault_kept l s) fun _ => .refl s)

theorem execPassTimeout_kept (l : Lane) (s : State) : ∀ t, execPassTimeout l s = .next t → LanesKept s t :=
  whenDue_keeps (.refl s) (modSeq_kept l _ s rfl rfl fun _ => rfl)
    (.ite (fun hrun => .ite (fun _ => passAgain_kept l s hrun) fun _ => stallLane_kept l s hrun) fun _ => .refl s)

theorem execUnannounced_kept (l : Lane) (s : State) :
    ∀ t, execUnannouncedOccupancyTimeout l s = .next t → LanesKept s t := by
  refine whenDue_keeps (.refl s) (modSeq_kept l _ s rfl rfl fun _ => rfl) ?_
  split
  · exact (modSeq_kept l _ s rfl rfl fun _ => rfl).trans (raiseLaneOffice_kept _ .lane l)
  · exact .refl s
  · exact .refl s

/-- Every command keeps the lanes. -/
theorem exec_keeps_lanes (i : Instr) (s : State) : ∀ t, exec i s = .next t → LanesKept s t := by
  have blind := portBlind_lanesKept s
  have here := LanesKept.refl s
  cases i with
  | readStatus p => exact whenRunning_keeps here (exchange_keeps blind (fun _ hx => hx) here)
  | clearNotices p set => exact command_lanesKept (fun x => by split <;> exact .of_lanes rfl) s
  | setNoticeEnable p set => exact command_lanesKept (fun x => by split <;> exact .of_lanes rfl) s
  | readParameter p k i => exact whenRunning_keeps here (exchange_keeps blind (fun _ hx => readReply_keeps blind hx) here)
  | writeParameter p k i v => exact command_lanesKept (fun x => writeParam_kept x _ _ _) s
  | writeLaneMode p i v => exact command_lanesKept (fun x => writeParam_kept x _ _ _) s
  | writeLanePortEnable p i v => exact command_lanesKept (fun x => writeParam_kept x _ _ _) s
  | selectTable p k i =>
    refine servedCommand_keeps blind (fun x hx => ?_) here
    unfold selectTable
    split
    · exact hx
    · split
      · exact hx
      · split <;> exact hx.trans (.of_lanes rfl)
  | readRecord p => exact whenRunning_keeps here (exchange_keeps blind (fun _ hx => readReply_keeps blind hx) here)
  | writeRecord p args =>
    exact writeRecordExchange_lanesKept p (fun x => writeRecordFramed x args.length) (fun k => tableWriteOf k args) s
  | writeCategory p name reserve => exact writeTable_lanesKept p .categories (.category name reserve.toNat) s
  | removeCategory p => exact writeTable_lanesKept p .categories .categoryRemove s
  | writeAccount p w => exact writeTable_lanesKept p .accounts (.account w) s
  | deleteAccount p => exact writeTable_lanesKept p .accounts .accountDelete s
  | writeSiteCap p cap => exact writeTable_lanesKept p .siteCaps (.siteCap cap.toNat) s
  | emptySiteCap p => exact writeTable_lanesKept p .siteCaps .siteCapEmpty s
  | writeTare p v t d => exact writeTable_lanesKept p .tares (.tare v t.toNat d.toNat) s
  | deleteTare p => exact writeTable_lanesKept p .tares .tareDelete s
  | writeTemplate p name head => exact writeTable_lanesKept p .templates (.template name head.toNat) s
  | emptyTemplate p => exact writeTable_lanesKept p .templates .templateEmpty s
  | writeLine p w => exact writeTable_lanesKept p .lines (.line w) s
  | writeRoute p w => exact writeTable_lanesKept p .routes (.route w) s
  | readWeight p d => exact whenRunning_keeps here (exchange_keeps blind (fun _ hx => readReply_keeps blind hx) here)
  | followJournal p => exact servedCommand_keeps blind (fun _ hx => hx.trans (.of_lanes rfl)) here
  | leaveFollow p =>
    unfold exec execLeaveFollow
    refine whenRunning_lanesKept (.ite (fun _ => .of_lanes rfl) fun _ => ?_)
    exact takeWithData_keeps blind (s := beginExchange p s) (fun _ hx => hx.trans (.of_lanes rfl)) (.of_lanes rfl)
  | followExchange p =>
    unfold exec execFollowExchange
    exact whenRunning_lanesKept (.ite (fun _ => .of_lanes rfl) fun _ => .of_lanes rfl)
  | readJournal p => exact whenRunning_keeps here (exchange_keeps blind (fun _ hx => readReply_keeps blind hx) here)
  | readCursorMove p =>
    unfold exec execReadCursorMove
    exact whenRunning_lanesKept (.of_lanes rfl)
  | framingDiscard p k a r =>
    unfold exec execFramingDiscard
    refine whenRunning_lanesKept ?_
    split <;> exact .of_lanes rfl
  | unknownCommand p k =>
    unfold exec execUnknownCommand
    refine whenRunning_lanesKept ?_
    split
    · exact exchange_keeps blind (fun _ hx => hx.trans (.of_lanes rfl)) here
    · exact here
  | announce p b v a k n w =>
    refine whenRunning_keeps here (exchange_keeps blind (fun x hx => takeWithData_keeps blind (fun y hy => ?_) hx) here)
    split
    exacts [hy, hy.trans (announceBody_kept y _ _)]
  | attach p b v =>
    refine whenRunning_keeps here (exchange_keeps blind (fun x hx => takeWithData_keeps blind (fun y hy => ?_) hx) here)
    split
    exacts [hy, hy.trans (attachBody_kept y _ _)]
  | release p b ref => exact laneCommand_lanesKept (fun l x => by split; exacts [.refl x, releaseVisit_kept x l _]) s
  | capture p b ref => exact laneCommand_lanesKept (fun l x => by split; exacts [.refl x, captureVisit_kept x l _]) s
  | manualRaise p b => exact laneCommand_lanesKept (fun l x => manualRaise_kept x l) s
  | manualLower p b => exact laneCommand_lanesKept (fun l x => manualLower_kept x l) s
  | reprintLast p b => exact laneCommand_lanesKept (fun l x => reprintLast_kept x l) s
  | reprintTicket p n b => exact command_lanesKept (fun x => by split; exacts [.refl x, reprint_kept x _ _]) s
  | abortPrint p b => exact laneCommand_lanesKept (fun l x => abortPrint_kept x l) s
  | zeroDeck p b => exact command_lanesKept (fun x => by split; exacts [.refl x, zeroDeck_kept x _]) s
  | voidVisit p n => exact command_lanesKept (fun x => voidVisit_kept x _) s
  | resolve p n k => exact command_lanesKept (fun x => resolveVisit_kept x _ _) s
  | archiveUpTo p n => exact command_lanesKept (fun x => archiveUpTo_kept x _) s
  | setClock p d n => exact command_lanesKept (fun x => by unfold setClock; split <;> exact .of_lanes rfl) s
  | forceRollover p => exact command_lanesKept rolloverEvent_kept s
  | setOutput p n k => exact command_lanesKept (fun x => setOutput_kept x _ _) s
  | restartLanes p => exact command_lanesKept restartLanes_kept s
  | clearLaneFault p b => exact command_lanesKept (fun x => by split; exacts [.refl x, clearLaneFault_kept _ x]) s
  | calBegin p b => exact calCommand_keeps blind (fun d x hx => hx.trans (calBegin_kept x d)) here
  | calSet p b f => exact sessionCommand_lanesKept (fun r d x => calSet_kept x f r d) s
  | calZero p b => exact sessionCommand_lanesKept (fun r d x => calZero_kept x r d) s
  | calSpan p b n => exact sessionCommand_lanesKept (fun r d x => calSpan_kept x _ r d) s
  | calEnd p b => exact sessionCommand_lanesKept (fun r d x => calEnd_kept x p r d) s
  | calAbandon p b => exact sessionCommand_lanesKept (fun _ _ _ => .of_lanes rfl) s
  | lockCalibration p =>
    exact command_lanesKept (fun x => LanesKept.trans (t := lockUntilPower x) (.of_lanes rfl)
      (abandonIdles_kept (lockUntilPower x) Idx.all)) s
  | writeSiteNumber p n => exact command_lanesKept (fun x => writeSiteNumber_kept x p _) s
  | retryStore p => exact command_lanesKept (fun x => retryStore_kept x p) s
  | sampleOk d n => exact whenRunning_lanesKept (sampleStep_kept s d n)
  | sampleCellError d n =>
    unfold exec execSampleCellError
    exact whenRunning_lanesKept (.ite (fun _ => here) fun _ => linkFault_kept s d)
  | linkSilenceTimeout d =>
    unfold exec execLinkSilenceTimeout
    exact whenDue_keeps here (.of_lanes rfl) (.ite (fun _ => linkFault_kept s d) fun _ => here)
  | captureTimeout d =>
    unfold exec execCaptureTimeout
    exact whenDue_keeps here (.of_lanes rfl) (endCapture_kept d _ s)
  | zeroTrackingStep d => exact whenRunning_lanesKept (trackStep_kept s d)
  | ticketIssue => exact whenRunning_lanesKept (issueStep_kept s)
  | floorWriteEnd ok => exact whenRunning_lanesKept (floorWriteEnd_kept s ok)
  | calWriteEnd ok => exact whenRunning_lanesKept (calWriteEnd_kept s ok)
  | siteNumberWriteEnd ok => exact whenRunning_lanesKept (siteWriteEnd_kept s ok)
  | clockAdvance =>
    rintro t ⟨⟩
    exact .ite (fun _ => .of_hide (absorbAdvance_keeps (s := s)) (by decide)) fun _ => countSecond_kept s
  | overstay n =>
    unfold exec execOverstay
    refine whenRunning_lanesKept ?_
    split
    · exact here
    · exact .ite (fun _ => overstayVisit_kept s _) fun _ => here
  | loopFilterChange l b =>
    unfold exec execLoopFilterChange
    exact whenRunning_lanesKept (.ite (fun _ => here) fun _ => loopChange_kept s l b)
  | beamFilterChange l b x =>
    unfold exec execBeamFilterChange
    exact whenRunning_lanesKept (beam_kept l b x s)
  | barrierLimitChange l x a => exact execBarrierLimitChange_kept l x a s
  | travelTimeout l => exact execTravelTimeout_kept l s
  | passTimeout l => exact execPassTimeout_kept l s
  | unannouncedOccupancyTimeout l => exact execUnannounced_kept l s
  | metrologySwitchChange b =>
    unfold exec execMetrologySwitchChange
    refine whenRunning_lanesKept (.ite (fun _ => here) fun _ => .ite (fun _ => .of_lanes rfl) fun _ => ?_)
    exact LanesKept.trans (t := { s with cal := { s.cal with switchClosed := b } }) (.of_lanes rfl) (abandonIdles_kept _ Idx.all)
  | printByteSent l =>
    unfold exec execPrintByteSent
    exact whenRunning_lanesKept (.ite (fun _ => (modPrinter_kept l _ s).trans (pumpEngine_kept _ l)) fun _ => here)
  | printerReadyChange l b =>
    rintro t ⟨⟩
    exact modPrinter_kept l _ s
  | paperOutChange l b =>
    unfold exec execPaperOutChange
    exact whenRunning_lanesKept (.ite (fun _ => here) fun _ => .ite (fun _ => paperGone_kept s l) fun _ => paperBack_kept s l)
  | pauseTimeout l =>
    unfold exec execPauseTimeout
    exact whenDue_keeps here (modPrinter_kept l _ s) (.ite (fun _ => endJob_kept s l _) fun _ => here)
  | inputFilterChange n b =>
    unfold exec execInputFilterChange
    refine whenRunning_lanesKept (.ite (fun _ => LanesKept.trans ?_ (raiseEvent_kept _ _ _)) fun _ => here)
    exact .of_lanes rfl
  | outputPulseExpiry n =>
    unfold exec execOutputPulseExpiry
    exact whenDue_keeps here (.of_lanes rfl) (.ite (fun _ => .of_lanes rfl) fun _ => here)
  | powerOn x => rintro t ⟨⟩; exact startPart_kept x s
  | externalReset x => rintro t ⟨⟩; exact startPart_kept x s
  | powerLoss b => exact whenRunning_lanesKept (.of_lanes rfl)

/-- A step keeps the lanes as its command does; time alone leaves them as they are. -/
theorem step_keeps_lanes {s t : State} (h : step s = .next t) : LanesKept s t := by
  unfold step at h
  split at h
  · cases h
    exact monoTick_kept s
  · rename_i rest _
    exact LanesKept.trans (t := { s with pending := rest }) (.of_lanes rfl) (exec_keeps_lanes _ _ t h)

/-- Settles O4: a step keeps the barrier of each lane in order. -/
theorem stepKeepsBarriersSafe : Obligations.StepKeepsBarriersSafe := fun _ _ hs h l => (step_keeps_lanes h l).barrier (hs l)

/-- Settles O5: a step keeps the sequencer of each lane in order. -/
theorem stepKeepsSequencersInMode : Obligations.StepKeepsSequencersInMode := fun _ _ hs h l =>
  (step_keeps_lanes h l).sequencer (hs l)

end CommandsLanes
end Sys2Proof.Machine

/-! PROOFS, 06_lanes_and_barriers (R113, R114). MANUAL RAISE and MANUAL LOWER in each lane mode and barrier state. -/

namespace Sys2Proof.Machine
open Sys2Proof

/-! ### A lane changed, and its timers brought to a deadline -/

section LaneChanges

variable (s : State)

/-- Two changes of a lane that agree on the lane as it stands are one. -/
theorem modLane_congr (l : Lane) {f g : LaneUnit → LaneUnit} (h : f (s.lane l) = g (s.lane l)) :
    s.modLane l f = s.modLane l g := by
  unfold State.modLane
  rw [show f (s.lanes.get l) = g (s.lanes.get l) from h]

theorem modBarrier_congr (l : Lane) {f g : Barrier → Barrier} (h : f (s.lane l).barrier = g (s.lane l).barrier) :
    s.modBarrier l f = s.modBarrier l g := modLane_congr s l (by rw [h])

theorem modSeq_congr (l : Lane) {f g : Sequencer → Sequencer} (h : f (s.lane l).seqr = g (s.lane l).seqr) :
    s.modSeq l f = s.modSeq l g := modLane_congr s l (by rw [h])

/-- A travel timer started runs for the lane's travel timeout (R117, log 2). -/
theorem travelStarted_eq_brought (l : Lane) (t : Timer) : travelStarted s l t =
    t.brought s (.travelTimeout l) (some (s.clock.mono * 1000 + (s.lane l).params.travelTimeout * 1000)) := rfl

theorem travelStopped_eq_brought (l : Lane) (t : Timer) : travelStopped s l t = t.brought s (.travelTimeout l) none := rfl

theorem passStarted_eq_brought (l : Lane) (t : Timer) : passStarted s l t =
    t.brought s (.passTimeout l) (some (s.clock.mono * 1000 + (s.lane l).params.passTimeout * 1000)) := rfl

theorem passStopped_eq_brought (l : Lane) (t : Timer) : passStopped s l t = t.brought s (.passTimeout l) none := rfl

end LaneChanges

section Manual

variable {s t : State} {p : PortId} {b : Byte} {l : Lane} {r : Result}

theorem manualRaise_modPort (l : Lane) (s : State) (p : PortId) (f : Port → Port) :
    manualRaise l (s.modPort p f) = ((manualRaise l s).1, (manualRaise l s).2.modPort p f) := by
  unfold manualRaise
  rw [modPort_lane]
  split
  · rfl
  · split <;> rfl

theorem manualLower_modPort (l : Lane) (s : State) (p : PortId) (f : Port → Port) :
    manualLower l (s.modPort p f) = ((manualLower l s).1, (manualLower l s).2.modPort p f) := by
  have hlane : ∀ g, ((s.modPort p f).modSeq l g).lane l = (s.modSeq l g).lane l := fun _ => rfl
  unfold manualLower
  dsimp only
  rw [modPort_lane, hlane]
  split
  · rfl
  · split <;> rfl

/-- A lane command at its lane is its body there. -/
theorem exec_manualRaise (h : Takes s p) (hb : laneBytePermitted p b = true) (hl : laneOf p b = some l)
    (hr : manualRaise l s = (r, t)) : exec (.manualRaise p b) s = .next (t.answer p 0x34#8 r) := by
  refine command_eq_answer h _ hb ?_
  rw [hl]
  exact (manualRaise_modPort l s p _).trans (by rw [hr]; rfl)

theorem exec_manualLower (h : Takes s p) (hb : laneBytePermitted p b = true) (hl : laneOf p b = some l)
    (hr : manualLower l s = (r, t)) : exec (.manualLower p b) s = .next (t.answer p 0x35#8 r) := by
  refine command_eq_answer h _ hb ?_
  rw [hl]
  exact (manualLower_modPort l s p _).trans (by rw [hr]; rfl)

theorem manualRaise_of_other (h : (s.lane l).params.mode ≠ .manual) : manualRaise l s = (.state, s) := if_pos h
theorem manualLower_of_other (h : (s.lane l).params.mode ≠ .manual) : manualLower l s = (.state, s) := if_pos h

theorem manualRaise_of_fault (hm : (s.lane l).params.mode = .manual) (hf : (s.lane l).barrier.state = .fault) :
    manualRaise l s = (.state, s) := by
  simp [manualRaise, hm, hf]

theorem manualLower_of_fault (hm : (s.lane l).params.mode = .manual) (hf : (s.lane l).barrier.state = .fault) :
    manualLower l s = (.state, s.modSeq l fun q => { q with light := .red, raiseWait := false }) := by
  simp [manualLower, hm, hf]

/-- A raise request of a barrier that is not in FAULT (R114). -/
theorem raiseRequest_eq (hf : (s.lane l).barrier.state ≠ .fault) : raiseRequest l s = s.modBarrier l fun x =>
    if x.state = .down ∨ x.state = .lowering then
      { x with state := .raising, pendingLower := false, travelTimer := travelStarted s l x.travelTimer }
    else { x with pendingLower := false } := by
  refine modBarrier_congr s l ?_
  cases hstate : (s.lane l).barrier.state with
  | fault => exact absurd hstate hf
  | down | lowering | raising | up => simp

/-- A lower request (R114). -/
theorem lowerRequest_eq (l : Lane) (s : State) : lowerRequest l s = s.modBarrier l fun x =>
    if x.state = .raising ∨ x.state = .up then
      if (s.lane l).sensors.loopOccupied = true then { x with pendingLower := true }
      else { x with state := .lowering, pendingLower := false, travelTimer := travelStarted s l x.travelTimer }
    else x := by
  refine modBarrier_congr s l ?_
  cases hstate : (s.lane l).barrier.state <;> simp

theorem manualRaise_of_free (hm : (s.lane l).params.mode = .manual) (hf : (s.lane l).barrier.state ≠ .fault) :
    manualRaise l s = (.done, (raiseRequest l s).modSeq l fun q =>
      if (s.lane l).barrier.state = .up then { q with light := .green, raiseWait := false }
      else { q with raiseWait := true }) := by
  simp [manualRaise, hm, hf]

theorem manualLower_of_free (hm : (s.lane l).params.mode = .manual) (hf : (s.lane l).barrier.state ≠ .fault) :
    manualLower l s = (.done, lowerRequest l (s.modSeq l fun q => { q with light := .red, raiseWait := false })) := by
  simp [manualLower, hm, hf]

/-- Settles O36: both commands case by case of the lane's mode and the barrier's state. -/
theorem manualCommandsMoveTheArm : Obligations.ManualCommandsMoveTheArm := by
  intro s p b l h hb hl br started
  refine ⟨fun hm => ⟨?_, ?_⟩, fun hm hf => ⟨?_, ?_⟩, fun hm hf => ⟨?_, ?_⟩⟩
  · exact exec_manualRaise h hb hl (manualRaise_of_other hm)
  · exact exec_manualLower h hb hl (manualLower_of_other hm)
  · exact exec_manualRaise h hb hl (manualRaise_of_fault hm hf)
  · exact exec_manualLower h hb hl (manualLower_of_fault hm hf)
  · rw [exec_manualRaise h hb hl (manualRaise_of_free hm hf), raiseRequest_eq hf]
    rfl
  · rw [exec_manualLower h hb hl (manualLower_of_free hm hf), lowerRequest_eq, modSeq_lane]
    simp only [travelStarted_eq_brought, modSeq_lane]
    rfl

end Manual
end Sys2Proof.Machine

/-! PROOFS, 06_lanes_and_barriers (R103, R105, R108). The cases of settling, and the state each leaves. -/

namespace Sys2Proof.Machine
open Sys2Proof

section Settling

variable {s : State} {l : Lane}

/-- A lane settling out of a FAULT, its passage disarmed (log 19). -/
def disarmed (l : Lane) (s : State) : State := s.modSeq l fun q => { q with passageArmed := false }

theorem disarmed_lane (l : Lane) (s : State) :
    (disarmed l s).lane l = { s.lane l with seqr := { (s.lane l).seqr with passageArmed := false } } := modSeq_lane s l _

/-- No visit is released at the lane. -/
def unreleased (l : Lane) (s : State) : State := s.modSeq l fun q => { q with released := none }

theorem unreleased_lane (l : Lane) (s : State) :
    (unreleased l s).lane l = { s.lane l with seqr := { (s.lane l).seqr with released := none } } := modSeq_lane s l _

theorem disarmed_headClass (l : Lane) (s : State) : headClass (disarmed l s) l = headClass s l := by
  rw [headClass, headClass, disarmed_lane]

/-! #### Which case applies (R103) -/

theorem settle_of_fault (h : (s.lane l).barrier.state = .fault) :
    settle l s = s.modSeq l fun q => { q with state := .held, light := .red } := if_pos h

theorem settle_of_holding (h : (s.lane l).barrier.state ≠ .fault) (hc : headClass s l = .holding) :
    settle l s = enterHeld l (disarmed l s) := by
  have hclass := (disarmed_headClass l s).trans hc
  unfold disarmed at hclass ⊢
  simp [settle, h, hclass]

theorem settle_of_cleared (h : (s.lane l).barrier.state ≠ .fault) (hc : headClass s l = .cleared)
    (ho : (s.lane l).seqr.occupied = true) : settle l s = enterReleasing l (disarmed l s) := by
  have hclass := (disarmed_headClass l s).trans hc
  unfold disarmed at hclass ⊢
  simp [settle, h, hclass, ho]

/-- No head to hold for, and none cleared that stands on the deck. -/
def NoRelease (s : State) (l : Lane) : Prop :=
  headClass s l ≠ .holding ∧ ¬ (headClass s l = .cleared ∧ (s.lane l).seqr.occupied = true)

theorem settle_of_moving (h : (s.lane l).barrier.state ≠ .fault) (hn : NoRelease s l)
    (hd : (s.lane l).barrier.state ≠ .down) : settle l s = enterClosing l (disarmed l s) := by
  obtain ⟨hholding, hcleared⟩ := hn
  have hclass := disarmed_headClass l s
  unfold disarmed at hclass ⊢
  cases hc : headClass s l <;> simp_all [settle]

theorem settle_of_idle (hn : NoRelease s l) (hd : (s.lane l).barrier.state = .down)
    (ho : (s.lane l).seqr.occupied = false) : settle l s = enterIdle l (unreleased l (disarmed l s)) := by
  obtain ⟨hholding, hcleared⟩ := hn
  have hclass := disarmed_headClass l s
  unfold disarmed at hclass ⊢
  unfold unreleased
  cases hc : headClass s l <;> simp_all [settle]

theorem settle_of_occupied (hn : NoRelease s l) (hd : (s.lane l).barrier.state = .down)
    (ho : (s.lane l).seqr.occupied = true) : settle l s = enterOccupied l (unreleased l (disarmed l s)) := by
  obtain ⟨hholding, hcleared⟩ := hn
  have hclass := disarmed_headClass l s
  unfold disarmed at hclass ⊢
  unfold unreleased
  cases hc : headClass s l <;> simp_all [settle]

/-! #### What the case leaves of the lane -/

theorem raiseRequest_up : ((raiseRequest l s).lane l).barrier.state = .up ↔ (s.lane l).barrier.state = .up := by
  rw [raiseRequest_lane]
  cases hstate : (s.lane l).barrier.state <;> simp [hstate]

theorem lowerRequest_down : ((lowerRequest l s).lane l).barrier.state = .down ↔ (s.lane l).barrier.state = .down := by
  rw [lowerRequest_lane]
  cases hstate : (s.lane l).barrier.state <;> cases (s.lane l).sensors.loopOccupied <;> simp [hstate]

/-- A raise that is not over leaves RELEASING with a red light, the head released (R105). -/
theorem enterReleasing_of_not_up (h : (s.lane l).barrier.state ≠ .up) : enterReleasing l s =
    raiseRequest l (s.modSeq l fun q => { q with state := .releasing, light := .red, released := headNumber s l }) := by
  unfold enterReleasing
  dsimp only
  rw [if_neg]
  rw [raiseRequest_up, modSeq_lane]
  exact h

theorem enterReleasing_of_up (h : (s.lane l).barrier.state = .up) : enterReleasing l s = enterOpen l
    (raiseRequest l (s.modSeq l fun q => { q with state := .releasing, light := .red, released := headNumber s l })) := by
  unfold enterReleasing
  dsimp only
  rw [if_pos]
  rw [raiseRequest_up, modSeq_lane]
  exact h

/-- With the arm not DOWN the lane stays in CLOSING (R108). -/
theorem enterClosing_of_not_down (h : (s.lane l).barrier.state ≠ .down) : enterClosing l s =
    lowerRequest l (s.modSeq l fun q =>
      { q with state := .closing, light := .red, released := none, passTimer := passStopped s l q.passTimer }) := by
  unfold enterClosing
  dsimp only
  rw [if_neg]
  rw [lowerRequest_down, modSeq_lane]
  exact h

theorem enterClosing_of_down (h : (s.lane l).barrier.state = .down) : enterClosing l s = closingDone l
    (lowerRequest l (s.modSeq l fun q =>
      { q with state := .closing, light := .red, released := none, passTimer := passStopped s l q.passTimer })) := by
  unfold enterClosing
  dsimp only
  rw [if_pos]
  rw [lowerRequest_down, modSeq_lane]
  exact h

/-- What OPEN and PASSING leave: the light green, the released visit and the barrier as they were (R105). -/
theorem enterOpen_lane (l : Lane) (s : State) : ∃ x a, (enterOpen l s).lane l = { s.lane l with seqr :=
    { (s.lane l).seqr with
      state := if (s.lane l).sensors.loopOccupied = true then .passing else .opened
      light := .green, passTimer := x, passageArmed := a } } := by
  unfold enterOpen
  cases hloop : (s.lane l).sensors.loopOccupied <;> simp only [Bool.false_eq_true, if_true, if_false] <;> rw [modSeq_lane]
  exacts [⟨_, _, rfl⟩, ⟨_, _, rfl⟩]

/-- OCCUPIED acts on a head to capture with auto-capture on alone. -/
theorem actInOccupied_of_autoCapture_off (hc : headClass s l = .capturable ∨ headClass s l = .none)
    (ha : (s.lane l).params.autoCapture = false) (auto : Bool) : actInOccupied l auto s = s := by
  unfold actInOccupied
  rcases hc with hc | hc <;> simp [hc, ha]

theorem enterOccupied_of_autoCapture_off (hc : headClass s l = .capturable ∨ headClass s l = .none)
    (ha : (s.lane l).params.autoCapture = false) :
    enterOccupied l s = s.modSeq l fun q => { q with state := .occupied, light := .red } := by
  have hlane := modSeq_lane s l fun q => { q with state := .occupied, light := .red }
  refine actInOccupied_of_autoCapture_off ?_ (by rw [hlane]; exact ha) true
  rwa [headClass, hlane]

end Settling
end Sys2Proof.Machine

/-! PROOFS, 06_lanes_and_barriers (R96, R103, R112, R113) and 10_master_ports (R173, R177). The lane mode and the lane port enable
written. -/

namespace Sys2Proof.Machine
open Sys2Proof

/-! ### The state an AUTO lane settles in (R103) -/

section SettledState

variable {s t : State} {l : Lane}

/-- The state of an AUTO lane on an occupied deck: a start of auto-capture that is accepted takes it to CAPTURING (R100, R101). -/
def occupiedState (s : State) (l : Lane) : SeqState :=
  if headClass s l = .capturable ∧ (s.lane l).params.autoCapture = true ∧ startRefusal s l = none then .capturing else .occupied

/-- The state of R103's table, of an AUTO lane. -/
def settledState (s : State) (l : Lane) : SeqState :=
  if (s.lane l).barrier.state = .fault ∨ headClass s l = .holding then .held
  else if headClass s l = .cleared ∧ (s.lane l).seqr.occupied = true then
    if (s.lane l).barrier.state = .up then (if (s.lane l).sensors.loopOccupied = true then .passing else .opened)
    else .releasing
  else if (s.lane l).barrier.state ≠ .down then .closing
  else if (s.lane l).seqr.occupied = true then occupiedState s l
  else .idle

theorem startForHead_state (hm : (s.lane l).params.mode = .auto) (n : Nat) :
    ((startForHead l n s).2.lane l).seqr.state =
      if startRefusal s l = none then .capturing else (s.lane l).seqr.state := by
  unfold startForHead
  split <;> rename_i hr <;> rw [hr]
  · simp [acceptStart, hm]
  · simp [reportNotStarted]

theorem enterOccupied_state (hm : (s.lane l).params.mode = .auto)
    (hc : headClass s l = .capturable ∨ headClass s l = .none) :
    ((enterOccupied l s).lane l).seqr.state = occupiedState s l := by
  have hlane := modSeq_lane s l fun q => { q with state := .occupied, light := .red }
  have hclass : headClass (s.modSeq l fun q => { q with state := .occupied, light := .red }) l = headClass s l := by
    rw [headClass, headClass, hlane]
  have hrefusal : startRefusal (s.modSeq l fun q => { q with state := .occupied, light := .red }) l = startRefusal s l := rfl
  have hnumber : headNumber (s.modSeq l fun q => { q with state := .occupied, light := .red }) l = headNumber s l := by
    rw [headNumber, headNumber, hlane]
  unfold enterOccupied actInOccupied occupiedState
  generalize (s.modSeq l fun q => { q with state := .occupied, light := .red }) = x at hlane hclass hrefusal hnumber ⊢
  have hmode : (x.lane l).params.mode = .auto := by rw [hlane]; exact hm
  have hstate : (x.lane l).seqr.state = .occupied := by rw [hlane]
  have hauto : (x.lane l).params.autoCapture = (s.lane l).params.autoCapture := by rw [hlane]
  rw [hclass]
  rcases hc with hc | hc
  · have hhead : ∃ n, headNumber s l = some n := by
      unfold headClass at hc
      split at hc
      · cases hc
      · rename_i n st heq
        exact ⟨n, by rw [headNumber, heq]; rfl⟩
    obtain ⟨n, hn⟩ := hhead
    simp only [hc, hauto, autoStart, hnumber, hn, Bool.true_and, true_and]
    cases hac : (s.lane l).params.autoCapture
    · simp [hstate]
    · simp [startForHead_state hmode, hstate, hrefusal]
  · simp [hc, hstate]

theorem settle_state (hm : (s.lane l).params.mode = .auto) : ((settle l s).lane l).seqr.state = settledState s l := by
  have hdisarmed := disarmed_lane l s
  unfold settledState
  by_cases hf : (s.lane l).barrier.state = .fault
  · rw [settle_of_fault hf, if_pos (.inl hf), modSeq_lane]
  by_cases hh : headClass s l = .holding
  · rw [settle_of_holding hf hh, if_pos (.inr hh)]
    unfold enterHeld lowerUnlessDown
    split
    · rw [modSeq_lane]
    · rw [lowerRequest_lane, modSeq_lane]
  rw [if_neg (not_or.2 ⟨hf, hh⟩)]
  by_cases hc : headClass s l = .cleared ∧ (s.lane l).seqr.occupied = true
  · rw [if_pos hc, settle_of_cleared hf hc.1 hc.2]
    by_cases hup : (s.lane l).barrier.state = .up
    · rw [if_pos hup, enterReleasing_of_up (by rw [hdisarmed]; exact hup)]
      obtain ⟨x, a, hopen⟩ := enterOpen_lane l (raiseRequest l ((disarmed l s).modSeq l fun q =>
        { q with state := .releasing, light := .red, released := headNumber (disarmed l s) l }))
      rw [hopen, raiseRequest_lane, modSeq_lane, hdisarmed]
    · rw [if_neg hup, enterReleasing_of_not_up (by rw [hdisarmed]; exact hup), raiseRequest_lane, modSeq_lane]
  rw [if_neg hc]
  by_cases hd : (s.lane l).barrier.state = .down
  · rw [if_neg (not_not.2 hd)]
    by_cases ho : (s.lane l).seqr.occupied = true
    · rw [if_pos ho, settle_of_occupied ⟨hh, hc⟩ hd ho]
      have hlane := (unreleased_lane l (disarmed l s)).trans (by rw [hdisarmed])
      have hclass : headClass (unreleased l (disarmed l s)) l = headClass s l := by
        rw [headClass, headClass, hlane]
      have hkind : headClass s l = .capturable ∨ headClass s l = .none := by
        cases hk : headClass s l <;> simp_all
      rw [enterOccupied_state (by rw [hlane]; exact hm) (by rw [hclass]; exact hkind), occupiedState, occupiedState, hclass, hlane]
      rfl
    · rw [if_neg ho, settle_of_idle ⟨hh, hc⟩ hd (by simpa using ho), enterIdle_lane]
  · rw [if_pos hd, settle_of_moving hf ⟨hh, hc⟩ hd, enterClosing_of_not_down (by rw [hdisarmed]; exact hd), lowerRequest_lane,
      modSeq_lane]

end SettledState

/-! ### The lane mode written (R96) -/

section ModeWrite

variable {s t : State} {l : Lane} {inst : Byte} {v : BitVec 32}

/-- A change of a port that treats pending notices as it finds them shows outside the yard as itself. -/
theorem modPort_outsideYard (p : PortId) {f : Port → Port} (hf : ∀ x, (f x).outsideRoutes = f x.outsideRoutes) (s : State) :
    (s.modPort p f).outsideYard = s.outsideYard.modPort p f := by
  cases p with
  | office => simp [State.outsideYard, State.modPort, Ports.put, Ports.get, hf]
  | lane l => cases l <;> simp [State.outsideYard, State.modPort, Ports.put, Ports.get, Four.put, Four.get, Four.map, hf]

/-- The parameters of a lane show outside the yard. -/
theorem modParams_outsideYard (l : Lane) (f : LaneParams → LaneParams) (s : State) :
    (s.modParams l f).outsideYard = s.outsideYard.modParams l f := by
  cases l <;> rfl

theorem restartInMode_outsideYard (l : Lane) (m : LaneMode) (s : State) : (restartInMode l m s).outsideYard = s.outsideYard := by
  cases m with
  | closed => exact enterClosed_outsideYard s l
  | manual => exact enterManual_outsideYard s l
  | auto => exact settle_outsideYard s l

theorem setLaneMode_outsideYard {m : LaneMode} (h : (s.lane l).params.mode ≠ m) :
    (setLaneMode l m s).outsideYard = s.outsideYard.modParams l fun x => { x with mode := m } := by
  rw [setLaneMode_eq s h, syncUnannounced_outsideYard, restartInMode_outsideYard, modeTaken, modParams_outsideYard,
    cancelRaiseWait_outsideYard, stopLane_outsideYard, endCapture_outsideYard]

/-- In CLOSED and MANUAL the lane restarts with a red light, and nothing of the sequencer's work is left (R96, R112, R113). -/
theorem setLaneMode_seqr_of_other {m : LaneMode} (h : (s.lane l).params.mode ≠ m) (hm : m ≠ .auto) :
    ∃ q : Sequencer, ((setLaneMode l m s).lane l).seqr = { q with
      state := if m = .manual then .manual else .closed, light := .red, released := none, passageArmed := false
      raiseWait := false, passTimer := { q.passTimer with deadline := none } } := by
  obtain ⟨u, n, htaken⟩ := modeTaken_lane (endCapture l .abandoned s) l m
  obtain ⟨w, k, hsync⟩ := syncUnannounced_seqr l (restartInMode l m (modeTaken l m (endCapture l .abandoned s)))
  rw [setLaneMode_eq s h, hsync]
  cases m with
  | auto => exact absurd rfl hm
  | closed =>
    rw [restartInMode, enterClosed, lowerRequest_lane, modSeq_lane, htaken]
    exact ⟨{ ((endCapture l .abandoned s).lane l).seqr with
      passTimer := passStopped (endCapture l .abandoned s) l ((endCapture l .abandoned s).lane l).seqr.passTimer
      unannounced := w, unannouncedLate := k }, rfl⟩
  | manual =>
    rw [restartInMode, enterManual, modSeq_lane, htaken]
    exact ⟨{ ((endCapture l .abandoned s).lane l).seqr with
      passTimer := passStopped (endCapture l .abandoned s) l ((endCapture l .abandoned s).lane l).seqr.passTimer
      unannounced := w, unannouncedLate := k }, rfl⟩

/-- In AUTO, with no capture to end, the lane settles (R96). -/
theorem setLaneMode_state_of_auto (h : (s.lane l).params.mode ≠ .auto) (hc : (s.deck l).capture = none) :
    ((setLaneMode l .auto s).lane l).seqr.state = settledState (modeTaken l .auto s) l := by
  obtain ⟨u, n, htaken⟩ := modeTaken_lane s l .auto
  obtain ⟨w, k, hsync⟩ := syncUnannounced_seqr l (restartInMode l .auto (modeTaken l .auto s))
  rw [setLaneMode_eq s h, endCapture_of_none hc, hsync]
  exact settle_state (by rw [htaken])

/-- The timers' late expiries and the ports do not bear on the state a lane settles in. -/
theorem settledState_modeTaken (s : State) (p : PortId) (f : Port → Port) (l : Lane) :
    settledState (modeTaken l .auto (s.modPort p f)) l =
      settledState ((s.modParams l fun x => { x with mode := .auto }).modSeq l fun q =>
        { q with passTimer := .stopped, unannounced := .stopped, passageArmed := false, released := none,
                 raiseWait := false }) l := by
  obtain ⟨u, n, htaken⟩ := modeTaken_lane (s.modPort p f) l .auto
  rw [settledState, settledState, occupiedState, occupiedState, headClass, headClass, htaken, modSeq_lane, modParams_lane]
  rfl

theorem paramOf_laneMode (h : Idx.ofNat? inst.toNat = some l) : paramOf 24#8 inst = some (.laneMode l) := by
  have hfind : paramOf 24#8 inst = perLane .laneMode inst.toNat := rfl
  rw [hfind, perLane, h]
  rfl

theorem paramOf_portEnable (h : Idx.ofNat? inst.toNat = some l) : paramOf 34#8 inst = some (.portEnable l) := by
  have hfind : paramOf 34#8 inst = perLane .portEnable inst.toNat := rfl
  rw [hfind, perLane, h]
  rfl

/-- A lane mode by its number is taken. -/
theorem writeParam_laneMode (h : Idx.ofNat? inst.toNat = some l) {m : LaneMode} (hm : m.number = v.toNat) (s : State) :
    writeParam 24#8 inst v.toNat s = (.done, setLaneMode l m s) := by
  have hnumber : LaneMode.ofNumber v.toNat = m := by rw [← hm]; cases m <;> rfl
  have hlegal : v.toNat ≤ 2 := by rw [← hm]; cases m <;> decide
  simp [writeParam, paramOf_laneMode h, Param.refusal, Param.access, Param.write, hnumber, hlegal]

theorem writeParam_portEnable (h : Idx.ofNat? inst.toNat = some l) (hv : v.toNat ≤ 1) (s : State) :
    writeParam 34#8 inst v.toNat s = (.done, setPortEnable l (decide (v.toNat = 1)) s) := by
  simp [writeParam, paramOf_portEnable h, Param.refusal, Param.access, Param.write, hv]

theorem exec_writeLaneMode (h : Takes s .office) (hl : Idx.ofNat? inst.toNat = some l) {m : LaneMode}
    (hm : m.number = v.toNat) : exec (.writeLaneMode .office inst v) s =
      .next (setResult .office 0x11#8 .done ReplyData.zero (setLaneMode l m (beginExchange .office s))) := by
  refine (command_of_takes h 0x11#8 rfl (writeParam 24#8 inst v.toNat)).trans ?_
  rw [writeParam_laneMode hl hm]

/-- The answer of a lane mode write shows outside the yard as the mode and the answer alone. -/
theorem modeWritten_outsideYard {m : LaneMode} (h : (s.lane l).params.mode ≠ m) :
    (setResult .office 0x11#8 .done ReplyData.zero (setLaneMode l m (beginExchange .office s))).outsideYard =
      ((s.modParams l fun x => { x with mode := m }).answer .office 0x11#8 .done).outsideYard := by
  have begun : ((beginExchange .office s).lane l).params.mode ≠ m := h
  rw [setResult, State.answer, modPort_outsideYard _ (by exact fun _ => rfl), modPort_outsideYard _ (by exact fun _ => rfl),
    setLaneMode_outsideYard begun, beginExchange, modPort_outsideYard _ (by exact fun _ => rfl), modParams_outsideYard]
  rfl

/-- Settles O24: a changed mode stops the lane, takes the mode and restarts the sequencer in it. -/
theorem laneModeAndPortEnableAreWritten : Obligations.LaneModeAndPortEnableAreWritten := by
  intro s inst v l h hl
  refine ⟨fun hsame => ?_, fun m hm hother => ⟨_, exec_writeLaneMode h hl hm, modeWritten_outsideYard hother, ?_⟩, fun hv => ?_⟩
  · refine command_eq_answer h 0x11#8 rfl ?_
    have begun : ((beginExchange .office s).lane l).params.mode = (s.lane l).params.mode := rfl
    rw [writeParam_laneMode hl hsame, setLaneMode, if_pos begun]
  · have begun : ((beginExchange .office s).lane l).params.mode ≠ m := hother
    have hlane : (setResult .office 0x11#8 .done ReplyData.zero (setLaneMode l m (beginExchange .office s))).lane l =
        (setLaneMode l m (beginExchange .office s)).lane l := rfl
    rw [hlane]
    refine ⟨fun hclosed => ?_, fun hmanual => ?_, fun hauto => ?_, fun hauto hcapture => ?_⟩
    · obtain ⟨q, hq⟩ := setLaneMode_seqr_of_other begun (by simp [hclosed])
      rw [hq, hclosed]
      rfl
    · obtain ⟨q, hq⟩ := setLaneMode_seqr_of_other begun (by simp [hmanual])
      rw [hq, hmanual]
      rfl
    · obtain ⟨q, hq⟩ := setLaneMode_seqr_of_other begun hauto
      rw [hq]
      exact ⟨rfl, rfl, rfl, rfl, rfl⟩
    · subst hauto
      rw [setLaneMode_state_of_auto begun hcapture, settle_state]
      · exact settledState_modeTaken s .office _ l
      · rw [modSeq_lane, modParams_lane]
  · refine command_eq_answer h 0x11#8 rfl ?_
    rw [writeParam_portEnable hl hv]
    rfl

end ModeWrite
end Sys2Proof.Machine

/-! PROOFS, 03_visits (R60) and 06_lanes_and_barriers (R98, R106, R113). A completed passage: what becomes of the head visit, and
of a MANUAL lane. -/

namespace Sys2Proof.Machine
open Sys2Proof

/-! ### The head visit of a passed vehicle (R60) -/

section HeadPassed

variable {s t x y : State} {l : Lane} {v : Visit} {pl : LanePlace}

/-- What a passed vehicle's departure ends with (R60). -/
def passEnd (a : PassAction) (n : Nat) (s : State) : State :=
  match a with
  | .removed => removeVisit n s
  | .backOnSite => modVisit n (fun v => { v with state := .firstWeighed }) s
  | .onSite | .stays => s

theorem vehiclePassed_of_none (h : headVisit s l = none) : vehiclePassed l s = s := by
  unfold vehiclePassed
  rw [h]

theorem vehiclePassed_of_some (h : headVisit s l = some v) (hp : v.place = some pl) : vehiclePassed l s =
    if passAction v.state pl.pass = .stays then s
    else depart v.number (passEnd (passAction v.state pl.pass) v.number) (endCaptureLeaving l .abandoned s) := by
  unfold vehiclePassed
  rw [h]
  dsimp only
  rw [hp]
  dsimp only
  cases passAction v.state pl.pass <;> rfl

/-- The head of a queue is the visit whose number stands first in it, and its place is at that lane. -/
theorem VisitsOk.head (hs : VisitsOk s) (h : headVisit s l = some v) :
    findVisit s v.number = some v ∧ ∃ pl, v.place = some pl ∧ pl.lane = l := by
  unfold headVisit at h
  split at h
  · cases h
  · rename_i slot n rest hqueue
    obtain rfl := number_of_findVisit h
    obtain ⟨pl, hplace, hlane, -⟩ := (hs.mem_queue_iff h l slot).1 (by rw [hqueue]; exact List.mem_cons_self)
    exact ⟨h, pl, hplace, hlane⟩

theorem passAction_stays {st : VisitState} {p : PassKind} :
    passAction st p = .stays ↔ st = .awaitingTicket ∨ st = .disputed := by
  cases st <;> cases p <;> decide

theorem passEnd_queues (a : PassAction) (n : Nat) (s : State) : (passEnd a n s).visits.queues = s.visits.queues := by
  cases a <;> rfl

theorem passEnd_findVisit_of_ne {a : PassAction} {n m : Nat} (h : m ≠ n) :
    findVisit (passEnd a n (freePlace pl n s)) m = findVisit s m := by
  have freed : findVisit (freePlace pl n s) m = findVisit s m := by rw [freePlace_findVisit, if_neg h]
  cases a with
  | removed => exact (findVisit_removeVisit _ n m).trans ((if_neg h).trans freed)
  | backOnSite =>
    refine (findVisit_modVisit (f := fun v => { v with state := .firstWeighed }) (fun _ => rfl) _ n m).trans ?_
    exact (if_neg h).trans freed
  | onSite | stays => exact freed

/-- What a passage makes of the head, by its state and pass kind (R60). -/
theorem passEnd_findVisit_self (hv : findVisit s v.number = some v) (hp : v.place = some pl)
    (h : passAction v.state pl.pass ≠ .stays) :
    findVisit (passEnd (passAction v.state pl.pass) v.number (freePlace pl v.number s)) v.number =
      if v.state = .firstWeighed ∨ (v.state = .ticketedOnSite ∧ v.place.map (·.pass) = some .entry) then
        some { v with place := none }
      else if v.state = .attached then some { v with place := none, state := .firstWeighed }
      else none := by
  have freed : findVisit (freePlace pl v.number s) v.number = some { v with place := none } := by
    rw [freePlace_findVisit, if_pos rfl, hv]
    rfl
  have removed := (findVisit_removeVisit (freePlace pl v.number s) v.number v.number).trans (if_pos rfl)
  cases hstate : v.state with
  | announced | refused | ticketed => simpa [passEnd, passAction] using removed
  | firstWeighed => simpa [passEnd, passAction, hstate] using freed
  | attached =>
    simp only [passEnd, passAction]
    rw [findVisit_modVisit (f := fun v => { v with state := .firstWeighed }) fun _ => rfl, if_pos rfl, freed]
    rfl
  | ticketedOnSite =>
    cases hpass : pl.pass with
    | entry => simpa [passEnd, passAction, hstate, hp, hpass] using freed
    | exit => simpa [passEnd, passAction, hp, hpass] using removed
  | awaitingTicket | disputed => exact absurd (by rw [hstate]; rfl) h

/-- The table's own statement is about the visits alone. -/
theorem HeadPassed.of_visits (h : HeadPassed l x y) (hx : x.visits = s.visits) (hy : t.visits = y.visits) : HeadPassed l s t := by
  have hhead : headVisit x l = headVisit s l := by
    unfold headVisit
    rw [queueOf_congr hx]
    split
    exacts [rfl, findVisit_congr hx _]
  unfold HeadPassed at h ⊢
  rw [hhead] at h
  simp only [queueOf_congr hx, findVisit_congr hx, hx] at h
  simpa only [queueOf_congr hy, findVisit_congr hy, hy] using h

/-- The visit table takes "vehicle passed" (R60). -/
theorem vehiclePassed_headPassed (hs : VisitsOk s) (l : Lane) : HeadPassed l s (vehiclePassed l s) := by
  unfold HeadPassed
  cases hhead : headVisit s l with
  | none => exact congrArg State.visits (vehiclePassed_of_none hhead)
  | some v =>
    obtain ⟨hv, pl, hplace, rfl⟩ := hs.head hhead
    have hpassed := vehiclePassed_of_some hhead hplace
    refine ⟨fun hstays => ?_, fun hawaits hdisputed => ?_⟩
    · rw [hpassed, if_pos (passAction_stays.2 hstays)]
    · have hleaves : passAction v.state pl.pass ≠ .stays := fun h => (passAction_stays.1 h).elim hawaits hdisputed
      have hended := endCaptureLeaving_visits s pl.lane .abandoned
      rw [hpassed, if_neg hleaves]
      generalize endCaptureLeaving pl.lane .abandoned s = x at hended ⊢
      have hfound : findVisit x v.number = some v := (findVisit_congr hended _).trans hv
      have hdepart := depart_visits (f := passEnd (passAction v.state pl.pass) v.number) hfound hplace
      refine ⟨?_, fun m hm => ?_, ?_⟩
      · rw [queueOf_congr hdepart, queueOf, passEnd_queues]
        exact (freePlace_queueOf pl v.number x pl.lane).trans (by rw [if_pos rfl, queueOf_congr hended])
      · rw [findVisit_congr hdepart, passEnd_findVisit_of_ne hm, findVisit_congr hended]
      · rw [findVisit_congr hdepart, passEnd_findVisit_self hfound hplace hleaves]

end HeadPassed

/-! ### What a MANUAL lane keeps (R113) -/

section MannedLane

variable {s t u : State} {k l : Lane}

/-- No route fires. -/
def Quiet (s : State) : Prop := ∀ p ∈ s.routes.routes, p.2.enabled = false

theorem Quiet.of_routes (h : t.routes = s.routes) : Quiet s → Quiet t := fun hq => by
  unfold Quiet
  rw [h]
  exact hq

theorem Quiet.fires (h : Quiet s) (e : EventKind) (x : Option Nat) : ∀ p ∈ s.routes.routes, p.2.fires e x = false :=
  fun p hp => by simp [Route.fires, h p hp]

theorem raiseEvent_of_quiet (h : Quiet s) (e : EventKind) (x : Option Nat) : raiseEvent e x s = s :=
  raiseEvent_of_none s e x (h.fires e x)

theorem raiseLeaving_of_quiet (h : Quiet s) (e : EventKind) (l : Lane) : raiseLeaving e l s = s := by
  refine List.foldlRecOn s.routes.routes (fireRouteLeaving l e (some l.num)) (motive := fun x => x = s) rfl fun x hx p hp => ?_
  subst hx
  simp [fireRouteLeaving, fireRoute, h.fires e (some l.num) p hp]

theorem raiseLeaving_aside (k : Lane) (e : EventKind) (l : Lane) (s : State) : Aside k s (raiseLeaving e l s) := by
  refine List.foldlRecOn s.routes.routes (fireRouteLeaving l e (some l.num)) (motive := Aside k s) (.refl k s) fun x hx p _ => ?_
  refine hx.trans ?_
  unfold fireRouteLeaving
  split
  exacts [.of_same rfl rfl (.of_ports rfl), fireRoute_aside k e _ x p]

theorem Quiet.unrouted (h : Quiet s) : Unrouted l s.routes.routes := fun p hp henabled =>
  absurd (henabled.symm.trans (h p hp)) (by decide)

theorem Unrouted.of_outsideRoutes (h : t.routes.outsideRoutes = s.routes.outsideRoutes) (hu : Unrouted l s.routes.routes) :
    Unrouted l t.routes.routes := by
  have hroutes : Table.mapVals t.routes.routes (fun r : Route => { r with outcome := .none }) =
      Table.mapVals s.routes.routes (fun r : Route => { r with outcome := .none }) := congrArg RouteUnit.routes h
  intro p hp henabled htask
  have hmem : (p.1, { p.2 with outcome := .none }) ∈ Table.mapVals t.routes.routes fun r : Route => { r with outcome := .none } :=
    List.mem_map.2 ⟨p, hp, rfl⟩
  rw [hroutes] at hmem
  obtain ⟨q, hq, heq⟩ := List.mem_map.1 hmem
  have hsame : { q.2 with outcome := RouteOutcome.none } = { p.2 with outcome := RouteOutcome.none } := congrArg Prod.snd heq
  have hqenabled := congrArg Route.enabled hsame
  have hqtask := congrArg Route.task hsame
  have hqindex := congrArg Route.taskIndex hsame
  dsimp only at hqenabled hqtask hqindex
  rw [← hqindex]
  exact hu q hq (hqenabled.trans henabled) (by rw [hqtask]; exact htask)

/-- A lane keeps its parameters and its sequencer's state, where no route fires its light too, and where no route asks for a
travel there its barrier. -/
structure Manned (l : Lane) (s t : State) : Prop where
  params : (t.lane l).params = (s.lane l).params
  state : (t.lane l).seqr.state = (s.lane l).seqr.state
  routes : Quiet s → Quiet t
  light : Quiet s → (t.lane l).seqr.light = (s.lane l).seqr.light
  barrier : Unrouted l s.routes.routes → Unrouted l t.routes.routes ∧ (t.lane l).barrier = (s.lane l).barrier

theorem Manned.trans (h : Manned l s t) (g : Manned l t u) : Manned l s u where
  params := g.params.trans h.params
  state := g.state.trans h.state
  routes hq := g.routes (h.routes hq)
  light hq := (g.light (h.routes hq)).trans (h.light hq)
  barrier hu := by
    obtain ⟨hroutes, hbarrier⟩ := h.barrier hu
    obtain ⟨groutes, gbarrier⟩ := g.barrier hroutes
    exact ⟨groutes, gbarrier.trans hbarrier⟩

theorem Manned.of_lane (hl : t.lane l = s.lane l) (hr : t.routes = s.routes) : Manned l s t :=
  ⟨by rw [hl], by rw [hl], .of_routes hr, fun _ => by rw [hl], fun hu => ⟨by rw [hr]; exact hu, by rw [hl]⟩⟩

theorem Manned.refl (l : Lane) (s : State) : Manned l s s := .of_lane rfl rfl

/-- A change of the sequencer that leaves its state and light alone. -/
theorem Manned.of_modSeq {f : Sequencer → Sequencer} (hstate : (f (s.lane l).seqr).state = (s.lane l).seqr.state)
    (hlight : (f (s.lane l).seqr).light = (s.lane l).seqr.light) : Manned l s (s.modSeq l f) := by
  have hlane := modSeq_lane s l f
  exact ⟨by rw [hlane], by rw [hlane]; exact hstate, .of_routes rfl, fun _ => by rw [hlane]; exact hlight,
    fun hu => ⟨hu, by rw [hlane]⟩⟩

theorem Manned.of_modReport (f : LaneReport → LaneReport) : Manned l s (s.modReport l f) := by
  have hlane := modReport_lane s l f
  exact ⟨by rw [hlane], by rw [hlane], .of_routes rfl, fun _ => by rw [hlane], fun hu => ⟨hu, by rw [hlane]⟩⟩

/-- Work at another lane. -/
theorem Manned.of_work (h : LaneWork k s t) (hk : l ≠ k) : Manned l s t := .of_lane (h.lane_of_ne hk) h.routes

theorem raiseAt_manned (hm : (s.lane l).params.mode ≠ .auto) (e : EventKind) (k : Lane) : Manned l s (raiseAt e k s) where
  params := (raiseAt_aside l e k s).params
  state := ((raiseAt_aside l e k s).kept fun hstart => hm hstart.1).1
  routes hq := .of_routes (by rw [raiseAt, raiseEvent_of_quiet hq]) hq
  light hq := by rw [raiseAt, raiseEvent_of_quiet hq]
  barrier hu := ⟨hu.of_outsideRoutes (congrArg State.routes (raiseAt_outsideYard s e k)), raiseEvent_barrier (.inr hu) e _⟩

theorem raiseLeaving_manned (hm : (s.lane l).params.mode ≠ .auto) (e : EventKind) (k : Lane) :
    Manned l s (raiseLeaving e k s) where
  params := (raiseLeaving_aside l e k s).params
  state := ((raiseLeaving_aside l e k s).kept fun hstart => hm hstart.1).1
  routes hq := .of_routes (by rw [raiseLeaving_of_quiet hq]) hq
  light hq := by rw [raiseLeaving_of_quiet hq]
  barrier hu := ⟨hu.of_outsideRoutes (congrArg State.routes (raiseLeaving_outsideYard s e k)), raiseLeaving_barrier (.inr hu) e k⟩

theorem endCaptureBy_manned {raise : EventKind → Lane → State → State}
    (hr : ∀ e k x, (x.lane l).params.mode ≠ .auto → Manned l x (raise e k x)) (hm : (s.lane l).params.mode ≠ .auto)
    (r : CaptureReason) : Manned l s (endCaptureBy raise l r s) := by
  unfold endCaptureBy
  split
  · exact .refl l s
  · have failed : captureFailed l (dropCapture l s) = dropCapture l s := if_neg fun h => hm h.1
    have dropped : Manned l s (dropCapture l s) := .of_lane rfl rfl
    dsimp only
    rw [failed]
    have reported := dropped.trans (Manned.of_modReport fun r' => { r' with lastCapture := .failed r })
    have raised := hr .captureFailed l _ (by rw [reported.params]; exact hm)
    exact (reported.trans raised).trans (.of_lane rfl rfl)

theorem endCapture_manned (hm : (s.lane l).params.mode ≠ .auto) (r : CaptureReason) : Manned l s (endCapture l r s) :=
  endCaptureBy_manned (fun e k _ h => raiseAt_manned h e k) hm r

theorem endCaptureLeaving_manned (hm : (s.lane l).params.mode ≠ .auto) (r : CaptureReason) :
    Manned l s (endCaptureLeaving l r s) :=
  endCaptureBy_manned (fun e k _ h => raiseLeaving_manned h e k) hm r

/-- A new head moves nothing in MANUAL and CLOSED (R112, R113). -/
theorem handHead_manned (hm : (s.lane l).params.mode ≠ .auto) (k : Lane) (fresh : Bool) : Manned l s (handHead k fresh s) := by
  by_cases hk : l = k
  · subst hk
    have kept : Manned l s (keepHead l s) := .of_modSeq rfl rfl
    unfold handHead
    dsimp only
    rw [if_neg (by rw [kept.params]; exact hm)]
    exact kept
  · exact .of_work ((handHead_laneOp k fresh).works s) hk

theorem syncUnannounced_manned (k : Lane) (s : State) : Manned l s (syncUnannounced k s) := by
  by_cases hk : l = k
  · subst hk
    unfold syncUnannounced setUnannounced
    exact .of_modSeq rfl rfl
  · exact .of_work ((syncUnannounced_laneOp k).works s) hk

theorem depart_manned (hm : (s.lane l).params.mode ≠ .auto) (n : Nat) {f : State → State}
    (hl : ∀ x, (f x).lanes = x.lanes) (hr : ∀ x, (f x).routes = x.routes) : Manned l s (depart n f s) := by
  have same : ∀ x, Manned l x (f x) := fun x => .of_lane (by rw [State.lane, hl]; rfl) (hr x)
  unfold depart
  split
  · exact .refl l s
  · split
    · exact same s
    · rename_i pl _
      have freed : Manned l s (freePlace pl n s) := .of_lane rfl rfl
      have ended := freed.trans (same _)
      dsimp only
      refine Manned.trans ?_ (syncUnannounced_manned _ _)
      split
      exacts [ended.trans (handHead_manned (by rw [ended.params]; exact hm) _ true), ended]

theorem vehiclePassed_manned (hm : (s.lane l).params.mode ≠ .auto) : Manned l s (vehiclePassed l s) := by
  have ended := endCaptureLeaving_manned hm .abandoned
  have leaves : ∀ (n : Nat) (f : State → State), (∀ x : State, (f x).lanes = x.lanes) → (∀ x : State, (f x).routes = x.routes) →
      Manned l s (depart n f (endCaptureLeaving l .abandoned s)) := fun n f hl hr =>
    ended.trans (depart_manned (by rw [ended.params]; exact hm) n hl hr)
  unfold vehiclePassed
  split
  · exact .refl l s
  · split
    · exact .refl l s
    · split
      · exact .refl l s
      · exact leaves _ id (fun _ => rfl) fun _ => rfl
      · exact leaves _ _ (fun _ => rfl) fun _ => rfl
      · exact leaves _ _ (fun _ => rfl) fun _ => rfl

end MannedLane

/-! ### A passage completes (R106, R113) -/

section Completed

variable {s t u x : State} {l : Lane}

/-- With the deck clear CLOSING ends in IDLE where the arm is DOWN. -/
theorem enterClosing_seqr (ho : (s.lane l).seqr.occupied = false) : ((enterClosing l s).lane l).seqr =
    { (s.lane l).seqr with
      state := if (s.lane l).barrier.state = .down then .idle else .closing, light := .red, released := none
      passTimer := passStopped s l (s.lane l).seqr.passTimer } := by
  by_cases hd : (s.lane l).barrier.state = .down
  · have hclear : ((lowerRequest l (s.modSeq l fun q =>
        { q with state := .closing, light := .red, released := none, passTimer := passStopped s l q.passTimer })).lane l).seqr.occupied
          = false := by
      rw [lowerRequest_lane, modSeq_lane]
      exact ho
    rw [enterClosing_of_down hd, closingDone, if_neg (by rw [hclear]; decide), enterIdle_lane, lowerRequest_lane, modSeq_lane, if_pos hd]
  · rw [enterClosing_of_not_down hd, lowerRequest_lane, modSeq_lane, if_neg hd]

theorem headIsReleased_iff : headIsReleased s l = true ↔
    ∃ n, (s.lane l).seqr.released = some n ∧ (s.lane l).seqr.head.map Prod.fst = some n := by
  unfold headIsReleased headNumber
  cases (s.lane l).seqr.released <;> simp

theorem headIsReleased_congr (hhead : (x.lane l).seqr.head = (s.lane l).seqr.head)
    (hreleased : (x.lane l).seqr.released = (s.lane l).seqr.released) : headIsReleased x l = headIsReleased s l := by
  rw [Bool.eq_iff_iff, headIsReleased_iff, headIsReleased_iff, hhead, hreleased]

/-- The passage of a watching lane is over: nothing is released or armed, PASSING has closed with a red light and HELD stays, and
the released head has passed (R60, R106). -/
structure WatchedDone (l : Lane) (s t : State) : Prop where
  params : (t.lane l).params = (s.lane l).params
  released : (t.lane l).seqr.released = none
  armed : (t.lane l).seqr.passageArmed = false
  passing : (s.lane l).seqr.state = .passing → (t.lane l).seqr.light = .red
    ∧ (t.lane l).seqr.state = if (s.lane l).barrier.state = .down then .idle else .closing
  held : (s.lane l).seqr.state = .held → (t.lane l).seqr.state = .held
  passed : headIsReleased s l = true → HeadPassed l s t
  stays : headIsReleased s l = false → t.visits = s.visits

/-- What follows leaves the visits, and of the sequencer what the passage has left. -/
theorem WatchedDone.before (h : WatchedDone l s t) (hv : u.visits = t.visits)
    (hparams : (u.lane l).params = (t.lane l).params)
    (hreleased : (u.lane l).seqr.released = (t.lane l).seqr.released)
    (harmed : (u.lane l).seqr.passageArmed = (t.lane l).seqr.passageArmed)
    (hstate : (u.lane l).seqr.state = (t.lane l).seqr.state) (hlight : (u.lane l).seqr.light = (t.lane l).seqr.light) :
    WatchedDone l s u where
  params := hparams.trans h.params
  released := hreleased.trans h.released
  armed := harmed.trans h.armed
  passing hp := ⟨hlight.trans (h.passing hp).1, hstate.trans (h.passing hp).2⟩
  held hh := hstate.trans (h.held hh)
  passed hr := (h.passed hr).of_visits rfl hv
  stays hr := hv.trans (h.stays hr)

/-- What comes before leaves the visits, the sequencer's state, head and released visit, and the arm DOWN or not. -/
theorem WatchedDone.after (h : WatchedDone l x t) (hv : x.visits = s.visits)
    (hparams : (x.lane l).params = (s.lane l).params)
    (hstate : (x.lane l).seqr.state = (s.lane l).seqr.state) (hhead : (x.lane l).seqr.head = (s.lane l).seqr.head)
    (hreleased : (x.lane l).seqr.released = (s.lane l).seqr.released)
    (hdown : (x.lane l).barrier.state = .down ↔ (s.lane l).barrier.state = .down) : WatchedDone l s t := by
  have hsame := headIsReleased_congr hhead hreleased
  exact ⟨h.params.trans hparams, h.released, h.armed, fun hp => by simpa only [hdown] using h.passing (hstate.trans hp),
    fun hh => h.held (hstate.trans hh), fun hr => (h.passed (hsame.trans hr)).of_visits hv rfl,
    fun hr => (h.stays (hsame.trans hr)).trans hv⟩

/-- A passage that is over leaves a state in which no capture starts or runs. -/
theorem WatchedDone.resting (h : WatchedDone l s t) (hw : Watches (s.lane l)) :
    (t.lane l).seqr.state ≠ .capturing ∧ (t.lane l).seqr.state ≠ .occupied := by
  obtain ⟨-, hpassing | ⟨hheld, -⟩⟩ := hw
  · rw [(h.passing hpassing).2]
    split <;> decide
  · rw [h.held hheld]
    decide

theorem handReleased_visits (l : Lane) (s : State) : (handReleased l s).visits =
    if headIsReleased s l = true then (vehiclePassed l s).visits else s.visits := by
  unfold handReleased
  dsimp only
  split <;> rfl

/-- A passage may complete at the lane: it is armed, and the loop and the deck are clear. -/
structure Clear (u : LaneUnit) : Prop where
  armed : u.seqr.passageArmed = true
  loop : u.sensors.loopOccupied = false
  deck : u.seqr.occupied = false

theorem checkPassage_of_passing (h : Clear (s.lane l)) (hm : (s.lane l).params.mode = .auto)
    (hp : (s.lane l).seqr.state = .passing) :
    checkPassage l s = enterClosing l (handReleased l (s.modSeq l fun q => { q with light := .red })) := by
  simp [checkPassage, h.armed, h.loop, h.deck, hm, hp]

theorem checkPassage_of_held (h : Clear (s.lane l)) (hm : (s.lane l).params.mode = .auto)
    (hh : (s.lane l).seqr.state = .held) : checkPassage l s = handReleased l s := by
  simp [checkPassage, h.armed, h.loop, h.deck, hm, hh]

theorem checkPassage_of_manual (h : Clear (s.lane l)) (hm : (s.lane l).params.mode = .manual) :
    checkPassage l s = (vehiclePassed l s).modSeq l fun q => { q with passageArmed := false } := by
  simp [checkPassage, h.armed, h.loop, h.deck, hm]

/-- Steps 2 and 3 of a completed passage (R106). -/
theorem handReleased_passed (hs : VisitsOk s) (l : Lane) :
    (headIsReleased s l = true → HeadPassed l s (handReleased l s))
    ∧ (headIsReleased s l = false → (handReleased l s).visits = s.visits) := by
  have hvisits := handReleased_visits l s
  refine ⟨fun hr => (vehiclePassed_headPassed hs l).of_visits rfl ?_, fun hr => ?_⟩
  · rw [hvisits, if_pos hr]
  · rw [hvisits, hr]
    rfl

/-- A watching lane whose passage completes (R106). -/
theorem checkPassage_watched (hs : VisitsOk s) (hw : Watches (s.lane l)) (hc : Clear (s.lane l)) :
    WatchedDone l s (checkPassage l s) := by
  obtain ⟨hm, hpassing | ⟨hheld, hfault⟩⟩ := id hw
  · rw [checkPassage_of_passing hc hm hpassing]
    have hred := modSeq_lane s l fun q => { q with light := .red }
    have hwatches : Watches ((s.modSeq l fun q => { q with light := .red }).lane l) := by
      rw [hred]
      exact hw
    obtain ⟨hpassed, hstays⟩ := handReleased_passed (s := s.modSeq l fun q => { q with light := .red }) (hs.of_visits rfl) l
    have hwatched := handReleased_watched hwatches
    have hsame : headIsReleased (s.modSeq l fun q => { q with light := .red }) l = headIsReleased s l :=
      headIsReleased_congr (by rw [hred]) (by rw [hred])
    rw [hsame] at hpassed hstays
    rw [hred] at hwatched
    generalize handReleased l (s.modSeq l fun q => { q with light := .red }) = x at hpassed hstays hwatched ⊢
    have hsameOccupied := congrArg (fun u => u.seqr.occupied) hwatched
    have hsameArmed := congrArg (fun u => u.seqr.passageArmed) hwatched
    have hsameParams := congrArg LaneUnit.params hwatched
    have hparams : (x.lane l).params = (s.lane l).params := hsameParams
    have hclosing := congrArg LaneUnit.params (lane_of_outsideYard (enterClosing_outsideYard x l) l)
    have hsameBarrier := congrArg (fun u => u.barrier.state) hwatched
    have hoccupied : (x.lane l).seqr.occupied = false := Eq.trans hsameOccupied hc.deck
    have harmed : (x.lane l).seqr.passageArmed = false := hsameArmed
    have hbarrier : (x.lane l).barrier.state = (s.lane l).barrier.state := hsameBarrier
    have hseqr := enterClosing_seqr hoccupied
    refine ⟨Eq.trans hclosing hparams, by rw [hseqr], by rw [hseqr]; exact harmed, fun _ => ⟨by rw [hseqr], by rw [hseqr, hbarrier]⟩, fun hheld => ?_,
      fun hr => (hpassed hr).of_visits rfl (enterClosing_visits x l), fun hr => (enterClosing_visits x l).trans (hstays hr)⟩
    exact absurd (hpassing.symm.trans hheld) (by decide)
  · rw [checkPassage_of_held hc hm hheld]
    obtain ⟨hpassed, hstays⟩ := handReleased_passed hs l
    have hwatched := handReleased_watched hw
    have hreleased := congrArg (fun u => u.seqr.released) hwatched
    have harmed := congrArg (fun u => u.seqr.passageArmed) hwatched
    have hstate := congrArg (fun u => u.seqr.state) hwatched
    have hparams := congrArg LaneUnit.params hwatched
    exact ⟨hparams, hreleased, harmed, fun hp => absurd (hheld.symm.trans hp) (by decide), fun hh => Eq.trans hstate hh, hpassed, hstays⟩

/-- The passage of a MANUAL lane is over: its head has passed, whatever it is, and no state moves (R60, R113). -/
structure ManualDone (l : Lane) (s t : State) : Prop where
  passed : HeadPassed l s t
  armed : (t.lane l).seqr.passageArmed = false
  manned : Manned l s t

theorem checkPassage_manual (hs : VisitsOk s) (hm : (s.lane l).params.mode = .manual) (hc : Clear (s.lane l)) :
    ManualDone l s (checkPassage l s) := by
  have hother : (s.lane l).params.mode ≠ .auto := by rw [hm]; decide
  rw [checkPassage_of_manual hc hm]
  refine ⟨(vehiclePassed_headPassed hs l).of_visits rfl rfl, by rw [modSeq_lane], ?_⟩
  exact (vehiclePassed_manned hother).trans (.of_modSeq rfl rfl)

end Completed

/-! ### The two events that complete a passage (R98, R106, R115) -/

section Completing

variable {s t u x : State} {l : Lane}

/-- A completed passage in each mode, as the statement of R106 and R113 puts it. -/
def Completed (l : Lane) (s t : State) : Prop :=
  ((s.lane l).params.mode = .auto → (s.lane l).seqr.state = .passing
      ∨ ((s.lane l).seqr.state = .held ∧ (s.lane l).barrier.state = .fault) →
    (t.lane l).seqr.released = none ∧ (t.lane l).seqr.passageArmed = false
    ∧ (∀ n, (s.lane l).seqr.released = some n → (s.lane l).seqr.head.map Prod.fst = some n → HeadPassed l s t)
    ∧ ((s.lane l).seqr.head.map Prod.fst ≠ (s.lane l).seqr.released → t.visits = s.visits))
  ∧ ((s.lane l).params.mode = .auto → (s.lane l).seqr.state = .passing → (t.lane l).seqr.light = .red
    ∧ (t.lane l).seqr.state = (if (s.lane l).barrier.state = .down then .idle else .closing))
  ∧ ((s.lane l).params.mode = .auto → (s.lane l).seqr.state = .held → (s.lane l).barrier.state = .fault →
    (t.lane l).seqr.state = .held)
  ∧ ((s.lane l).params.mode = .manual → HeadPassed l s t ∧ (t.lane l).seqr.passageArmed = false
    ∧ (t.lane l).seqr.state = (s.lane l).seqr.state ∧ (Quiet s → (t.lane l).seqr.light = (s.lane l).seqr.light))
  ∧ KeepsAllBut (.visits :: yardParts) s t

/-- What a MANUAL lane keeps where the passage itself is shown on another state. -/
structure ManualKept (l : Lane) (s t : State) : Prop where
  passed : HeadPassed l s t
  armed : (t.lane l).seqr.passageArmed = false
  state : (t.lane l).seqr.state = (s.lane l).seqr.state
  light : Quiet s → (t.lane l).seqr.light = (s.lane l).seqr.light

theorem Completed.of_done (hw : Watches (s.lane l) → WatchedDone l s t)
    (hm : (s.lane l).params.mode = .manual → ManualKept l s t) (hk : KeepsAllBut (.visits :: yardParts) s t) :
    Completed l s t := by
  refine ⟨fun hauto hstate => ?_, fun hauto hp => (hw ⟨hauto, .inl hp⟩).passing hp,
    fun hauto hh hf => (hw ⟨hauto, .inr ⟨hh, hf⟩⟩).held hh, fun hmanual => ?_, hk⟩
  · obtain ⟨-, hreleased, harmed, -, -, hpassed, hstays⟩ := hw ⟨hauto, hstate⟩
    refine ⟨hreleased, harmed, fun n hr hh => hpassed (headIsReleased_iff.2 ⟨n, hr, hh⟩), fun hne => hstays ?_⟩
    rw [Bool.eq_false_iff, ne_eq, headIsReleased_iff]
    rintro ⟨n, hr, hh⟩
    exact hne (hh.trans hr.symm)
  · obtain ⟨hpassed, harmed, hstate, hlight⟩ := hm hmanual
    exact ⟨hpassed, harmed, hstate, hlight⟩

/-- What no route reaches of a lane's passage. -/
theorem Aside.clear (h : Aside l s t) (hc : Clear (s.lane l)) : Clear (t.lane l) := by
  have harmed := congrArg (fun u => u.seqr.passageArmed) h.lane
  have hloop := congrArg (fun u => u.sensors.loopOccupied) h.lane
  have hdeck := congrArg (fun u => u.seqr.occupied) h.lane
  exact ⟨Eq.trans harmed hc.armed, Eq.trans hloop hc.loop, Eq.trans hdeck hc.deck⟩

theorem loopMoved_hide {ps : List Part} (h : .lanes ∈ ps) (l : Lane) (b : Bool) (s : State) :
    (loopMoved l b s).hide ps = s.hide ps := by
  rw [loopMoved, barrierLoop, State.modBarrier, modLane_hide h, State.modSensors, modLane_hide h]

/-- The arm is DOWN, or in FAULT, after a change of the loop where it was before. -/
theorem loopMoved_down {b : Bool} : ((loopMoved l b s).lane l).barrier.state = .down ↔ (s.lane l).barrier.state = .down := by
  rw [loopMoved_lane]
  cases hstate : (s.lane l).barrier.state <;> cases b <;> cases (s.lane l).barrier.pendingLower <;> simp [hstate]

theorem loopMoved_fault {b : Bool} : ((loopMoved l b s).lane l).barrier.state = .fault ↔ (s.lane l).barrier.state = .fault := by
  rw [loopMoved_lane]
  cases hstate : (s.lane l).barrier.state <;> cases b <;> cases (s.lane l).barrier.pendingLower <;> simp [hstate]

theorem loopMoved_seqr (l : Lane) (b : Bool) (s : State) : ((loopMoved l b s).lane l).seqr = (s.lane l).seqr := by
  rw [loopMoved_lane]

theorem loopMoved_params (l : Lane) (b : Bool) (s : State) : ((loopMoved l b s).lane l).params = (s.lane l).params := by
  rw [loopMoved_lane]

theorem loopMoved_sensors (l : Lane) (b : Bool) (s : State) :
    ((loopMoved l b s).lane l).sensors = { (s.lane l).sensors with loopOccupied := b } := by
  rw [loopMoved_lane]

theorem loopMoved_watches (b : Bool) (h : Watches (s.lane l)) : Watches ((loopMoved l b s).lane l) := by
  unfold Watches
  rw [loopMoved_params, loopMoved_seqr, loopMoved_fault]
  exact h

theorem exec_loopFilterChange {b : Bool} (hpower : s.power = true) (h : (s.lane l).sensors.loopOccupied ≠ b) :
    exec (.loopFilterChange l b) s = .next (loopChange l b s) := by
  have hexec : exec (.loopFilterChange l b) s = whenRunning s fun s =>
      if (s.lane l).sensors.loopOccupied = b then s else loopChange l b s := rfl
  rw [hexec, whenRunning, hpower]
  simp [h]

theorem loopChange_clear (l : Lane) (s : State) :
    loopChange l false s = checkPassage l (raiseAt .safetyClear l (loopMoved l false s)) := rfl

theorem loopChange_occupied (l : Lane) (s : State) :
    loopChange l true s = laneLoopOccupied l (raiseAt .safetyOccupied l (loopMoved l true s)) := rfl

/-- The loop that clears completes an armed passage over a clear deck (R106, R113). -/
theorem loopClear_completed (hs : VisitsOk s) (harmed : (s.lane l).seqr.passageArmed = true)
    (hdeck : (s.lane l).seqr.occupied = false) : Completed l s (loopChange l false s) := by
  have hvisits : (raiseAt .safetyClear l (loopMoved l false s)).visits = s.visits := raiseAt_visits _ _ l
  have haside := raiseAt_aside l .safetyClear l (loopMoved l false s)
  have hclear : Clear ((raiseAt .safetyClear l (loopMoved l false s)).lane l) := by
    refine haside.clear ⟨?_, ?_, ?_⟩
    · rw [loopMoved_seqr]; exact harmed
    · rw [loopMoved_sensors]
    · rw [loopMoved_seqr]; exact hdeck
  have hhide : ∀ x, (checkPassage l x).hide (.visits :: yardParts) = x.hide (.visits :: yardParts) := fun x =>
    checkPassage_hide (fun _ h => List.mem_cons_of_mem _ h) (by decide) l
  rw [loopChange_clear]
  refine .of_done (fun hw => ?_) (fun hm => ?_) ?_
  · have hwatch := loopMoved_watches false hw
    have hlane : (raiseAt .safetyClear l (loopMoved l false s)).lane l = (loopMoved l false s).lane l :=
      raiseEvent_lane_of_auto hwatch.1 hwatch.not_occupied _ _
    have done := checkPassage_watched (hs.of_visits hvisits) (by rw [hlane]; exact hwatch) hclear
    refine done.after hvisits ?_ ?_ ?_ ?_ ?_ <;> rw [hlane]
    · rw [loopMoved_params]
    · rw [loopMoved_seqr]
    · rw [loopMoved_seqr]
    · rw [loopMoved_seqr]
    · exact loopMoved_down
  · have hmode : ((loopMoved l false s).lane l).params.mode = .manual := by rw [loopMoved_params]; exact hm
    have hraised := raiseAt_manned (by rw [hmode]; decide) .safetyClear l
    obtain ⟨hpassed, hdisarmed, hmanned⟩ := checkPassage_manual (hs.of_visits hvisits) (by rw [hraised.params]; exact hmode) hclear
    have kept := hraised.trans hmanned
    refine ⟨hpassed.of_visits hvisits rfl, hdisarmed, kept.state.trans (by rw [loopMoved_seqr]), fun hq => ?_⟩
    rw [kept.light hq, loopMoved_seqr]
  · refine (hhide _).trans ((hide_of_yard (fun _ h => List.mem_cons_of_mem _ h) (raiseAt_outsideYard _ _ l)).trans ?_)
    exact loopMoved_hide (by decide) l false s

end Completing

/-! ### The sample that clears the deck (R98, R106) -/

section SampleClears

variable {s t x : State} {l : Lane} {c : BitVec 24}

theorem captureDropped_lane (h : ¬ ((s.lane l).params.mode = .auto ∧ (s.lane l).seqr.state = .capturing)) (r : CaptureReason) :
    (captureDropped l r s).lane l = { s.lane l with report := { (s.lane l).report with lastCapture := .failed r } } := by
  have failed : captureFailed l (dropCapture l s) = dropCapture l s := if_neg h
  rw [captureDropped, failed, modReport_lane]
  rfl

/-- The passage stays armed or not while a capture ends outside CAPTURING. -/
theorem endCapture_armed (h : ¬ ((s.lane l).params.mode = .auto ∧ (s.lane l).seqr.state = .capturing)) (r : CaptureReason) :
    ((endCapture l r s).lane l).seqr.passageArmed = (s.lane l).seqr.passageArmed := by
  by_cases hnone : (s.deck l).capture = none
  · rw [endCapture_of_none hnone]
  · have haside := (raiseAt_aside l .captureFailed l (captureDropped l r s)).trans (raiseLaneOffice_aside l .capture l _)
    have harmed := congrArg (fun u => u.seqr.passageArmed) haside.lane
    rw [endCapture_of_some hnone]
    refine Eq.trans harmed ?_
    show ((captureDropped l r s).lane l).seqr.passageArmed = _
    rw [captureDropped_lane h]

/-- A capture that ends leaves a lane in AUTO that neither captures nor is on its deck with its report alone. -/
theorem endCapture_lane_of_resting (hm : (s.lane l).params.mode = .auto) (hc : (s.lane l).seqr.state ≠ .capturing)
    (ho : (s.lane l).seqr.state ≠ .occupied) (r : CaptureReason) :
    ∃ y, (endCapture l r s).lane l = { s.lane l with report := y } := by
  by_cases hnone : (s.deck l).capture = none
  · exact ⟨(s.lane l).report, by rw [endCapture_of_none hnone]⟩
  · have hdropped := captureDropped_lane (fun h => hc h.2) r
    refine ⟨{ (s.lane l).report with lastCapture := .failed r }, ?_⟩
    rw [endCapture_of_some hnone, ← hdropped]
    refine raiseEvent_lane_of_auto ?_ ?_ _ _ <;> rw [hdropped]
    exacts [hm, ho]

theorem laneClear_of_passage (h : ¬ ((s.lane l).params.mode = .auto ∧ (s.lane l).seqr.state = .occupied)) :
    laneClear l s = syncUnannounced l (checkPassage l (s.modSeq l fun q => { q with occupied := false })) := by
  unfold laneClear
  dsimp only
  rw [if_neg]
  rw [modSeq_lane]
  exact h

/-- The events of a sample that clears the deck, but for the lane's own. -/
def deckCleared (l : Lane) (s : State) (c : BitVec 24) : State :=
  let staged := (linkRecover l (trackStep l s)).modDeck l fun _ => weighedDeck s l c
  raiseAt .deckClear l
    (if (weighedDeck s l c).overload && !((linkRecover l (trackStep l s)).deck l).overload then raiseAt .deckOverload l staged
      else staged)

/-- A sample that clears the deck: the lane takes DECK_CLEAR, and a capture in flight is given up (R7, R21, R98). -/
theorem sampleStep_clearing (hbefore : (s.deck l).occupied = true) (hafter : (weighedDeck s l c).occupied = false) :
    sampleStep l c s = trackAdvance l
      (if ((linkRecover l (trackStep l s)).deck l).capture.isSome = true then
        endCapture l .abandoned (laneClear l (deckCleared l s c))
      else laneClear l (deckCleared l s c)) := by
  obtain ⟨z, h, n, hdeck⟩ := trackStep_deck s l
  have hoccupied : ((linkRecover l (trackStep l s)).deck l).occupied = true := by
    rw [recovered_deck, hdeck]
    exact hbefore
  rw [sampleStep_eq, testedSample, captureTests, stageEvents, modDeck_deck]
  simp [hoccupied, hafter, deckCleared]

theorem deckCleared_eq (l : Lane) (s : State) (c : BitVec 24) : ∃ x, x.lane l = s.lane l ∧ x.routes = s.routes
    ∧ x.visits = s.visits ∧ x.hide (.visits :: yardParts) = s.hide (.visits :: yardParts)
    ∧ (deckCleared l s c = raiseAt .deckClear l (raiseAt .deckOverload l x) ∨ deckCleared l s c = raiseAt .deckClear l x) := by
  obtain ⟨z, h, n, heq⟩ := trackStep_eq s l
  refine ⟨(linkRecover l (trackStep l s)).modDeck l fun _ => weighedDeck s l c, ?_, ?_, ?_, ?_, ?_⟩
  · exact trackStep_lane s l l
  · rw [heq]; rfl
  · rw [heq]; rfl
  · rw [modDeck_hide (by decide), linkRecover, modDeck_hide (by decide), heq, modDeck_hide (by decide)]
  · unfold deckCleared
    dsimp only
    split
    exacts [.inl rfl, .inr rfl]

/-- Two events at most lie between the stages and the lane's DECK_CLEAR. -/
theorem deckCleared_induction {P : State → Prop} (hs : ∀ x, x.lane l = s.lane l → x.routes = s.routes → x.visits = s.visits →
      x.hide (.visits :: yardParts) = s.hide (.visits :: yardParts) → P x)
    (hr : ∀ e x, P x → P (raiseAt e l x)) : P (deckCleared l s c) := by
  obtain ⟨x, hlane, hroutes, hvisits, hhide, heq⟩ := deckCleared_eq l s c
  have hx := hs x hlane hroutes hvisits hhide
  rcases heq with heq | heq <;> rw [heq]
  exacts [hr _ _ (hr _ _ hx), hr _ _ hx]

theorem deckCleared_visits (l : Lane) (s : State) (c : BitVec 24) : (deckCleared l s c).visits = s.visits :=
  deckCleared_induction (fun _ _ _ h _ => h) fun e x hx => (raiseAt_visits x e l).trans hx

theorem deckCleared_keeps (l : Lane) (s : State) (c : BitVec 24) :
    (deckCleared l s c).hide (.visits :: yardParts) = s.hide (.visits :: yardParts) :=
  deckCleared_induction (fun _ _ _ _ h => h) fun e _ hx => (raiseAt_hide (fun _ h => List.mem_cons_of_mem _ h) e l).trans hx

/-- The events leave a watching lane as it is. -/
theorem deckCleared_lane (hw : Watches (s.lane l)) (c : BitVec 24) : (deckCleared l s c).lane l = s.lane l :=
  deckCleared_induction (P := fun x => x.lane l = s.lane l) (fun _ h _ _ _ => h) fun e x hx =>
    (raiseEvent_lane_of_auto (by rw [hx]; exact hw.1) (by rw [hx]; exact hw.not_occupied) e _).trans hx

theorem deckCleared_manned (hm : (s.lane l).params.mode ≠ .auto) (c : BitVec 24) : Manned l s (deckCleared l s c) :=
  deckCleared_induction (fun _ h hr _ _ => .of_lane h hr) fun e x hx =>
    hx.trans (raiseAt_manned (by rw [hx.params]; exact hm) e l)

theorem deckCleared_shown (l : Lane) (s : State) (c : BitVec 24) :
    ((deckCleared l s c).lane l).outsideRoutes = (s.lane l).outsideRoutes :=
  deckCleared_induction (P := fun x => (x.lane l).outsideRoutes = (s.lane l).outsideRoutes) (fun _ h _ _ _ => by rw [h])
    fun e x hx => (raiseAt_aside l e l x).lane.trans hx

theorem trackAdvance_lane (d : Deck) (l : Lane) (s : State) : (trackAdvance d s).lane l = s.lane l := modDeck_lane s d _ l
theorem trackAdvance_visits (d : Deck) (s : State) : (trackAdvance d s).visits = s.visits := rfl

/-- The copy of the occupancy cleared over a clear loop. -/
theorem clear_copied (harmed : (s.lane l).seqr.passageArmed = true) (hloop : (s.lane l).sensors.loopOccupied = false) :
    Clear ((s.modSeq l fun q => { q with occupied := false }).lane l) := by
  rw [modSeq_lane]
  exact ⟨harmed, hloop, rfl⟩

/-- DECK_CLEAR at a watching lane with a clear loop (R98, R106). -/
theorem laneClear_watched (hs : VisitsOk s) (hw : Watches (s.lane l)) (harmed : (s.lane l).seqr.passageArmed = true)
    (hloop : (s.lane l).sensors.loopOccupied = false) : WatchedDone l s (laneClear l s) := by
  have hcopied := modSeq_lane s l fun q => { q with occupied := false }
  have done := checkPassage_watched (s := s.modSeq l fun q => { q with occupied := false }) (hs.of_visits rfl)
    (by rw [hcopied]; exact hw) (clear_copied harmed hloop)
  obtain ⟨v, n, hsync⟩ := syncUnannounced_seqr l (checkPassage l (s.modSeq l fun q => { q with occupied := false }))
  have hparams := congrArg LaneUnit.params (lane_of_outsideYard
    (syncUnannounced_outsideYard (checkPassage l (s.modSeq l fun q => { q with occupied := false })) l) l)
  rw [laneClear_of_passage fun h => hw.not_occupied h.2]
  refine WatchedDone.before (done.after rfl ?_ ?_ ?_ ?_ ?_) rfl hparams ?_ ?_ ?_ ?_
  · rw [hcopied]
  · rw [hcopied]
  · rw [hcopied]
  · rw [hcopied]
  · rw [hcopied]
  all_goals rw [hsync]

/-- DECK_CLEAR at a MANUAL lane with a clear loop (R113). -/
theorem laneClear_manual (hs : VisitsOk s) (hm : (s.lane l).params.mode = .manual)
    (harmed : (s.lane l).seqr.passageArmed = true) (hloop : (s.lane l).sensors.loopOccupied = false) :
    ManualDone l s (laneClear l s) := by
  have copied : Manned l s (s.modSeq l fun q => { q with occupied := false }) := .of_modSeq rfl rfl
  obtain ⟨hpassed, hdisarmed, hdone⟩ := checkPassage_manual (s := s.modSeq l fun q => { q with occupied := false })
    (hs.of_visits rfl) (by rw [copied.params]; exact hm) (clear_copied harmed hloop)
  obtain ⟨v, n, hsync⟩ := syncUnannounced_seqr l (checkPassage l (s.modSeq l fun q => { q with occupied := false }))
  rw [laneClear_of_passage fun h => absurd (hm.symm.trans h.1) (by decide)]
  exact ⟨hpassed.of_visits rfl rfl, by rw [hsync]; exact hdisarmed,
    (copied.trans hdone).trans (syncUnannounced_manned l _)⟩

/-- A capture given up after the passage changes nothing of it (R21). -/
theorem WatchedDone.endCapture (h : WatchedDone l s t) (hw : Watches (s.lane l)) (r : CaptureReason) :
    WatchedDone l s (endCapture l r t) := by
  obtain ⟨hcapturing, hoccupied⟩ := h.resting hw
  obtain ⟨y, hlane⟩ := endCapture_lane_of_resting (by rw [h.params]; exact hw.1) hcapturing hoccupied r
  refine h.before (endCapture_visits t l r) ?_ ?_ ?_ ?_ ?_ <;> rw [hlane]

theorem ManualDone.endCapture (h : ManualDone l s t) (hm : (s.lane l).params.mode = .manual) (r : CaptureReason) :
    ManualDone l s (endCapture l r t) := by
  have ended : Manned l t (Machine.endCapture l r t) := endCapture_manned (by rw [h.manned.params, hm]; decide) r
  have harmed := endCapture_armed (s := t) (l := l) (by rw [h.manned.params, hm]; exact fun h => absurd h.1 (by decide)) r
  exact ⟨h.passed.of_visits rfl (endCapture_visits t l r), harmed.trans h.armed, h.manned.trans ended⟩

/-- The sample that clears the deck completes an armed passage over a clear loop (R106, R113); in MANUAL it moves the arm
through routes alone. -/
theorem sampleClear_completed (hs : VisitsOk s) (harmed : (s.lane l).seqr.passageArmed = true)
    (hloop : (s.lane l).sensors.loopOccupied = false) (hbefore : (s.deck l).occupied = true)
    (hafter : (weighedDeck s l c).occupied = false) : Completed l s (sampleStep l c s)
      ∧ ((s.lane l).params.mode = .manual → Quiet s → ((sampleStep l c s).lane l).barrier = (s.lane l).barrier) := by
  have hy : HidesYard (.visits :: yardParts) := fun _ h => List.mem_cons_of_mem _ h
  have hshown := deckCleared_shown l s c
  have hvisits := deckCleared_visits l s c
  have hsameArmed := congrArg (fun u => u.seqr.passageArmed) hshown
  have hsameLoop := congrArg (fun u => u.sensors.loopOccupied) hshown
  have harmed' : ((deckCleared l s c).lane l).seqr.passageArmed = true := Eq.trans hsameArmed harmed
  have hloop' : ((deckCleared l s c).lane l).sensors.loopOccupied = false := Eq.trans hsameLoop hloop
  have hkeeps : (laneClear l (deckCleared l s c)).hide (.visits :: yardParts) = s.hide (.visits :: yardParts) :=
    (laneClear_hide hy (by decide) l).trans (deckCleared_keeps l s c)
  have watched : Watches (s.lane l) → WatchedDone l s (laneClear l (deckCleared l s c)) := fun hw => by
    have hlane := deckCleared_lane hw c
    refine (laneClear_watched (hs.of_visits hvisits) (by rw [hlane]; exact hw) harmed' hloop').after hvisits ?_ ?_ ?_ ?_ ?_ <;>
      rw [hlane]
  have manual : (s.lane l).params.mode = .manual → ManualDone l s (laneClear l (deckCleared l s c)) := fun hm => by
    have cleared := deckCleared_manned (l := l) (s := s) (by rw [hm]; decide) c
    obtain ⟨hpassed, hdisarmed, hdone⟩ := laneClear_manual (hs.of_visits hvisits) (by rw [cleared.params]; exact hm) harmed' hloop'
    exact ⟨hpassed.of_visits hvisits rfl, hdisarmed, cleared.trans hdone⟩
  rw [sampleStep_clearing hbefore hafter]
  generalize ((linkRecover l (trackStep l s)).deck l).capture.isSome = b
  generalize laneClear l (deckCleared l s c) = t at hkeeps watched manual ⊢
  have ended : (Watches (s.lane l) → WatchedDone l s (if b = true then endCapture l .abandoned t else t))
      ∧ ((s.lane l).params.mode = .manual → ManualDone l s (if b = true then endCapture l .abandoned t else t))
      ∧ (if b = true then endCapture l .abandoned t else t).hide (.visits :: yardParts) = s.hide (.visits :: yardParts) := by
    split
    · exact ⟨fun hw => (watched hw).endCapture hw _, fun hm => (manual hm).endCapture hm _, (endCapture_hide hy l _).trans hkeeps⟩
    · exact ⟨watched, manual, hkeeps⟩
  obtain ⟨watched, manual, hkeeps⟩ := ended
  generalize (if b = true then endCapture l .abandoned t else t) = u at watched manual hkeeps ⊢
  have hlane := trackAdvance_lane l l u
  refine ⟨.of_done (fun hw => (watched hw).before rfl ?_ ?_ ?_ ?_ ?_) (fun hm => ?_) ?_, fun hm hq => ?_⟩
  · rw [hlane]
  · rw [hlane]
  · rw [hlane]
  · rw [hlane]
  · rw [hlane]
  · obtain ⟨hpassed, hdisarmed, hmanned⟩ := manual hm
    exact ⟨hpassed.of_visits rfl rfl, by rw [hlane]; exact hdisarmed, by rw [hlane]; exact hmanned.state,
      fun hq => by rw [hlane]; exact hmanned.light hq⟩
  · exact (modDeck_hide (by decide) l _).trans hkeeps
  · rw [hlane]
    exact ((manual hm).manned.barrier hq.unrouted).2

end SampleClears

/-! ### The loop becomes OCCUPIED (R104, R113) -/

section LoopOccupied

variable {s t x : State} {l : Lane}

/-- A request at its lane keeps the arm away from DOWN. -/
theorem lowerRequest_not_down (h : (s.lane l).barrier.state ≠ .down) : ((lowerRequest l s).lane l).barrier.state ≠ .down :=
  mt lowerRequest_down.1 h

theorem raiseRequest_not_down : ((raiseRequest l s).lane l).barrier.state = .down → False := by
  rw [raiseRequest_lane]
  cases hstate : (s.lane l).barrier.state <;> simp [hstate]

/-- A barrier task at a lane, seen from any lane: nothing, or its request there. -/
theorem onTaskLane_barrier (request : Lane → State → State) (i : Nat) (s : State) :
    (∃ k, i = k.num ∧ (onTaskLane i s (barrierTask request)).2 = request k s)
    ∨ (onTaskLane i s (barrierTask request)).2 = s := by
  unfold onTaskLane
  split
  · exact .inr rfl
  · rename_i k hk
    unfold barrierTask
    split
    · exact .inl ⟨k, Idx.ofNat?_eq_some hk, rfl⟩
    · exact .inr rfl

/-- No task brings an arm DOWN. -/
theorem takeTask_not_down (task : TaskKind) (i : Nat) (h : (s.lane l).barrier.state ≠ .down) :
    ((takeTask task i s).2.lane l).barrier.state ≠ .down := by
  have moved : ∀ request : Lane → State → State, (∀ k, LaneOp k (request k)) →
      ((request l s).lane l).barrier.state ≠ .down →
      ((onTaskLane i s (barrierTask request)).2.lane l).barrier.state ≠ .down := fun request hr hl => by
    rcases onTaskLane_barrier request i s with ⟨k, -, heq⟩ | heq <;> rw [heq]
    · by_cases hk : l = k
      · subst hk; exact hl
      · rw [((hr k).works s).lane_of_ne hk]; exact h
    · exact h
  cases task with
  | barrierRaise => exact moved raiseRequest raiseRequest_laneOp fun hd => raiseRequest_not_down hd
  | barrierLower => exact moved lowerRequest lowerRequest_laneOp (lowerRequest_not_down h)
  | outputSet | outputClear | outputPulse | lightRed | lightGreen | startCapture | notice =>
    rw [takeTask_barrier (.inr (by simp))]
    exact h

/-- An arm that is DOWN stays so where no task asks for a raise of it. -/
theorem takeTask_down {task : TaskKind} {i : Nat} (ht : task ≠ .barrierRaise ∨ i ≠ l.num)
    (h : (s.lane l).barrier.state = .down) : ((takeTask task i s).2.lane l).barrier.state = .down := by
  cases task with
  | barrierRaise =>
    rw [takeTask_barrier (.inr fun _ => ht.resolve_left (by simp))]
    exact h
  | barrierLower =>
    show ((onTaskLane i s (barrierTask lowerRequest)).2.lane l).barrier.state = .down
    rcases onTaskLane_barrier lowerRequest i s with ⟨k, -, heq⟩ | heq <;> rw [heq]
    · by_cases hk : l = k
      · subst hk; exact lowerRequest_down.2 h
      · rw [((lowerRequest_laneOp k).works s).lane_of_ne hk]; exact h
    · exact h
  | outputSet | outputClear | outputPulse | lightRed | lightGreen | startCapture | notice =>
    rw [takeTask_barrier (.inr (by simp))]
    exact h

/-- An event brings no arm DOWN. -/
theorem raiseEvent_not_down (h : (s.lane l).barrier.state ≠ .down) (e : EventKind) (i : Option Nat) :
    ((raiseEvent e i s).lane l).barrier.state ≠ .down :=
  List.foldlRecOn s.routes.routes (fireRoute e i) (motive := fun x => (x.lane l).barrier.state ≠ .down) h fun x hx p _ => by
    rw [fireRoute_eq]
    split
    exacts [takeTask_not_down _ _ hx, hx]

/-- No enabled route asks for a raise at the lane. -/
def Unraised (l : Lane) (table : Table Route) : Prop :=
  ∀ p ∈ table, p.2.enabled = true → p.2.task ≠ .barrierRaise ∨ p.2.taskIndex ≠ l.num

theorem raiseEvent_down (hr : Unraised l s.routes.routes) (h : (s.lane l).barrier.state = .down) (e : EventKind)
    (i : Option Nat) : ((raiseEvent e i s).lane l).barrier.state = .down :=
  List.foldlRecOn s.routes.routes (fireRoute e i) (motive := fun x => (x.lane l).barrier.state = .down) h fun x hx p hp => by
    rw [fireRoute_eq]
    split
    · rename_i hmatch
      obtain ⟨henabled, -, -⟩ := hmatch
      exact takeTask_down (hr p hp henabled) hx
    · exact hx

/-! #### The lane takes the loop -/

theorem laneLoopOccupied_of_manual (hm : (s.lane l).params.mode = .manual) : laneLoopOccupied l s =
    if (s.lane l).barrier.state ≠ .down then s.modSeq l fun q => { q with passageArmed := true } else s := by
  simp [laneLoopOccupied, hm]

theorem laneLoopOccupied_of_held (hm : (s.lane l).params.mode = .auto) (hh : (s.lane l).seqr.state = .held)
    (hf : (s.lane l).barrier.state = .fault) : laneLoopOccupied l s =
    if (s.lane l).seqr.released.isSome = true then s.modSeq l fun q => { q with passageArmed := true } else s := by
  simp [laneLoopOccupied, hm, hh, hf]

theorem laneLoopOccupied_hide {ps : List Part} (h : .lanes ∈ ps) (l : Lane) (s : State) :
    (laneLoopOccupied l s).hide ps = s.hide ps := by
  have armed : ∀ f, (s.modSeq l f).hide ps = s.hide ps := fun f => modLane_hide h l _
  unfold laneLoopOccupied
  dsimp only
  split
  · exact armed _
  · split
    exacts [armed _, rfl]
  · split
    exacts [armed _, rfl]
  · rfl

/-- The loop becoming OCCUPIED arms the passage of a MANUAL lane whose arm is not DOWN (R113). -/
theorem loopOccupied_manual (hm : (s.lane l).params.mode = .manual) :
    ((loopChange l true s).lane l).seqr.state = (s.lane l).seqr.state
    ∧ ((s.lane l).barrier.state ≠ .down → ((loopChange l true s).lane l).seqr.passageArmed = true)
    ∧ ((s.lane l).barrier.state = .down → Unraised l s.routes.routes →
      ((loopChange l true s).lane l).seqr.passageArmed = (s.lane l).seqr.passageArmed) := by
  have hmode : ((loopMoved l true s).lane l).params.mode = .manual := by rw [loopMoved_params]; exact hm
  have haside := raiseAt_aside l .safetyOccupied l (loopMoved l true s)
  have hstate : ((raiseAt .safetyOccupied l (loopMoved l true s)).lane l).seqr.state = (s.lane l).seqr.state := by
    rw [(haside.kept fun h => absurd (hmode.symm.trans h.1) (by decide)).1, loopMoved_seqr]
  have harmed : ((raiseAt .safetyOccupied l (loopMoved l true s)).lane l).seqr.passageArmed = (s.lane l).seqr.passageArmed := by
    have hsame := congrArg (fun u => u.seqr.passageArmed) haside.lane
    refine Eq.trans hsame ?_
    show ((loopMoved l true s).lane l).seqr.passageArmed = _
    rw [loopMoved_seqr]
  have hup : (s.lane l).barrier.state ≠ .down →
      ((raiseAt .safetyOccupied l (loopMoved l true s)).lane l).barrier.state ≠ .down := fun hd =>
    raiseEvent_not_down (mt loopMoved_down.1 hd) _ _
  have hdown : (s.lane l).barrier.state = .down → Unraised l s.routes.routes →
      ((raiseAt .safetyOccupied l (loopMoved l true s)).lane l).barrier.state = .down := fun hd hr =>
    raiseEvent_down (s := loopMoved l true s) (by rw [(loopMoved_work s l true).routes]; exact hr) (loopMoved_down.2 hd) _ _
  rw [loopChange_occupied, laneLoopOccupied_of_manual (by rw [haside.params]; exact hmode)]
  generalize raiseAt .safetyOccupied l (loopMoved l true s) = x at hstate harmed hup hdown ⊢
  have hset := modSeq_lane x l fun q => { q with passageArmed := true }
  refine ⟨?_, fun hd => ?_, fun hd hr => ?_⟩
  · split
    · rw [hset]; exact hstate
    · exact hstate
  · rw [if_pos (hup hd), hset]
  · rw [if_neg (not_not.2 (hdown hd hr))]
    exact harmed

/-- In a FAULT it arms the passage of a released visit (R104). -/
theorem loopOccupied_held (hm : (s.lane l).params.mode = .auto) (hh : (s.lane l).seqr.state = .held)
    (hf : (s.lane l).barrier.state = .fault) : ((loopChange l true s).lane l).seqr.passageArmed =
      ((s.lane l).seqr.passageArmed || (s.lane l).seqr.released.isSome) := by
  have hwatch : Watches ((loopMoved l true s).lane l) := loopMoved_watches true ⟨hm, .inr ⟨hh, hf⟩⟩
  have hlane : (raiseAt .safetyOccupied l (loopMoved l true s)).lane l = (loopMoved l true s).lane l :=
    raiseEvent_lane_of_auto hwatch.1 hwatch.not_occupied _ _
  have hseqr : ((raiseAt .safetyOccupied l (loopMoved l true s)).lane l).seqr = (s.lane l).seqr := by rw [hlane, loopMoved_seqr]
  rw [loopChange_occupied, laneLoopOccupied_of_held (by rw [hlane]; exact hwatch.1) (by rw [hseqr]; exact hh)
    (by rw [hlane]; exact loopMoved_fault.2 hf), hseqr]
  cases hr : (s.lane l).seqr.released
  · simp [hseqr]
  · simp

theorem loopOccupied_keeps (l : Lane) (s : State) : KeepsAllBut yardParts s (loopChange l true s) := by
  rw [loopChange_occupied]
  exact (laneLoopOccupied_hide (by decide) l _).trans ((raiseAt_hide (fun _ h => h) _ l).trans (loopMoved_hide (by decide) l true s))

end LoopOccupied

/-! ### The lane a settling leaves (R103) -/

section SettledLane

variable {s : State} {l : Lane}

/-- HELD by a holding head: a lower is asked for unless the arm is DOWN. -/
theorem settle_holding_lane (hf : (s.lane l).barrier.state ≠ .fault) (hc : headClass s l = .holding) :
    ((settle l s).lane l).seqr.state = .held ∧ ((settle l s).lane l).seqr.light = .red
    ∧ ((settle l s).lane l).seqr.released = none
    ∧ ((s.lane l).barrier.state = .down → ((settle l s).lane l).barrier = (s.lane l).barrier)
    ∧ ((s.lane l).sensors.loopOccupied = false → ((settle l s).lane l).barrier.state = .down
        ∨ ((settle l s).lane l).barrier.state = .lowering) := by
  have hdisarmed := disarmed_lane l s
  have hheld := modSeq_lane (disarmed l s) l fun q =>
    { q with state := .held, light := .red, released := none, passTimer := passStopped (disarmed l s) l q.passTimer }
  rw [settle_of_holding hf hc, enterHeld, lowerUnlessDown]
  by_cases hd : (s.lane l).barrier.state = .down
  · rw [if_pos (by rw [hheld, hdisarmed]; exact hd), hheld, hdisarmed]
    exact ⟨rfl, rfl, rfl, fun _ => rfl, fun _ => .inl hd⟩
  · rw [if_neg (by rw [hheld, hdisarmed]; exact hd), lowerRequest_lane, hheld, hdisarmed]
    refine ⟨rfl, rfl, rfl, fun h => absurd h hd, fun hloop => .inr ?_⟩
    cases hstate : (s.lane l).barrier.state with
    | down => exact absurd hstate hd
    | fault => exact absurd hstate hf
    | lowering => simp [hstate]
    | raising | up => simp [hloop]

/-- A cleared head on the deck is released: RELEASING while the arm is not UP, OPEN or PASSING at once where it is (R105). -/
theorem settle_cleared_lane (hf : (s.lane l).barrier.state ≠ .fault) (hc : headClass s l = .cleared)
    (ho : (s.lane l).seqr.occupied = true) :
    ((settle l s).lane l).seqr.released = (s.lane l).seqr.head.map Prod.fst
    ∧ ((s.lane l).barrier.state ≠ .up → ((settle l s).lane l).seqr.state = .releasing
        ∧ ((settle l s).lane l).barrier.state = .raising ∧ ((settle l s).lane l).seqr.light = .red)
    ∧ ((s.lane l).barrier.state = .up →
        ((settle l s).lane l).seqr.state = (if (s.lane l).sensors.loopOccupied = true then .passing else .opened)
        ∧ ((settle l s).lane l).seqr.light = .green) := by
  have hdisarmed := disarmed_lane l s
  rw [settle_of_cleared hf hc ho]
  by_cases hup : (s.lane l).barrier.state = .up
  · rw [enterReleasing_of_up (by rw [hdisarmed]; exact hup)]
    obtain ⟨x, a, hopen⟩ := enterOpen_lane l (raiseRequest l ((disarmed l s).modSeq l fun q =>
      { q with state := .releasing, light := .red, released := headNumber (disarmed l s) l }))
    rw [hopen, raiseRequest_lane, modSeq_lane, headNumber, hdisarmed]
    exact ⟨rfl, fun h => absurd hup h, fun _ => ⟨rfl, rfl⟩⟩
  · rw [enterReleasing_of_not_up (by rw [hdisarmed]; exact hup), raiseRequest_lane, modSeq_lane, headNumber, hdisarmed]
    refine ⟨rfl, fun _ => ⟨rfl, ?_, rfl⟩, fun h => absurd h hup⟩
    cases hstate : (s.lane l).barrier.state with
    | up => exact absurd hstate hup
    | fault => exact absurd hstate hf
    | down | lowering | raising => simp [hstate]

/-- An automatic start leaves the released visit and the light. -/
theorem autoStart_lit (l : Lane) (s : State) : ((autoStart l s).lane l).seqr.released = (s.lane l).seqr.released
    ∧ ((autoStart l s).lane l).seqr.light = (s.lane l).seqr.light := by
  unfold autoStart
  split
  · exact ⟨rfl, rfl⟩
  · rename_i n _
    rcases startForHead_lane l n s with hstart | ⟨r, hstart⟩ <;> rw [hstart]
    · split <;> exact ⟨rfl, rfl⟩
    · exact ⟨rfl, rfl⟩

/-- What OCCUPIED leaves released and lit. -/
theorem enterOccupied_red (hc : headClass s l = .capturable ∨ headClass s l = .none) :
    ((enterOccupied l s).lane l).seqr.released = (s.lane l).seqr.released
    ∧ ((enterOccupied l s).lane l).seqr.light = .red := by
  have hlane := modSeq_lane s l fun q => { q with state := .occupied, light := .red }
  have hclass : headClass (s.modSeq l fun q => { q with state := .occupied, light := .red }) l = headClass s l := by
    rw [headClass, headClass, hlane]
  unfold enterOccupied actInOccupied
  rw [hclass]
  generalize (s.modSeq l fun q => { q with state := .occupied, light := .red }) = x at hlane ⊢
  have entered : (x.lane l).seqr.released = (s.lane l).seqr.released ∧ (x.lane l).seqr.light = .red := by
    rw [hlane]
    exact ⟨rfl, rfl⟩
  rcases hc with hc | hc <;> rw [hc]
  · dsimp only
    split
    · obtain ⟨hreleased, hlight⟩ := autoStart_lit l x
      rw [hreleased, hlight]
      exact entered
    · exact entered
  · exact entered

/-- Without a release the lane closes where the arm is not DOWN, and rests where it is (R103, R108). -/
theorem settle_resting_lane (hf : (s.lane l).barrier.state ≠ .fault) (hn : NoRelease s l) :
    ((settle l s).lane l).seqr.released = none ∧ ((settle l s).lane l).seqr.light = .red
    ∧ ((s.lane l).barrier.state ≠ .down → ((settle l s).lane l).seqr.state = .closing)
    ∧ ((s.lane l).barrier.state = .down → (s.lane l).seqr.occupied = false → ((settle l s).lane l).seqr.state = .idle)
    ∧ ((s.lane l).barrier.state = .down → (s.lane l).seqr.occupied = true → (s.lane l).params.autoCapture = false →
        ((settle l s).lane l).seqr.state = .occupied) := by
  have hdisarmed := disarmed_lane l s
  by_cases hd : (s.lane l).barrier.state = .down
  · by_cases ho : (s.lane l).seqr.occupied = true
    · have hlane := (unreleased_lane l (disarmed l s)).trans (by rw [hdisarmed])
      have hclass : headClass (unreleased l (disarmed l s)) l = headClass s l := by
        rw [headClass, headClass, hlane]
      have hkind : headClass (unreleased l (disarmed l s)) l = .capturable
          ∨ headClass (unreleased l (disarmed l s)) l = .none := by
        obtain ⟨hholding, hcleared⟩ := hn
        rw [hclass]
        cases hk : headClass s l <;> simp_all
      obtain ⟨hreleased, hlight⟩ := enterOccupied_red hkind
      rw [settle_of_occupied hn hd ho]
      refine ⟨hreleased.trans (by rw [hlane]), hlight, fun h => absurd hd h, fun _ h => absurd (ho.symm.trans h) (by decide),
        fun _ _ hauto => ?_⟩
      rw [enterOccupied_of_autoCapture_off hkind (by rw [hlane]; exact hauto), modSeq_lane]
    · have hclear : (s.lane l).seqr.occupied = false := by simpa using ho
      rw [settle_of_idle hn hd hclear, enterIdle_lane, unreleased_lane]
      exact ⟨rfl, rfl, fun h => absurd hd h, fun _ _ => rfl, fun _ h => absurd h ho⟩
  · rw [settle_of_moving hf hn hd, enterClosing_of_not_down (by rw [hdisarmed]; exact hd), lowerRequest_lane, modSeq_lane]
    exact ⟨rfl, rfl, fun _ => rfl, fun h => absurd h hd, fun h => absurd h hd⟩

/-- Settles O46: the cases of settling one by one, the two events that complete a passage, and the loop that arms one. -/
theorem settlingTakesTheFirstCase : Obligations.SettlingTakesTheFirstCase := by
  refine ⟨fun s l => ⟨fun hf => ?_, fun hf => ⟨fun hc => settle_holding_lane hf hc, fun hc ho => settle_cleared_lane hf hc ho,
    fun hh hc => settle_resting_lane hf ⟨hh, hc⟩⟩⟩, fun s l hs hpower harmed => ⟨fun hloop hdeck => ?_, fun c hloop hdeck hafter => ?_⟩,
    fun s l hpower hloop => ?_⟩
  · rw [settle_of_fault hf, modSeq_lane]
    exact ⟨rfl, rfl, rfl, rfl⟩
  · exact ⟨_, exec_loopFilterChange hpower (by rw [hloop]; decide), loopClear_completed hs harmed hdeck⟩
  · obtain ⟨hdone, hbarrier⟩ := sampleClear_completed (c := c) hs harmed hloop hdeck hafter
    refine ⟨_, ?_, hdone, hbarrier⟩
    have hexec : exec (.sampleOk l c) s = whenRunning s (sampleStep l c) := rfl
    rw [hexec, whenRunning, if_pos hpower]
  · refine ⟨_, exec_loopFilterChange hpower (by rw [hloop]; decide), fun hm => loopOccupied_manual hm,
      fun hm hh hf => loopOccupied_held hm hh hf, loopOccupied_keeps l s⟩

end SettledLane
end Sys2Proof.Machine

/-! PROOFS, 06_lanes_and_barriers (R97, R103, R105, R108 to R110, R113, R115 to R117). The inputs of a lane and its timers. -/

namespace Sys2Proof.Machine
open Sys2Proof

/-! ### What a passage leaves shown of the lane (R97, R106) -/

section PassageShown

variable {s t x : State} {k l : Lane}

/-- What no lane's work reaches of a lane. -/
theorem depart_shown (n : Nat) {f : State → State} (hf : ∀ x, (f x).lanes = x.lanes) (k : Lane) (s : State) :
    ((depart n f s).lane k).outsideYard = (s.lane k).outsideYard := by
  have same : ∀ x, (f x).lane k = x.lane k := fun x => by rw [State.lane, hf]; rfl
  unfold depart
  split
  · rfl
  · split
    · rw [same]
    · rename_i pl _
      dsimp only
      rw [lane_of_outsideYard (syncUnannounced_outsideYard _ pl.lane) k]
      split
      · rw [lane_of_outsideYard (handHead_outsideYard _ pl.lane true) k, same]
        rfl
      · rw [same]
        rfl

theorem vehiclePassed_shown (l k : Lane) (s : State) : ((vehiclePassed l s).lane k).outsideYard = (s.lane k).outsideYard := by
  have leaves : ∀ (n : Nat) (f : State → State), (∀ x : State, (f x).lanes = x.lanes) →
      ((depart n f (endCaptureLeaving l .abandoned s)).lane k).outsideYard = (s.lane k).outsideYard := fun n f hf =>
    (depart_shown n hf k _).trans (lane_of_outsideYard (endCaptureLeaving_outsideYard s l _) k)
  unfold vehiclePassed
  split
  · rfl
  · split
    · rfl
    · split
      exacts [rfl, leaves _ id fun _ => rfl, leaves _ _ fun _ => rfl, leaves _ _ fun _ => rfl]

theorem modSeq_shown (l k : Lane) (f : Sequencer → Sequencer) (s : State)
    (hf : (f (s.lane l).seqr).occupied = (s.lane l).seqr.occupied) :
    ((s.modSeq l f).lane k).outsideYard = (s.lane k).outsideYard :=
  lane_of_outsideYard (modSeq_outsideYard s l f hf) k

theorem handReleased_shown (l k : Lane) (s : State) : ((handReleased l s).lane k).outsideYard = (s.lane k).outsideYard := by
  unfold handReleased
  dsimp only
  rw [modSeq_shown l k _ _ rfl]
  split
  exacts [vehiclePassed_shown l k s, rfl]

theorem checkPassage_shown (l k : Lane) (s : State) : ((checkPassage l s).lane k).outsideYard = (s.lane k).outsideYard := by
  unfold checkPassage
  dsimp only
  split
  · split
    · rw [lane_of_outsideYard (enterClosing_outsideYard _ l) k, handReleased_shown, modSeq_shown l k _ _ rfl]
    · exact handReleased_shown l k s
    · rw [modSeq_shown l k _ _ rfl, vehiclePassed_shown]
    · rfl
  · rfl

theorem laneLoopOccupied_shown (l k : Lane) (s : State) :
    ((laneLoopOccupied l s).lane k).outsideYard = (s.lane k).outsideYard := by
  unfold laneLoopOccupied
  dsimp only
  split
  · exact modSeq_shown l k _ _ rfl
  · split
    exacts [modSeq_shown l k _ _ rfl, rfl]
  · split
    exacts [modSeq_shown l k _ _ rfl, rfl]
  · rfl

theorem laneLoopOccupied_barrier (l : Lane) (s : State) : ((laneLoopOccupied l s).lane l).barrier = (s.lane l).barrier := by
  have armed : ∀ f, ((s.modSeq l f).lane l).barrier = (s.lane l).barrier := fun f => by rw [modSeq_lane]
  unfold laneLoopOccupied
  dsimp only
  split
  · exact armed _
  · split
    exacts [armed _, rfl]
  · split
    exacts [armed _, rfl]
  · rfl

/-- A change of the loop leaves the lane's parameters, and of its sensors the others (R97). -/
theorem loopChange_shown (l : Lane) (b : Bool) (s : State) :
    ((loopChange l b s).lane l).sensors = { (s.lane l).sensors with loopOccupied := b }
    ∧ ((loopChange l b s).lane l).params = (s.lane l).params := by
  have hmoved : ((loopChange l b s).lane l).outsideYard = ((loopMoved l b s).lane l).outsideYard := by
    cases b with
    | true => rw [loopChange_occupied, laneLoopOccupied_shown, lane_of_outsideYard (raiseAt_outsideYard _ _ l) l]
    | false => rw [loopChange_clear, checkPassage_shown, lane_of_outsideYard (raiseAt_outsideYard _ _ l) l]
  have hsensors := congrArg LaneUnit.sensors hmoved
  have hparams := congrArg LaneUnit.params hmoved
  exact ⟨Eq.trans hsensors (loopMoved_sensors l b s), Eq.trans hparams (loopMoved_params l b s)⟩

theorem loopChange_keeps (l : Lane) (b : Bool) (s : State) : KeepsAllBut (.visits :: yardParts) s (loopChange l b s) := by
  have hy : HidesYard (.visits :: yardParts) := fun _ h => List.mem_cons_of_mem _ h
  cases b with
  | true => exact (loopOccupied_keeps l s).mono hy
  | false =>
    rw [loopChange_clear]
    exact (checkPassage_hide hy (by decide) l).trans ((raiseAt_hide hy _ l).trans (loopMoved_hide (by decide) l false s))

end PassageShown

/-! ### The barrier and the loop (R115) -/

section LoopBarrier

variable {s : State} {l : Lane}

/-- The barrier after a change of the loop and its event. -/
theorem loopEvent_barrier (b : Bool) (h : (s.lane l).params.mode ≠ .manual ∨ Unrouted l s.routes.routes) (e : EventKind) :
    ((raiseAt e l (loopMoved l b s)).lane l).barrier = ((loopMoved l b s).lane l).barrier :=
  raiseEvent_barrier (by rw [loopMoved_params, (loopMoved_work s l b).routes]; exact h) e _

/-- A lowering arm turns up again under the loop, the lower kept pending (R115). -/
theorem loopOccupied_barrier (hl : (s.lane l).barrier.state = .lowering)
    (h : (s.lane l).params.mode ≠ .manual ∨ Unrouted l s.routes.routes) : ((loopChange l true s).lane l).barrier =
      { (s.lane l).barrier with
        state := .raising, pendingLower := true, travelTimer := travelStarted s l (s.lane l).barrier.travelTimer } := by
  rw [loopChange_occupied, laneLoopOccupied_barrier, loopEvent_barrier true h, loopMoved_lane]
  simp [hl]

/-- Where the loop's clearing ends no passage that moves the arm. -/
def Unpassed (s : State) (l : Lane) : Prop :=
  (s.lane l).params.mode = .closed ∨ ((s.lane l).params.mode = .manual ∧ Unrouted l s.routes.routes)
    ∨ ((s.lane l).params.mode = .auto ∧ ((s.lane l).seqr.state = .closing ∨ (s.lane l).seqr.passageArmed = false))

theorem checkPassage_of_unarmed (h : (s.lane l).seqr.passageArmed = false) : checkPassage l s = s := by
  simp [checkPassage, h]

theorem checkPassage_of_closed (h : (s.lane l).params.mode = .closed) : checkPassage l s = s := by
  simp [checkPassage, h]

theorem checkPassage_of_closing (hm : (s.lane l).params.mode = .auto) (h : (s.lane l).seqr.state = .closing) :
    checkPassage l s = s := by
  simp [checkPassage, hm, h]

theorem checkPassage_barrier_of_manual (hm : (s.lane l).params.mode = .manual) (hu : Unrouted l s.routes.routes) :
    ((checkPassage l s).lane l).barrier = (s.lane l).barrier := by
  have passed := vehiclePassed_manned (s := s) (l := l) (by rw [hm]; decide)
  unfold checkPassage
  dsimp only
  split
  · rw [hm]
    dsimp only
    rw [modSeq_lane]
    exact (passed.barrier hu).2
  · rfl

/-- A pending lower starts as the loop clears (R115). -/
theorem loopClear_barrier (hs : (s.lane l).barrier.state = .raising ∨ (s.lane l).barrier.state = .up)
    (hp : (s.lane l).barrier.pendingLower = true) (h : Unpassed s l) : ((loopChange l false s).lane l).barrier =
      { (s.lane l).barrier with
        state := .lowering, pendingLower := false, travelTimer := travelStarted s l (s.lane l).barrier.travelTimer } := by
  have hmoved : ((loopMoved l false s).lane l).barrier = { (s.lane l).barrier with
      state := .lowering, pendingLower := false, travelTimer := travelStarted s l (s.lane l).barrier.travelTimer } := by
    rw [loopMoved_lane]
    rcases hs with hs | hs <;> simp [hs, hp]
  have haside := raiseAt_aside l .safetyClear l (loopMoved l false s)
  have hmode := haside.params.trans (loopMoved_params l false s)
  rw [loopChange_clear, ← hmoved]
  rcases h with hm | ⟨hm, hu⟩ | ⟨hm, hstate | harmed⟩
  · rw [checkPassage_of_closed (by rw [hmode]; exact hm), loopEvent_barrier false (.inl (by rw [hm]; decide))]
  · rw [checkPassage_barrier_of_manual (by rw [hmode]; exact hm), loopEvent_barrier false (.inr hu)]
    exact Unrouted.of_outsideRoutes (congrArg State.routes (raiseAt_outsideYard _ .safetyClear l))
      (by rw [(loopMoved_work s l false).routes]; exact hu)
  · have hlane : (raiseAt .safetyClear l (loopMoved l false s)).lane l = (loopMoved l false s).lane l := by
      refine raiseEvent_lane_of_auto ?_ ?_ _ _
      · rw [loopMoved_params]; exact hm
      · rw [loopMoved_seqr]; exact fun h => absurd (hstate.symm.trans h) (by decide)
    rw [checkPassage_of_closing (by rw [hmode]; exact hm) (by rw [hlane, loopMoved_seqr]; exact hstate), hlane]
  · have hunarmed : ((raiseAt .safetyClear l (loopMoved l false s)).lane l).seqr.passageArmed = false := by
      have hsame := congrArg (fun u => u.seqr.passageArmed) haside.lane
      refine Eq.trans hsame ?_
      show ((loopMoved l false s).lane l).seqr.passageArmed = _
      rw [loopMoved_seqr]
      exact harmed
    rw [checkPassage_of_unarmed hunarmed, loopEvent_barrier false (.inl (by rw [hm]; decide))]

/-- What waits in the queue is the same for what a lane works on. -/
theorem waiting_of_outsideYard {t : State} (h : t.outsideYard = s.outsideYard) (c : Instr) : t.waiting c = s.waiting c := by
  have hpending := congrArg State.pending h
  have hsame : t.pending = s.pending := hpending
  rw [State.waiting, State.waiting, hsame]

/-- In OPEN the vehicle under the arm is PASSING, its passage armed (R105). -/
theorem loopOccupied_opened (hm : (s.lane l).params.mode = .auto) (ho : (s.lane l).seqr.state = .opened) :
    ((loopChange l true s).lane l).seqr = { (s.lane l).seqr with
      state := .passing, passageArmed := true, passTimer := passStopped s l (s.lane l).seqr.passTimer } := by
  have hlane : (raiseAt .safetyOccupied l (loopMoved l true s)).lane l = (loopMoved l true s).lane l := by
    refine raiseEvent_lane_of_auto ?_ ?_ _ _
    · rw [loopMoved_params]; exact hm
    · rw [loopMoved_seqr]; exact fun h => absurd (ho.symm.trans h) (by decide)
  have hmode : ((raiseAt .safetyOccupied l (loopMoved l true s)).lane l).params.mode = .auto := by
    rw [hlane, loopMoved_params]; exact hm
  have hseqr : ((raiseAt .safetyOccupied l (loopMoved l true s)).lane l).seqr = (s.lane l).seqr := by rw [hlane, loopMoved_seqr]
  have hwaiting : (raiseAt .safetyOccupied l (loopMoved l true s)).waiting (.passTimeout l) = s.waiting (.passTimeout l) :=
    waiting_of_outsideYard (raiseAt_outsideYard (loopMoved l true s) .safetyOccupied l) _
  rw [loopChange_occupied]
  generalize raiseAt .safetyOccupied l (loopMoved l true s) = x at hmode hseqr hwaiting ⊢
  have hopened : (x.lane l).seqr.state = .opened := by rw [hseqr]; exact ho
  have hmove : laneLoopOccupied l x = x.modSeq l fun q =>
      { q with state := .passing, passTimer := passStopped x l q.passTimer, passageArmed := true } := by
    simp [laneLoopOccupied, hmode, hopened]
  rw [hmove, modSeq_lane, hseqr, passStopped, passStopped, hwaiting]

end LoopBarrier

/-! ### What an event leaves of a barrier in FAULT and of an AUTO state (R158 to R161) -/

section EventLeaves

variable {s t : State} {l : Lane}

theorem takeTask_barrier_of_fault (h : (s.lane l).barrier.state = .fault) (task : TaskKind) (i : Nat) :
    ((takeTask task i s).2.lane l).barrier = (s.lane l).barrier :=
  takeTask_barrier_of fun _ _ r => by simp [barrierTask, h]

/-- No event moves a barrier in FAULT (R160). -/
theorem raiseEvent_barrier_of_fault (h : (s.lane l).barrier.state = .fault) (e : EventKind) (i : Option Nat) :
    ((raiseEvent e i s).lane l).barrier = (s.lane l).barrier :=
  List.foldlRecOn s.routes.routes (fireRoute e i) (motive := fun x => (x.lane l).barrier = (s.lane l).barrier) rfl
    fun x hx p _ => (fireRoute_lane fun _ => takeTask_barrier_of_fault (by rw [hx]; exact h) _ _).trans hx

/-- No task brings an AUTO lane to CLOSING. -/
theorem takeTask_not_closing (hm : (s.lane l).params.mode = .auto) (h : (s.lane l).seqr.state ≠ .closing) (task : TaskKind)
    (i : Nat) : ((takeTask task i s).2.lane l).seqr.state ≠ .closing := by
  by_cases ho : (s.lane l).seqr.state = .occupied
  · have hstart : ((startCaptureTask l s).2.lane l).seqr.state ≠ .closing := by
      unfold startCaptureTask
      split
      · split
        · exact h
        · rename_i n _
          split
          · rcases startForHead_lane l n s with hlane | ⟨r, hlane⟩ <;> rw [hlane]
            · rw [if_pos hm]
              simp
            · exact h
          · exact h
      · exact h
    have hsame := takeTask_lane (g := fun u => decide (u.seqr.state = .closing)) (l := l) (s := s) task i
      (fun x => by simp [lightTask, hm]) (fun _ _ r => by simp [barrierTask, hm]) (by simp [hstart, h])
    simpa [h] using hsame
  · rw [takeTask_lane_of_auto hm ho]
    exact h

theorem raiseEvent_not_closing (hm : (s.lane l).params.mode = .auto) (h : (s.lane l).seqr.state ≠ .closing) (e : EventKind)
    (i : Option Nat) : ((raiseEvent e i s).lane l).seqr.state ≠ .closing :=
  (List.foldlRecOn s.routes.routes (fireRoute e i)
    (motive := fun x => (x.lane l).params.mode = .auto ∧ (x.lane l).seqr.state ≠ .closing) ⟨hm, h⟩ fun x hx p _ => by
      obtain ⟨hauto, hstate⟩ := hx
      refine ⟨(congrArg LaneParams.mode (fireRoute_aside l e i x p).params).trans hauto, ?_⟩
      rw [fireRoute_eq]
      split
      exacts [takeTask_not_closing hauto hstate _ _, hstate]).2

/-! #### The timers of a lane are started and stopped alike in states that agree outside the yard -/

theorem passStopped_of_outsideYard (h : t.outsideYard = s.outsideYard) (x : Timer) : passStopped t l x = passStopped s l x := by
  rw [passStopped, passStopped, waiting_of_outsideYard h]

theorem passStarted_of_outsideYard (h : t.outsideYard = s.outsideYard) (x : Timer) : passStarted t l x = passStarted s l x := by
  have hclock := congrArg State.clock h
  have hsameClock : t.clock = s.clock := hclock
  have hparams := congrArg LaneUnit.params (lane_of_outsideYard h l)
  have hsameParams : (t.lane l).params = (s.lane l).params := hparams
  rw [passStarted, passStarted, waiting_of_outsideYard h, inSec, inSec, inMs, inMs, hsameClock, hsameParams]

end EventLeaves

/-! ### A barrier's FAULT (R103, R117) -/

section Faults

variable {s : State} {l : Lane}

theorem faultReported_barrier (l : Lane) (s : State) : ((faultReported l s).lane l).barrier = { (s.lane l).barrier with
    state := .fault, pendingLower := false, travelTimer := travelStopped s l (s.lane l).barrier.travelTimer } := by
  have hfaulted := barrierFaulted_lane l s
  refine Eq.trans (raiseEvent_barrier_of_fault (s := barrierFaulted l s) ?_ .barrierFault (some l.num)) ?_ <;> rw [hfaulted]

/-- The controller's FAULT, whatever its routes ask for. -/
theorem enterFault_barrier (l : Lane) (s : State) : ((enterFault l s).lane l).barrier = { (s.lane l).barrier with
    state := .fault, pendingLower := false, travelTimer := travelStopped s l (s.lane l).barrier.travelTimer } := by
  rw [enterFault_eq]
  split
  · rw [enterFaultHeld, modSeq_lane]
    exact faultReported_barrier l s
  · exact faultReported_barrier l s

/-- An AUTO lane is HELD in a FAULT (R103). -/
theorem enterFault_held (hm : (s.lane l).params.mode = .auto) :
    ((enterFault l s).lane l).seqr.state = .held ∧ ((enterFault l s).lane l).seqr.light = .red := by
  rw [enterFault_eq, if_pos (by rw [faultReported_mode]; exact hm), enterFaultHeld, modSeq_lane]
  exact ⟨rfl, rfl⟩

theorem enterFault_noticed (l : Lane) (s : State) :
    Noticed (enterFault l s) .lane (.lane l) ∧ Noticed (enterFault l s) .lane .office := by
  have hnoticed : Noticed (faultReported l s) .lane (.lane l) ∧ Noticed (faultReported l s) .lane .office :=
    noticed_raiseLaneOffice .lane l _
  rw [enterFault_eq]
  split
  exacts [hnoticed, hnoticed]

/-! ### The limits (R116, log 42) -/

/-- The limit input's level taken. -/
def limitTaken (l : Lane) (x : Limit) (s : State) : State := s.modBarrier l fun b => b.setLimit x true

theorem limitTaken_lane (l : Lane) (x : Limit) (s : State) : (limitTaken l x s).lane l =
    { s.lane l with barrier := (s.lane l).barrier.setLimit x true } := modBarrier_lane s l _

theorem limitTaken_limit (l : Lane) (x : Limit) (s : State) : ((limitTaken l x s).lane l).barrier.limit x = true := by
  rw [limitTaken_lane]
  cases x <;> rfl

theorem exec_barrierLimitChange_same {x : Limit} {b : Bool} (h : (s.lane l).barrier.limit x = b) :
    exec (.barrierLimitChange l x b) s = .next s := if_pos h

theorem exec_barrierLimitChange_inactive {x : Limit} (h : (s.lane l).barrier.limit x = true) :
    exec (.barrierLimitChange l x false) s = .next (s.modBarrier l fun b => b.setLimit x false) := by
  unfold exec execBarrierLimitChange
  simp [h]

theorem exec_barrierLimitChange_active {x : Limit} (hpower : s.power = true) (h : (s.lane l).barrier.limit x = false) :
    exec (.barrierLimitChange l x true) s = .next (limitActive l x (limitTaken l x s)) := by
  have htaken : exec (.barrierLimitChange l x true) s =
      if (s.lane l).barrier.limit x = true then .next s
      else .next (if (s.power && true) = true then limitActive l x (limitTaken l x s) else limitTaken l x s) := rfl
  rw [htaken]
  simp [h, hpower]

/-- Both limits of a barrier that is in no FAULT. -/
theorem limitActive_of_both (h : (s.lane l).barrier.state ≠ .fault) (hup : (s.lane l).barrier.limitUp = true)
    (hdown : (s.lane l).barrier.limitDown = true) (x : Limit) : limitActive l x s = enterFault l s := by
  simp [limitActive, h, hup, hdown]

/-- A raise reported UP. -/
theorem limitActive_up (h : (s.lane l).barrier.state = .raising) (hdown : (s.lane l).barrier.limitDown = false) :
    limitActive l .up s = reportUp l (endTravel l .up .barrierUp s) := by
  simp [limitActive, h, hdown]

theorem limitActive_down (h : (s.lane l).barrier.state = .lowering) (hup : (s.lane l).barrier.limitUp = false) :
    limitActive l .down s = reportDown l (endTravel l .down .barrierDown s) := by
  simp [limitActive, h, hup]

/-- A limit ends its own travel alone. -/
theorem limitActive_of_rest {x : Limit} (hup : x = .up → (s.lane l).barrier.state ≠ .raising)
    (hdown : x = .down → (s.lane l).barrier.state ≠ .lowering)
    (h : (s.lane l).barrier.state = .fault ∨ ((s.lane l).barrier.limitUp && (s.lane l).barrier.limitDown) = false) :
    limitActive l x s = s := by
  have hno : ¬ ((s.lane l).barrier.state ≠ .fault ∧ (s.lane l).barrier.limitUp = true ∧ (s.lane l).barrier.limitDown = true) := by
    rintro ⟨hf, hu, hd⟩
    rcases h with h | h
    · exact hf h
    · simp [hu, hd] at h
  unfold limitActive
  dsimp only
  rw [if_neg hno]
  split
  · rename_i hstate
    exact absurd hstate (hup rfl)
  · rename_i hstate
    exact absurd hstate (hdown rfl)
  · rfl

/-- Both limits of a barrier that is in no FAULT make one (log 42). -/
theorem limitActive_limitTaken_both (h : (s.lane l).barrier.limitUp = true ∨ (s.lane l).barrier.limitDown = true) {x : Limit}
    (hx : (s.lane l).barrier.limit x = false) (hf : (s.lane l).barrier.state ≠ .fault) :
    limitActive l x (limitTaken l x s) = enterFault l (limitTaken l x s) := by
  have hother : ((s.lane l).barrier.setLimit x true).limitUp = true ∧ ((s.lane l).barrier.setLimit x true).limitDown = true := by
    cases x with
    | up => exact ⟨rfl, h.resolve_left fun hu => absurd (hu.symm.trans hx) (by decide)⟩
    | down => exact ⟨h.resolve_right fun hd => absurd (hd.symm.trans hx) (by decide), rfl⟩
  obtain ⟨hup, hdown⟩ := hother
  refine limitActive_of_both ?_ ?_ ?_ x <;> rw [limitTaken_lane]
  · cases x <;> exact hf
  · exact hup
  · exact hdown

/-- A limit that ends no travel. -/
theorem limitActive_limitTaken_rest {x : Limit} (hup : x = .up → (s.lane l).barrier.state ≠ .raising)
    (hdown : x = .down → (s.lane l).barrier.state ≠ .lowering)
    (h : (s.lane l).barrier.state = .fault ∨ ((s.lane l).barrier.limitUp = false ∧ (s.lane l).barrier.limitDown = false)) :
    limitActive l x (limitTaken l x s) = limitTaken l x s := by
  have hstate : ((limitTaken l x s).lane l).barrier.state = (s.lane l).barrier.state := by
    rw [limitTaken_lane]
    cases x <;> rfl
  refine limitActive_of_rest (by rw [hstate]; exact hup) (by rw [hstate]; exact hdown) ?_
  rw [hstate]
  refine h.imp_right fun hno => ?_
  obtain ⟨hu, hd⟩ := hno
  rw [limitTaken_lane]
  cases x <;> simp [Barrier.setLimit, hu, hd]

theorem endTravel_outsideYard (l : Lane) (st : BarrierState) (e : EventKind) (s : State) :
    (endTravel l st e s).outsideYard = s.outsideYard :=
  (raiseAt_outsideYard _ e l).trans (modLane_outsideYard s l _ rfl)

theorem limitActive_outsideYard (l : Lane) (x : Limit) (s : State) : (limitActive l x s).outsideYard = s.outsideYard := by
  unfold limitActive
  dsimp only
  split
  · exact enterFault_outsideYard s l
  · split
    · exact (reportUp_outsideYard _ l).trans (endTravel_outsideYard l _ _ s)
    · exact (reportDown_outsideYard _ l).trans (endTravel_outsideYard l _ _ s)
    · rfl

/-- The limit inputs are no barrier controller's. -/
theorem limit_of_outsideYard {t : State} (h : t.outsideYard = s.outsideYard) (x : Limit) :
    (t.lane l).barrier.limit x = (s.lane l).barrier.limit x := by
  have hlane := lane_of_outsideYard h l
  have hup := congrArg (fun u => u.barrier.limitUp) hlane
  have hdown := congrArg (fun u => u.barrier.limitDown) hlane
  cases x
  exacts [hup, hdown]

/-! #### The travel that a limit ends -/

/-- The limit's level taken, and the travel ended in a state. -/
def arrived (l : Lane) (x : Limit) (st : BarrierState) (s : State) : State :=
  (limitTaken l x s).modBarrier l fun b => { b with state := st, travelTimer := travelStopped s l b.travelTimer }

theorem endTravel_limitTaken (l : Lane) (x : Limit) (st : BarrierState) (e : EventKind) (s : State) :
    endTravel l st e (limitTaken l x s) = raiseAt e l (arrived l x st s) := rfl

theorem arrived_lane (l : Lane) (x : Limit) (st : BarrierState) (s : State) : (arrived l x st s).lane l =
    { s.lane l with barrier := { (s.lane l).barrier.setLimit x true with
        state := st, travelTimer := travelStopped s l (s.lane l).barrier.travelTimer } } := by
  rw [arrived, modBarrier_lane, limitTaken_lane]
  cases x <;> rfl

/-- The travel's event leaves the barrier where no route of a MANUAL lane moves it. -/
theorem arrived_event_barrier (h : (s.lane l).params.mode ≠ .manual ∨ Unrouted l s.routes.routes) (x : Limit)
    (st : BarrierState) (e : EventKind) : ((raiseAt e l (arrived l x st s)).lane l).barrier = ((arrived l x st s).lane l).barrier :=
  raiseEvent_barrier (s := arrived l x st s) (by rw [arrived_lane]; exact h) e _

theorem arrived_event_params (l : Lane) (x : Limit) (st : BarrierState) (e : EventKind) (s : State) :
    ((raiseAt e l (arrived l x st s)).lane l).params = (s.lane l).params := by
  rw [(raiseAt_aside l e l _).params, arrived_lane]

/-- The travel's event leaves an AUTO lane that is not in OCCUPIED. -/
theorem arrived_event_lane (hm : (s.lane l).params.mode = .auto) (ho : (s.lane l).seqr.state ≠ .occupied) (x : Limit)
    (st : BarrierState) (e : EventKind) : (raiseAt e l (arrived l x st s)).lane l = (arrived l x st s).lane l :=
  raiseEvent_lane_of_auto (s := arrived l x st s) (by rw [arrived_lane]; exact hm) (by rw [arrived_lane]; exact ho) e _

theorem passStarted_arrived (x : Limit) (st : BarrierState) (e : EventKind) (u : Timer) :
    passStarted (raiseAt e l (arrived l x st s)) l u = passStarted s l u := by
  rw [passStarted_of_outsideYard (raiseAt_outsideYard _ e l), passStarted, passStarted, inSec, arrived_lane]
  rfl

/-! #### UP (R105, R113) -/

theorem reportUp_barrier (l : Lane) (s : State) : ((reportUp l s).lane l).barrier = (s.lane l).barrier := by
  unfold reportUp
  split
  · split
    · obtain ⟨x, a, hopen⟩ := enterOpen_lane l s
      rw [hopen]
    · rfl
  · split
    · rw [modSeq_lane]
    · rfl
  · rfl

/-- A raise that its limit ends, reported. -/
def upReported (l : Lane) (s : State) : State := reportUp l (raiseAt .barrierUp l (arrived l .up .up s))

theorem limitActive_limitTaken_up (h : (s.lane l).barrier.state = .raising) (hdown : (s.lane l).barrier.limitDown = false) :
    limitActive l .up (limitTaken l .up s) = upReported l s := by
  rw [limitActive_up, endTravel_limitTaken, upReported] <;> rw [limitTaken_lane]
  exacts [h, hdown]

theorem up_barrier (h : (s.lane l).params.mode ≠ .manual ∨ Unrouted l s.routes.routes) :
    ((upReported l s).lane l).barrier = { (s.lane l).barrier with
      state := .up, travelTimer := travelStopped s l (s.lane l).barrier.travelTimer, limitUp := true } := by
  rw [upReported, reportUp_barrier, arrived_event_barrier h, arrived_lane]
  rfl

/-- UP turns the light of a waiting MANUAL lane green (R113). -/
theorem up_green (hm : (s.lane l).params.mode = .manual) (hw : (s.lane l).seqr.raiseWait = true)
    (hroutes : ∀ p ∈ s.routes.routes, p.2.fires .barrierUp (some l.num) = false) :
    ((upReported l s).lane l).seqr =
      { (s.lane l).seqr with light := .green, raiseWait := false } := by
  have hsame : raiseAt .barrierUp l (arrived l .up .up s) = arrived l .up .up s := raiseEvent_of_none _ _ _ hroutes
  have hlane := arrived_lane l .up .up s
  rw [upReported, hsame, reportUp, hlane]
  simp [hm, hw, hlane]

/-- UP opens an AUTO lane that is RELEASING (R105). -/
theorem up_releasing (hm : (s.lane l).params.mode = .auto) (hr : (s.lane l).seqr.state = .releasing) :
    ((upReported l s).lane l).seqr = if (s.lane l).sensors.loopOccupied = true then
      { (s.lane l).seqr with
        state := .passing, light := .green, passageArmed := true
        passTimer := passStopped s l (s.lane l).seqr.passTimer }
    else { (s.lane l).seqr with
      state := .opened, light := .green, passTimer := passStarted s l (s.lane l).seqr.passTimer } := by
  have hlane := arrived_event_lane hm (fun ho => absurd (hr.symm.trans ho) (by decide)) .up .up .barrierUp
  have hstarted := passStarted_arrived (s := s) (l := l) .up .up .barrierUp (s.lane l).seqr.passTimer
  have hstopped : passStopped (raiseAt .barrierUp l (arrived l .up .up s)) l (s.lane l).seqr.passTimer =
      passStopped s l (s.lane l).seqr.passTimer := passStopped_of_outsideYard (raiseAt_outsideYard (arrived l .up .up s) .barrierUp l) _
  rw [arrived_lane] at hlane
  unfold upReported
  generalize raiseAt .barrierUp l (arrived l .up .up s) = x at hlane hstarted hstopped ⊢
  have hopen : reportUp l x = enterOpen l x := by simp [reportUp, hlane, hm, hr]
  rw [hopen, enterOpen, hlane]
  split
  · rw [modSeq_lane, hlane]
    simp [hstopped]
  · rw [modSeq_lane, hlane]
    simp [hstarted]

/-! #### DOWN (R108) -/

/-- A lower that its limit ends, reported. -/
def downReported (l : Lane) (s : State) : State := reportDown l (raiseAt .barrierDown l (arrived l .down .down s))

theorem limitActive_limitTaken_down (h : (s.lane l).barrier.state = .lowering) (hup : (s.lane l).barrier.limitUp = false) :
    limitActive l .down (limitTaken l .down s) = downReported l s := by
  rw [limitActive_down, endTravel_limitTaken, downReported] <;> rw [limitTaken_lane]
  exacts [h, hup]

theorem reportDown_of_closing (hm : (s.lane l).params.mode = .auto) (hc : (s.lane l).seqr.state = .closing) :
    reportDown l s = closingDone l s := if_pos ⟨hm, hc⟩

theorem reportDown_of_other (h : (s.lane l).params.mode ≠ .auto ∨ (s.lane l).seqr.state ≠ .closing) : reportDown l s = s :=
  if_neg fun ⟨hm, hc⟩ => h.elim (absurd hm) (absurd hc)

/-- Where no sequencer waits for the arm, DOWN ends the travel alone. -/
theorem down_barrier (h : (s.lane l).params.mode = .closed ∨ ((s.lane l).params.mode = .manual ∧ Unrouted l s.routes.routes)
    ∨ ((s.lane l).params.mode = .auto ∧ (s.lane l).seqr.state ≠ .closing)) :
    ((downReported l s).lane l).barrier = { (s.lane l).barrier with
      state := .down, travelTimer := travelStopped s l (s.lane l).barrier.travelTimer, limitDown := true } := by
  have hstill : (s.lane l).params.mode ≠ .manual ∨ Unrouted l s.routes.routes := by
    rcases h with hm | ⟨-, hu⟩ | ⟨hm, -⟩
    exacts [.inl (by rw [hm]; decide), .inr hu, .inl (by rw [hm]; decide)]
  have hother : ((raiseAt .barrierDown l (arrived l .down .down s)).lane l).params.mode ≠ .auto
      ∨ ((raiseAt .barrierDown l (arrived l .down .down s)).lane l).seqr.state ≠ .closing := by
    rw [arrived_event_params]
    rcases h with hm | ⟨hm, -⟩ | ⟨hm, hc⟩
    · exact .inl (by rw [hm]; decide)
    · exact .inl (by rw [hm]; decide)
    · exact .inr (raiseEvent_not_closing (s := arrived l .down .down s) (by rw [arrived_lane]; exact hm)
        (by rw [arrived_lane]; exact hc) _ _)
  rw [downReported, reportDown_of_other hother, arrived_event_barrier hstill, arrived_lane]
  rfl

/-- OCCUPIED as an entry shows a red light while the arm is not UP (R100). -/
theorem enterOccupied_red_of_not_up (h : (s.lane l).barrier.state ≠ .up) : ((enterOccupied l s).lane l).seqr.light = .red := by
  have hlane := modSeq_lane s l fun q => { q with state := .occupied, light := .red }
  unfold enterOccupied actInOccupied
  generalize s.modSeq l (fun q => { q with state := .occupied, light := .red }) = x at hlane ⊢
  have hred : (x.lane l).seqr.light = .red := by rw [hlane]
  split
  · split
    · exact (autoStart_lit l x).2.trans hred
    · exact hred
  · rw [enterReleasing_of_not_up (by rw [hlane]; exact h), raiseRequest_lane, modSeq_lane]
  · unfold enterHeld lowerUnlessDown
    split
    · rw [modSeq_lane]
    · rw [lowerRequest_lane, modSeq_lane]
  · exact hred

/-- What DOWN leaves of a CLOSING lane: a red light, IDLE on a clear deck, OCCUPIED on an occupied one where nothing waits to
act there (R108). -/
theorem down_closing (hm : (s.lane l).params.mode = .auto) (hc : (s.lane l).seqr.state = .closing) :
    ((downReported l s).lane l).seqr.light = .red
    ∧ ((s.lane l).seqr.occupied = false → ((downReported l s).lane l).seqr.state = .idle
      ∧ ((downReported l s).lane l).barrier = { (s.lane l).barrier with
          state := .down, travelTimer := travelStopped s l (s.lane l).barrier.travelTimer, limitDown := true })
    ∧ ((s.lane l).seqr.occupied = true → (s.lane l).params.autoCapture = false →
        headClass s l = .capturable ∨ headClass s l = .none → ((downReported l s).lane l).seqr.state = .occupied) := by
  have hlane := arrived_event_lane hm (fun ho => absurd (hc.symm.trans ho) (by decide)) .down .down .barrierDown
  rw [arrived_lane] at hlane
  unfold downReported
  generalize raiseAt .barrierDown l (arrived l .down .down s) = x at hlane ⊢
  have hclass : headClass x l = headClass s l := by rw [headClass, headClass, hlane]
  rw [reportDown_of_closing (by rw [hlane]; exact hm) (by rw [hlane]; exact hc), closingDone, hlane]
  dsimp only
  split
  · rename_i hoccupied
    refine ⟨enterOccupied_red_of_not_up (by rw [hlane]; simp), fun hclear => ?_, fun _ ha hh => ?_⟩
    · exact absurd (hclear.symm.trans hoccupied) (by decide)
    · rw [enterOccupied_of_autoCapture_off (s := x) (by rw [hclass]; exact hh) (by rw [hlane]; exact ha), modSeq_lane]
  · rename_i hclear
    refine ⟨?_, fun _ => ?_, fun hoccupied => absurd hoccupied hclear⟩
    · rw [enterIdle_lane]
    · rw [enterIdle_lane, hlane]
      exact ⟨rfl, rfl⟩

end Faults

/-! ### The lane timers (R109, R110, R117, log 51) -/

section LaneTimers

variable {s : State} {l : Lane}

theorem running_iff {u : Timer} : u.running = true ↔ u.deadline ≠ none := by
  unfold Timer.running
  cases u.deadline <;> simp

/-! #### An expiry of an ended run, and one that is due (log 51) -/

theorem exec_travelTimeout_late (h : 0 < (s.lane l).barrier.travelTimer.late) : exec (.travelTimeout l) s =
    .next (s.modBarrier l fun b => { b with travelTimer := b.travelTimer.forget }) := by
  change execTravelTimeout l s = _
  exact whenDue_of_late s h _ _

theorem exec_passTimeout_late (h : 0 < (s.lane l).seqr.passTimer.late) : exec (.passTimeout l) s =
    .next (s.modSeq l fun q => { q with passTimer := q.passTimer.forget }) := by
  change execPassTimeout l s = _
  exact whenDue_of_late s h _ _

theorem exec_unannouncedOccupancyTimeout_late (h : 0 < (s.lane l).seqr.unannouncedLate) :
    exec (.unannouncedOccupancyTimeout l) s =
      .next (s.modSeq l fun q => { q with unannouncedLate := q.unannouncedLate - 1 }) := by
  change execUnannouncedOccupancyTimeout l s = _
  exact whenDue_of_late s h _ _

theorem exec_travelTimeout_due (hpower : s.power = true) (h : (s.lane l).barrier.travelTimer.late = 0) :
    exec (.travelTimeout l) s =
      .next (if (s.lane l).barrier.travelTimer.running = true then enterFault l s else s) := by
  change execTravelTimeout l s = _
  unfold execTravelTimeout
  rw [h, whenDue_of_due, whenRunning, if_pos hpower]

theorem exec_passTimeout_due (hpower : s.power = true) (h : (s.lane l).seqr.passTimer.late = 0) :
    exec (.passTimeout l) s = .next (if (s.lane l).seqr.passTimer.running = true then
      if (s.lane l).seqr.occupied = true then passAgain l s else stallLane l s else s) := by
  change execPassTimeout l s = _
  unfold execPassTimeout
  rw [h, whenDue_of_due, whenRunning, if_pos hpower]

theorem exec_unannouncedOccupancyTimeout_of_running (hpower : s.power = true) (h : (s.lane l).seqr.unannouncedLate = 0)
    {k : Nat} (hk : (s.lane l).seqr.unannounced = .running k) : exec (.unannouncedOccupancyTimeout l) s =
      .next (raiseLaneOffice .lane l (s.modSeq l fun q => { q with unannounced := .spent false false })) := by
  change execUnannouncedOccupancyTimeout l s = _
  unfold execUnannouncedOccupancyTimeout
  rw [h, whenDue_of_due, whenRunning, if_pos hpower, hk]

theorem exec_unannouncedOccupancyTimeout_of_ended (hpower : s.power = true) (h : (s.lane l).seqr.unannouncedLate = 0)
    (hn : ∀ k, (s.lane l).seqr.unannounced ≠ .running k) : exec (.unannouncedOccupancyTimeout l) s = .next s := by
  change execUnannouncedOccupancyTimeout l s = _
  unfold execUnannouncedOccupancyTimeout
  rw [h, whenDue_of_due, whenRunning, if_pos hpower]
  split
  · rename_i k hk
    exact absurd hk (hn k)
  all_goals rfl

/-! #### The pass timer (R109) -/

theorem passAgain_outsideYard (l : Lane) (s : State) : (passAgain l s).outsideYard = s.outsideYard :=
  (modSeq_outsideYard _ l _ rfl).trans (raiseLaneOffice_outsideYard s .lane l)

theorem passAgain_noticed (l : Lane) (s : State) :
    Noticed (passAgain l s) .lane (.lane l) ∧ Noticed (passAgain l s) .lane .office :=
  noticed_raiseLaneOffice .lane l s

theorem passAgain_lane (l : Lane) (s : State) : (passAgain l s).lane l = { s.lane l with seqr := { (s.lane l).seqr with
    passTimer := passStarted s l (s.lane l).seqr.passTimer } } := modSeq_lane (raiseLaneOffice .lane l s) l _

/-- The stall reported, before the lane closes. -/
def stallReported (l : Lane) (s : State) : State := raiseLaneOffice .lane l (raiseAt .laneStalled l (unreleased l s))

theorem stallLane_eq (l : Lane) (s : State) : stallLane l s = enterClosing l (stallReported l s) := rfl

theorem stallReported_outsideYard (l : Lane) (s : State) : (stallReported l s).outsideYard = s.outsideYard :=
  (raiseLaneOffice_outsideYard _ .lane l).trans ((raiseAt_outsideYard _ .laneStalled l).trans (modSeq_outsideYard s l _ rfl))

theorem stallReported_aside (l : Lane) (s : State) : Aside l (unreleased l s) (stallReported l s) :=
  (raiseAt_aside l .laneStalled l _).trans (raiseLaneOffice_aside l .lane l _)

theorem stallLane_outsideYard (l : Lane) (s : State) : (stallLane l s).outsideYard = s.outsideYard :=
  (enterClosing_outsideYard _ l).trans (stallReported_outsideYard l s)

theorem enterClosing_grows (l : Lane) (s : State) : NoticesGrow s (enterClosing l s) :=
  .of_ports ((enterClosing_laneOp l).works s).ports

theorem stallLane_noticed (l : Lane) (s : State) :
    Noticed (stallLane l s) .lane (.lane l) ∧ Noticed (stallLane l s) .lane .office := by
  obtain ⟨hlane, hoffice⟩ := noticed_raiseLaneOffice .lane l (raiseAt .laneStalled l (unreleased l s))
  exact ⟨enterClosing_grows l _ _ _ hlane, enterClosing_grows l _ _ _ hoffice⟩

/-- A stall over a clear deck closes the lane (R109). -/
theorem stallLane_closes (ho : (s.lane l).seqr.occupied = false) :
    ((stallLane l s).lane l).seqr.passTimer = passStopped s l (s.lane l).seqr.passTimer
    ∧ ((stallLane l s).lane l).seqr.released = none ∧ ((stallLane l s).lane l).seqr.light = .red
    ∧ (((stallLane l s).lane l).seqr.state = .closing ∨ ((stallLane l s).lane l).seqr.state = .idle) := by
  have haside := (stallReported_aside l s).lane
  rw [unreleased_lane] at haside
  have hpass := congrArg (fun u => u.seqr.passTimer) haside
  have hoccupied := congrArg (fun u => u.seqr.occupied) haside
  have hsame : ((stallReported l s).lane l).seqr.passTimer = (s.lane l).seqr.passTimer := hpass
  rw [stallLane_eq, enterClosing_seqr (Eq.trans hoccupied ho), hsame, passStopped_of_outsideYard (stallReported_outsideYard l s)]
  refine ⟨rfl, rfl, rfl, ?_⟩
  dsimp only
  split
  exacts [.inr rfl, .inl rfl]

/-! #### The unannounced occupancy timer (R110) -/

/-- A timer that has expired runs again only after both its conditions have ended (R110, log 17). -/
theorem spent_sync (deckEnded queueEnded occupied empty : Bool) (deadline : Nat) :
    (UnannouncedTimer.spent deckEnded queueEnded).sync occupied empty deadline =
      if (deckEnded || !occupied) = true ∧ (queueEnded || !empty) = true then .stopped
      else .spent (deckEnded || !occupied) (queueEnded || !empty) := by
  simp only [UnannouncedTimer.sync, Bool.and_eq_true]

end LaneTimers

/-! ### The statement -/

section Taken

variable {s : State} {l : Lane}

theorem exec_beamFilterChange (hpower : s.power = true) (x : Beam) (b : Bool) :
    exec (.beamFilterChange l x b) s = .next (s.modSensors l fun y => y.setBeam x b) := by
  change execBeamFilterChange l x b s = _
  rw [execBeamFilterChange, whenRunning, if_pos hpower]

theorem exec_loopFilterChange_same {b : Bool} (hpower : s.power = true) (h : (s.lane l).sensors.loopOccupied = b) :
    exec (.loopFilterChange l b) s = .next s := by
  change execLoopFilterChange l b s = _
  rw [execLoopFilterChange, whenRunning, if_pos hpower, if_pos h]

/-- Settles O58: the inputs and timers of a lane one by one. -/
theorem laneInputsAndTimersAreTaken : Obligations.LaneInputsAndTimersAreTaken := by
  intro s l hpower br started stopped pass unrouted
  refine ⟨fun b => ⟨?_, ?_⟩, fun b h => ?_, fun b h => ?_, fun x b h => exec_barrierLimitChange_same h,
    fun x h => exec_barrierLimitChange_inactive h, fun x h hup hdown hrest => ?_, fun x h => ?_,
    fun h => exec_travelTimeout_late h, fun h hd => ?_, fun h hd => ?_, fun h => ?_, fun h hd => ?_, fun h hd => ?_,
    fun h => exec_unannouncedOccupancyTimeout_late h, fun h hn => ?_, fun h hr => ?_, fun de qe oc em dl => ?_⟩
  · exact exec_beamFilterChange hpower .beam1 b
  · exact exec_beamFilterChange hpower .beam2 b
  · exact exec_loopFilterChange_same hpower h
  · obtain ⟨hsensors, hparams⟩ := loopChange_shown l b s
    refine ⟨_, exec_loopFilterChange hpower h, hsensors, hparams, ?_, ?_, ?_, loopChange_keeps l b s⟩
    · rintro rfl hl hm
      exact loopOccupied_barrier hl hm
    · rintro rfl hs hp hm
      exact loopClear_barrier hs hp hm
    · rintro rfl hm ho
      rw [loopOccupied_opened hm ho]
      exact ⟨rfl, rfl, rfl⟩
  · rw [exec_barrierLimitChange_active hpower h, limitActive_limitTaken_rest hup hdown hrest]
    rfl
  · refine ⟨_, exec_barrierLimitChange_active hpower h, ?_, limitActive_outsideYard l x _, ?_, ?_, ?_, ?_, ?_, ?_⟩
    · rw [limit_of_outsideYard (limitActive_outsideYard l x _), limitTaken_limit]
    · rintro rfl hd hs hm
      rw [limitActive_limitTaken_up hs hd]
      exact up_barrier (hm.imp (fun hc => by rw [hc]; decide) fun hu => hu.2)
    · rintro rfl hd hs hm hw hroutes
      rw [limitActive_limitTaken_up hs hd]
      exact up_green hm hw hroutes
    · rintro rfl hd hs hm
      rw [limitActive_limitTaken_up hs hd]
      refine ⟨up_barrier (.inl (by rw [hm]; decide)), fun hr => ?_⟩
      rw [up_releasing hm hr]
      refine ⟨by split <;> rfl, fun ho => ?_, fun ho => ?_⟩
      · rw [if_pos ho]
        exact ⟨rfl, rfl⟩
      · rw [ho]
        exact ⟨rfl, rfl⟩
    · rintro rfl hu hs hm hc
      rw [limitActive_limitTaken_down hs hu]
      exact down_closing hm hc
    · rintro rfl hu hs hm
      rw [limitActive_limitTaken_down hs hu]
      exact down_barrier hm
    · intro hboth hf
      rw [limitActive_limitTaken_both hboth h hf, enterFault_barrier, limitTaken_lane]
      refine ⟨rfl, ?_, enterFault_noticed l _⟩
      cases x <;> rfl
  · rw [exec_travelTimeout_due hpower h, if_neg (mt running_iff.1 (not_not.2 hd))]
  · rw [exec_travelTimeout_due hpower h, if_pos (running_iff.2 hd)]
    exact ⟨_, rfl, enterFault_outsideYard s l, enterFault_barrier l s, enterFault_held, enterFault_noticed l s⟩
  · rw [exec_passTimeout_late h]
    exact congrArg _ (modSeq_congr s l rfl)
  · rw [exec_passTimeout_due hpower h, if_neg (mt running_iff.1 (not_not.2 hd))]
  · rw [exec_passTimeout_due hpower h, if_pos (running_iff.2 hd)]
    by_cases ho : (s.lane l).seqr.occupied = true
    · obtain ⟨hlane, hoffice⟩ := passAgain_noticed l s
      rw [if_pos ho]
      exact ⟨_, rfl, passAgain_outsideYard l s, hlane, hoffice, fun _ => passAgain_lane l s, fun hc => absurd (ho.symm.trans hc) (by decide)⟩
    · obtain ⟨hlane, hoffice⟩ := stallLane_noticed l s
      rw [if_neg ho]
      exact ⟨_, rfl, stallLane_outsideYard l s, hlane, hoffice, fun hc => absurd hc ho, stallLane_closes⟩
  · exact exec_unannouncedOccupancyTimeout_of_ended hpower h hn
  · obtain ⟨k, hk⟩ := hr
    exact exec_unannouncedOccupancyTimeout_of_running hpower h hk
  · dsimp only
    rw [spent_sync]
    have hd : ((de || !oc) = true) ↔ (de = true ∨ oc = false) := by simp
    have hq : ((qe || !em) = true) ↔ (qe = true ∨ em = false) := by simp
    rw [← hd, ← hq]
    exact ⟨fun hended => if_pos hended, fun hnot => ⟨_, _, if_neg hnot, Iff.rfl, Iff.rfl⟩⟩

end Taken
end Sys2Proof.Machine

/-! PROOFS, 07_tickets_and_the_journal (R131, R133) and 11_clock_retained_memory_and_start_up (R186). Why the journal and the
writer do not stay consistent from every consistent state. -/

namespace Sys2Proof.Machine
open Sys2Proof

section UnguardedWaitingRequest

/-- A floor write in flight with a site number request in the place of a waiting floor request: `StoreOk` says nothing of what
waits in that place, and no sequence of commands from reset puts another request than a floor there (R186). -/
def strayRequest : State :=
  { State.reset with
      tickets := { State.reset.tickets with floorWrite := some { value := 257, retry := false } }
      nv := { State.reset.nv with inFlight := some (.floor 257), waitingFloor := some (.site 5) }
      pending := [.floorWriteEnd true] }

theorem strayRequest_storeOk : StoreOk strayRequest := by
  have hstaged : strayRequest.cal.staged = none := rfl
  have hsite : siteWritePending strayRequest = false := rfl
  have hretry : retryPending strayRequest = false := rfl
  have hcal : calWritePending strayRequest = false := rfl
  have hwaits : strayRequest.nv.waitingOffice = none := rfl
  exact ⟨reset_journalOk, by simp [WriterOk, hstaged, hsite, hretry, hcal, hwaits]⟩

/-- The state after the floor write's end: the arbiter has served the stray request. -/
def strayServed : State :=
  nvServe (floorOutcome { value := 257, retry := false } true (nvEnd true { strayRequest with pending := [] }))

theorem strayRequest_step : step strayRequest = .next strayServed := rfl

theorem strayServed_sitePending : siteWritePending strayServed = true := rfl

theorem strayServed_idle : (strayServed.port .office).busy = false := rfl

/-- Refutes O7: the invariant leaves open which request waits in the place of a floor request. From `strayRequest` the end of
the floor write has the arbiter serve a site number request, and the office port is not busy with it. -/
theorem not_stepKeepsJournalAndWriter : ¬ Obligations.StepKeepsJournalAndWriter := by
  intro hkeeps
  obtain ⟨-, -, -, hbusy, -⟩ := hkeeps strayRequest strayServed strayRequest_storeOk strayRequest_step
  have hset := hbusy (.inr (.inl strayServed_sitePending))
  exact absurd (strayServed_idle.symm.trans hset) (by decide)

end UnguardedWaitingRequest

end Sys2Proof.Machine

/-! PROOFS, 07_tickets_and_the_journal (R138, R139). Who sees which journal entry, and what a read gives a port. -/

namespace Sys2Proof.Machine
open Sys2Proof

section Reading

variable {s : State} {p q : PortId} {j : Journal}

/-! ### The read as one search from its start (R138) -/

/-- Where a read of the port starts: at its cursor, or at the oldest retained sequence beyond it. -/
def readStart (s : State) (p : PortId) : Nat := max (s.port p).journalCursor (oldestRetained s.journal)

theorem journalRead_eq (s : State) (p : PortId) :
    journalRead s p = (readStart s p - (s.port p).journalCursor, readFrom s.journal p 1025 (readStart s p)) := by
  have hstart : (if (s.port p).journalCursor < oldestRetained s.journal then oldestRetained s.journal
      else (s.port p).journalCursor) = readStart s p := by
    unfold readStart
    split <;> omega
  unfold journalRead
  dsimp only
  rw [hstart]

/-- The lost count is worked out from the cursor alone, for whatever port it is. -/
theorem journalRead_lost_congr (h : (s.port p).journalCursor = (s.port q).journalCursor) :
    (journalRead s p).1 = (journalRead s q).1 := by
  simp only [journalRead_eq, readStart, h]

/-- Of a port a read looks at the cursor and nothing else. -/
theorem journalRead_modPort {f : Port → Port} (h : (f (s.port p)).journalCursor = (s.port p).journalCursor) :
    journalRead (s.modPort p f) p = journalRead s p := by
  have hcursor : ((s.modPort p f).port p).journalCursor = (s.port p).journalCursor := by rw [modPort_port, h]
  have hjournal : (s.modPort p f).journal = s.journal := rfl
  simp only [journalRead_eq, readStart, hcursor, hjournal]

/-! ### Who sees which entry (R139) -/

theorem portSees_ticket_iff (l : Lane) (t : TicketRecord) : portSees (.lane l) (.ticket t) = true ↔ t.lane = l := by
  simp [portSees]

theorem portSees_void_iff (l : Lane) (v : Nat) (w : Stamp) (k : Option Lane) :
    portSees (.lane l) (.void v w k) = true ↔ k = some l := by simp [portSees]

/-- Settles O19: by the kind of entry; the lost count reads the cursor, which the grant is no part of. -/
theorem lanePortsSeeTheirOwnEntries : Obligations.LanePortsSeeTheirOwnEntries :=
  ⟨fun _ => rfl, portSees_ticket_iff, portSees_void_iff, fun _ _ _ => rfl, fun _ _ _ => rfl, fun _ _ _ => rfl,
    fun _ _ _ => journalRead_lost_congr, fun _ _ _ => journalRead_modPort rfl⟩

/-! ### The first entry seen (R138) -/

/-- What a search of the journal from a sequence number finds for a port: the first entry from there that the port sees, with
the number after it, or none up to the last. -/
def FindsFirst (j : Journal) (p : PortId) (start : Nat) (found : Option JournalEntry × Nat) : Prop :=
  (∀ e, found.1 = some e → start ≤ e.seq ∧ retainedEntry j e.seq = some e ∧ portSees p e.body = true
      ∧ found.2 = e.seq + 1
      ∧ ∀ n x, start ≤ n → n < e.seq → retainedEntry j n = some x → portSees p x.body = false)
  ∧ (found.1 = none → found.2 = j.last + 1
      ∧ ∀ n x, start ≤ n → retainedEntry j n = some x → portSees p x.body = false)

theorem retainedEntry_seq {n : Nat} {e : JournalEntry} (h : retainedEntry j n = some e) : e.seq = n := by
  unfold retainedEntry at h
  split at h
  · split at h
    · split at h
      · cases h
        assumption
      · cases h
    · cases h
  · cases h

theorem retainedEntry_le_last {n : Nat} {e : JournalEntry} (h : retainedEntry j n = some e) : n ≤ j.last := by
  unfold retainedEntry at h
  split at h
  · rename_i hrange
    exact hrange.2
  · cases h

/-- An entry that the port sees ends the search. -/
theorem FindsFirst.here {start : Nat} {e : JournalEntry} (he : retainedEntry j start = some e)
    (hseen : portSees p e.body = true) : FindsFirst j p start (some e, start + 1) := by
  have hseq := retainedEntry_seq he
  subst hseq
  refine ⟨fun x hx => ?_, fun hnone => nomatch hnone⟩
  obtain rfl : e = x := Option.some.inj hx
  exact ⟨Nat.le_refl _, he, hseen, rfl, fun n y hn hlt => absurd hn (Nat.not_le.2 hlt)⟩

/-- An entry passed over does not change what the search finds after it. -/
theorem FindsFirst.passed {start : Nat} {x : JournalEntry} {found : Option JournalEntry × Nat}
    (hx : retainedEntry j start = some x) (hunseen : portSees p x.body = false) (h : FindsFirst j p (start + 1) found) :
    FindsFirst j p start found := by
  have passed : ∀ n y, start ≤ n → retainedEntry j n = some y → (start + 1 ≤ n → portSees p y.body = false) →
      portSees p y.body = false := fun n y hn hy hlater => by
    rcases Nat.eq_or_lt_of_le hn with heq | hlt
    · subst heq
      cases hx.symm.trans hy
      exact hunseen
    · exact hlater hlt
  obtain ⟨hsome, hnone⟩ := h
  refine ⟨fun e he => ?_, fun hn => ?_⟩
  · obtain ⟨hle, hretained, hseen, hnext, hbefore⟩ := hsome e he
    exact ⟨by omega, hretained, hseen, hnext, fun n y hn hlt hy => passed n y hn hy fun hlater => hbefore n y hlater hlt hy⟩
  · obtain ⟨hnext, hafter⟩ := hnone hn
    exact ⟨hnext, fun n y hle hy => passed n y hle hy fun hlater => hafter n y hlater hy⟩

/-- With every sequence number from the start to the last retained, a search whose fuel reaches past the last finds what
R138 says. -/
theorem readFrom_findsFirst (fuel : Nat) {start : Nat}
    (hretained : ∀ n, start ≤ n → n ≤ j.last → (retainedEntry j n).isSome = true) (hstart : start ≤ j.last + 1)
    (hfuel : j.last + 1 < start + fuel) : FindsFirst j p start (readFrom j p fuel start) := by
  induction fuel generalizing start with
  | zero => omega
  | succ fuel ih =>
    unfold readFrom
    split
    · rename_i hnone
      have hlast : start = j.last + 1 := by
        by_contra hne
        have hsome := hretained start (Nat.le_refl _) (by omega)
        rw [hnone] at hsome
        cases hsome
      refine ⟨fun e he => (nomatch he), fun _ => ⟨hlast, fun n x hn hx => ?_⟩⟩
      have hle := retainedEntry_le_last hx
      omega
    · rename_i e he
      have hlast := retainedEntry_le_last he
      split
      · rename_i hseen
        exact .here he hseen
      · rename_i hunseen
        exact (ih (fun n hn => hretained n (by omega)) (by omega) (by omega)).passed he (by simpa using hunseen)

/-- Settles O18: the read starts within the retained numbers, at most 1024 of them, and the search has fuel for one more. -/
theorem journalReadFindsTheFirstSeenEntry : Obligations.JournalReadFindsTheFirstSeenEntry := by
  intro s p hok hcursor start r
  obtain ⟨hretained, -, -, -, -⟩ := hok
  have holdest := oldestRetained_eq s.journal
  have hfound : FindsFirst s.journal p (readStart s p) (readFrom s.journal p 1025 (readStart s p)) := by
    refine readFrom_findsFirst 1025 (fun n hn => hretained n ((Nat.le_max_right _ _).trans hn)) ?_ ?_ <;>
      unfold readStart <;> omega
  have hr : r = (readStart s p - (s.port p).journalCursor, readFrom s.journal p 1025 (readStart s p)) :=
    journalRead_eq s p
  rw [hr]
  exact ⟨rfl, hfound⟩

end Reading

end Sys2Proof.Machine

/-! PROOFS, 02_calibration_zero_setting_and_the_metrology_lock (R36, R41), 07_tickets_and_the_journal (R123, R124) and
10_master_ports (R170). The three office commands that begin a non-volatile write. -/

namespace Sys2Proof.Machine
open Sys2Proof

section OfficeWrites

variable {s t : State} {d : Deck} {b : Byte}

/-- The writer reads nothing of the ports. -/
theorem nvRequest_modPort (r : NvRequest) (s : State) (p : PortId) (f : Port → Port) :
    nvRequest r (s.modPort p f) = (nvRequest r s).modPort p f := by
  unfold nvRequest
  rw [modPort_nv]
  split
  · rfl
  · split <;> rfl

/-- A write that begins leaves its port busy, whether the exchange is begun before or after it. -/
theorem setBusy_nvRequest_beginExchange (r : NvRequest) (s : State) (p : PortId) :
    setBusy p (nvRequest r (beginExchange p s)) = beginExchange p (setBusy p (nvRequest r s)) := by
  unfold setBusy beginExchange
  rw [nvRequest_modPort, modPort_modPort, modPort_modPort]

/-- BUSY answered at a port that has become busy (R170). -/
theorem setBusy_answer (s : State) (p : PortId) (c : Byte) :
    (setBusy p s).answer p c .busy = s.modPort p fun x => { x.answered c .busy with busy := true } :=
  modPort_modPort s p _ _

/-! ### CAL END of a changed copy (R36) -/

section CalEnd

variable (h : Takes s .office) (hd : Idx.ofNat? b.toNat = some d) (hphase : (s.deck d).phase = .calibrating)
  {r : CalRecord} (hw : s.cal.working.get d = some r)
include h hd hphase hw

/-- CAL END of an open session answers what `calEnd` does of the working copy. -/
theorem exec_calEnd {a : Result} (hc : calEnd .office r d (beginExchange .office s) = (a, beginExchange .office t)) :
    exec (.calEnd .office b) s = .next (t.answer .office 0x74#8 a) :=
  inSession_eq_answer h _ hd hphase ((congrArg (calEnd .office · d (beginExchange .office s))
    (recordInUse_of_working hphase hw)).trans hc)

end CalEnd

/-- The state with its reservation and its staged record, before the request reaches the writer (R36). -/
def staging (d : Deck) (r : CalRecord) (s : State) : State :=
  (s.setJournal { s.journal with reservations := s.journal.reservations + 1 }).setCal
    { s.cal with staged := some (stagedOf s d (s.cal.stored.get d) r) }

theorem beginStore_beginExchange (d : Deck) (r : CalRecord) (s : State) :
    beginStore .office d r (beginExchange .office s) =
      beginExchange .office (setBusy .office (nvRequest (.cal d r (s.cal.audit + 1)) (staging d r s))) :=
  setBusy_nvRequest_beginExchange (.cal d r (s.cal.audit + 1)) (staging d r s) .office

theorem calEnd_begins {r : CalRecord} (hr : r ≠ s.cal.stored.get d) (hroom : ticketRoom s.journal = true)
    (haudit : s.cal.audit < 65535) : calEnd .office r d s = (.busy, beginStore .office d r s) := by
  unfold calEnd
  rw [if_neg hr, if_neg (by simp [hroom]), if_neg (Nat.not_le.2 haudit)]

theorem calEnd_full {r : CalRecord} (hr : r ≠ s.cal.stored.get d) (hroom : ticketRoom s.journal = false) :
    calEnd .office r d s = (.full, s) := by
  unfold calEnd
  rw [if_neg hr, if_pos (by simp [hroom])]

theorem calEnd_locked {r : CalRecord} (hr : r ≠ s.cal.stored.get d) (hroom : ticketRoom s.journal = true)
    (haudit : 65535 ≤ s.cal.audit) : calEnd .office r d s = (.locked, s) := by
  unfold calEnd
  rw [if_neg hr, if_neg (by simp [hroom]), if_pos haudit]

/-! ### WRITE SITE NUMBER (R41) -/

theorem exec_writeSiteNumber (h : Takes s .office) {n : BitVec 16} {a : Result}
    (hc : writeSiteNumber .office n.toNat (beginExchange .office s) = (a, beginExchange .office t)) :
    exec (.writeSiteNumber .office n) s = .next (t.answer .office 0x7C#8 a) := command_eq_answer h _ rfl hc

theorem writeSiteNumber_begins {n : Nat} (hlow : n ≠ 0) (hhigh : n < 65536) (hsite : s.cal.site = none) :
    writeSiteNumber .office n s = (.busy, setBusy .office (nvRequest (.site n) s)) := by
  unfold writeSiteNumber
  rw [if_neg (by omega), if_neg (by simp [hsite])]

theorem writeSiteNumber_locked {n : Nat} (hlow : n ≠ 0) (hhigh : n < 65536) (hsite : s.cal.site ≠ none) :
    writeSiteNumber .office n s = (.locked, s) := by
  unfold writeSiteNumber
  rw [if_neg (by omega), if_pos (Option.isSome_iff_ne_none.2 hsite)]

/-! ### RETRY STORE (R124) -/

theorem exec_retryStore (h : Takes s .office) {a : Result}
    (hc : retryStore .office (beginExchange .office s) = (a, beginExchange .office t)) :
    exec (.retryStore .office) s = .next (t.answer .office 0x7D#8 a) := command_eq_answer h _ rfl hc

theorem retryStore_begins (hfault : s.nv.storeFault = true) (hnone : s.tickets.floorWrite = none) :
    retryStore .office s = (.busy, setBusy .office (requestFloorWrite true s)) := by
  simp [retryStore, hfault, hnone]

theorem retryStore_refused (h : s.nv.storeFault = false ∨ s.tickets.floorWrite ≠ none) :
    retryStore .office s = (.state, s) := by
  unfold retryStore
  rcases h with hfault | hwrite
  · rw [if_pos (by simp [hfault])]
  · rw [if_pos (Option.isSome_iff_ne_none.2 hwrite), ite_self]

/-- Settles O49: each command by the lemma of its body; a write that begins answers BUSY at a busy port. -/
theorem officeWritesBegin : Obligations.OfficeWritesBegin := by
  intro s h busy
  refine ⟨fun b d r hd hphase hw => ?_, fun n => ⟨fun hn hsite => ?_, fun hn => ?_, fun hn hsite => ?_⟩,
    fun hfault hnone => ?_, fun hno => ?_⟩
  · intro old c hr
    refine ⟨fun hroom haudit => ?_, fun hroom => ?_, fun hroom haudit => ?_⟩
    · rw [exec_calEnd h hd hphase hw ((calEnd_begins (s := beginExchange .office s) hr hroom haudit).trans
        (congrArg (Prod.mk Result.busy) (beginStore_beginExchange d r s))), setBusy_answer]
      rfl
    · exact exec_calEnd h hd hphase hw (calEnd_full (s := beginExchange .office s) hr hroom)
    · exact exec_calEnd h hd hphase hw (calEnd_locked (s := beginExchange .office s) hr hroom haudit)
  · rw [exec_writeSiteNumber h ((writeSiteNumber_begins (s := beginExchange .office s) hn n.isLt hsite).trans
      (congrArg (Prod.mk Result.busy) (setBusy_nvRequest_beginExchange _ s _))), setBusy_answer]
  · exact exec_writeSiteNumber h (if_pos (.inl (by omega)))
  · exact exec_writeSiteNumber h (writeSiteNumber_locked (s := beginExchange .office s) hn n.isLt hsite)
  · rw [exec_retryStore h ((retryStore_begins (s := beginExchange .office s) hfault hnone).trans
      (congrArg (Prod.mk Result.busy) (setBusy_nvRequest_beginExchange _ (s.setTickets { s.tickets with
        floorWrite := some { value := newFloor s.tickets, retry := true } }) _))), setBusy_answer]
    rfl
  · exact exec_retryStore h (retryStore_refused (s := beginExchange .office s) hno)

end OfficeWrites

end Sys2Proof.Machine

/-! PROOFS, 07_tickets_and_the_journal (R123, R126, R131, R133, R135 to R137). The issue wait, the try of the head, the drain and
ARCHIVE UP TO. -/

namespace Sys2Proof.Machine
open Sys2Proof

/-! ### The conditions of an issue and the try of the head (R123, R126) -/

section Conditions

variable {s : State}

theorem ticketRoom_iff (j : Journal) : ticketRoom j = true ↔ j.last < 4294967295 ∧ j.last - j.mark + j.reservations < 1016 := by
  rw [ticketRoom, sequenceLeft, Bool.and_eq_true, decide_eq_true_eq, decide_eq_true_eq]
  rfl

theorem recordPending_iff (t : TicketUnit) : (t.pendingRestart.isSome = true ∨ t.pendingRollover.isSome = true) ↔
    ¬ (t.pendingRestart = none ∧ t.pendingRollover = none) := by
  rw [Option.isSome_iff_ne_none, Option.isSome_iff_ne_none, not_and_or]

/-- The obstacle is the first condition of R126's table that fails: its branches are the rows of the table, in order. -/
theorem issueObstacle_firstFailing (s : State) : FirstFailing s (issueObstacle s) := by
  have hroom : (!ticketRoom s.journal) = true ↔
      ¬ (s.journal.last < 4294967295 ∧ s.journal.last - s.journal.mark + s.journal.reservations < 1016) := by
    rw [← ticketRoom_iff]
    simp
  have hstored : s.nv.storeFault = true ↔ ¬ s.nv.storeFault = false := by simp
  have hwritten : s.tickets.floorWrite.isSome = true ↔ ¬ s.tickets.floorWrite = none := Option.isSome_iff_ne_none
  unfold issueObstacle
  simp only [recordPending_iff, hroom, hstored, hwritten]
  refine ⟨fun h => if_pos h, fun h1 h => ?_, fun h1 h2 h => ?_, fun h1 h2 h3 h => ?_, fun h1 h2 h3 h4 h => ?_,
    fun h1 h2 h3 h4 h5 h => ?_, fun h1 h2 h3 h4 h5 h6 h => ?_, fun h1 h2 h3 h4 h5 h6 h => ?_⟩ <;>
    rw [if_neg (not_not.2 h1)]
  · rw [if_pos h]
  · rw [if_neg (not_not.2 h2), if_pos (not_not.1 h)]
  · rw [if_neg (not_not.2 h2), if_neg h3, if_pos h]
  · rw [if_neg (not_not.2 h2), if_neg h3, if_neg (not_not.2 h4), if_pos h]
  · rw [if_neg (not_not.2 h2), if_neg h3, if_neg (not_not.2 h4), if_neg (not_not.2 h5), if_pos (Nat.not_lt.1 h)]
  · rw [if_neg (not_not.2 h2), if_neg h3, if_neg (not_not.2 h4), if_neg (not_not.2 h5), if_neg (Nat.not_le.2 h6),
      if_pos (Nat.not_lt.1 h)]
  · rw [if_neg (not_not.2 h2), if_neg h3, if_neg (not_not.2 h4), if_neg (not_not.2 h5), if_neg (Nat.not_le.2 h6),
      if_neg (Nat.not_le.2 h)]

theorem tryHead_of_empty (h : s.tickets.queue = []) : tryHead s = s.setTickets { s.tickets with wait := .none } := by
  unfold tryHead
  rw [h]
  rfl

/-- A head that is tried shows the obstacle, and asks for a floor write where that is the obstacle and none is in flight. -/
theorem tryHead_of_head (h : s.tickets.queue ≠ []) : tryHead s =
    if issueObstacle s = .floorWrite ∧ s.tickets.floorWrite = none then requestFloorWrite false (setWait (issueObstacle s) s)
    else setWait (issueObstacle s) s := by
  unfold tryHead
  split
  · exact absurd ‹_› h
  · rfl

end Conditions

/-! ### The drain (R135, R137) -/

section Drain

variable {s : State} {r : RestartInfo} {d : Nat}

theorem appendEntry_tickets (b : JournalBody) (s : State) : (appendEntry b s).tickets = s.tickets :=
  KeepsAllBut.tickets (ps := .journal :: yardParts)
    (appendEntry_hide (fun _ h => List.mem_cons_of_mem _ h) (by decide) b) (by decide)

theorem appendRollover_tickets (d : Nat) (s : State) : (appendRollover d s).tickets = s.tickets :=
  KeepsAllBut.tickets (ps := [.allow, .journal] ++ yardParts)
    (appendRollover_hide (fun _ h => List.mem_append_right _ h) (by decide) (by decide) d) (by decide)

/-- The pending RESTART record appended (R135). -/
def restartDrained (r : RestartInfo) (s : State) : State :=
  appendEntry (.restart r (nowStamp s)) (s.setTickets { s.tickets with pendingRestart := none })

/-- The pending ROLLOVER record appended with its effects (R92, R137). -/
def rolloverDrained (d : Nat) (s : State) : State :=
  appendRollover d (s.setTickets { s.tickets with pendingRollover := none })

theorem restartDrained_tickets (r : RestartInfo) (s : State) :
    (restartDrained r s).tickets = { s.tickets with pendingRestart := none } := appendEntry_tickets _ _

theorem rolloverDrained_tickets (d : Nat) (s : State) :
    (rolloverDrained d s).tickets = { s.tickets with pendingRollover := none } := appendRollover_tickets _ _

theorem restartDrained_journal (r : RestartInfo) (s : State) :
    (restartDrained r s).journal = s.journal.push (.restart r (nowStamp s)) := appendEntry_journal _ _

theorem rolloverDrained_journal (d : Nat) (s : State) :
    (rolloverDrained d s).journal = s.journal.push (.rollover d (nowStamp s)) := appendRollover_journal _ _

theorem rolloverDrained_allow (d : Nat) (s : State) : (rolloverDrained d s).allow = (beginYardDay d s).allow :=
  appendRollover_allow _ _

theorem drainRestart_of_none (h : s.tickets.pendingRestart = none) : drainRestart s = s := by
  unfold drainRestart
  rw [h]

theorem drainRestart_of_room (h : s.tickets.pendingRestart = some r) (hroom : systemRoom s.journal = true) :
    drainRestart s = restartDrained r s := by
  unfold drainRestart
  rw [h]
  exact if_pos hroom

theorem drainRestart_of_noRoom (hroom : systemRoom s.journal = false) : drainRestart s = s := by
  unfold drainRestart
  split
  · rfl
  · exact if_neg (by simp [hroom])

theorem drainRollover_of_none (h : s.tickets.pendingRollover = none) : drainRollover s = s := by
  unfold drainRollover
  rw [h]

theorem drainRollover_of_room (h : s.tickets.pendingRollover = some d) (hroom : systemRoom s.journal = true) :
    drainRollover s = rolloverDrained d s := by
  unfold drainRollover
  rw [h]
  exact if_pos hroom

theorem drainRollover_of_noRoom (hroom : systemRoom s.journal = false) : drainRollover s = s := by
  unfold drainRollover
  split
  · rfl
  · exact if_neg (by simp [hroom])

/-- A RESTART record without room holds up all that follows it. -/
theorem drain_of_restart_noRoom (h : s.tickets.pendingRestart = some r) (hroom : systemRoom s.journal = false) :
    drain s = s := by
  unfold drain
  rw [drainRestart_of_noRoom hroom]
  exact if_pos (by rw [h]; rfl)

/-- With no RESTART record pending the drain is its two later stages. -/
theorem drain_of_noRestart (h : s.tickets.pendingRestart = none) : drain s =
    if (drainRollover s).tickets.pendingRollover.isSome then drainRollover s else tryHead (drainRollover s) := by
  unfold drain
  rw [drainRestart_of_none h]
  exact if_neg (by rw [h]; decide)

/-- A RESTART record with room is appended, and the drain goes on from there. -/
theorem drain_of_restart (h : s.tickets.pendingRestart = some r) (hroom : systemRoom s.journal = true) :
    drain s = drain (restartDrained r s) := by
  have hgone : (restartDrained r s).tickets.pendingRestart = none := by rw [restartDrained_tickets]
  unfold drain
  rw [drainRestart_of_room h hroom, drainRestart_of_none hgone]

theorem drain_of_rollover_noRoom (hnone : s.tickets.pendingRestart = none) (h : s.tickets.pendingRollover = some d)
    (hroom : systemRoom s.journal = false) : drain s = s := by
  rw [drain_of_noRestart hnone, drainRollover_of_noRoom hroom]
  exact if_pos (by rw [h]; rfl)

theorem drain_of_rollover (hnone : s.tickets.pendingRestart = none) (h : s.tickets.pendingRollover = some d)
    (hroom : systemRoom s.journal = true) : drain s = tryHead (rolloverDrained d s) := by
  rw [drain_of_noRestart hnone, drainRollover_of_room h hroom]
  exact if_neg (by simp [rolloverDrained_tickets])

theorem drain_of_none (hrestart : s.tickets.pendingRestart = none) (hrollover : s.tickets.pendingRollover = none) :
    drain s = tryHead s := by
  rw [drain_of_noRestart hrestart, drainRollover_of_none hrollover]
  exact if_neg (by rw [hrollover]; decide)

/-- The drain makes no RESTART record pending. -/
theorem drain_pendingRestart (h : s.tickets.pendingRestart = none) : (drain s).tickets.pendingRestart = none := by
  have htried : ∀ x : State, (tryHead x).tickets.pendingRestart = x.tickets.pendingRestart := fun x => by
    obtain ⟨-, -, -, hkept, -⟩ := tryHead_tickets (s := x)
    exact hkept
  cases hrollover : s.tickets.pendingRollover with
  | none => rw [drain_of_none h hrollover, htried, h]
  | some d =>
    cases hroom : systemRoom s.journal with
    | false => rw [drain_of_rollover_noRoom h hrollover hroom, h]
    | true => rw [drain_of_rollover h hrollover hroom, htried, rolloverDrained_tickets, h]

theorem tryHead_journal (s : State) : (tryHead s).journal = s.journal :=
  KeepsAllBut.journal (ps := [.nv, .tickets]) (tryHead_hide (by decide) (by decide)) (by decide)

theorem tryHead_allow (s : State) : (tryHead s).allow = s.allow :=
  KeepsAllBut.allow (ps := [.nv, .tickets]) (tryHead_hide (by decide) (by decide)) (by decide)

theorem pushes_last (bs : List JournalBody) (j : Journal) : (bs.foldl Journal.push j).last = j.last + bs.length := by
  induction bs generalizing j with
  | nil => rfl
  | cons b bs ih =>
    rw [List.foldl_cons, ih, push_last, List.length_cons]
    omega

theorem pushes_mark (bs : List JournalBody) (j : Journal) : (bs.foldl Journal.push j).mark = j.mark := by
  induction bs generalizing j with
  | nil => rfl
  | cons b bs ih => exact ih (j.push b)

/-- The RESTART record stands behind the last entry, and what the drain appends after it leaves it retained. -/
theorem drain_restart_appended (h : s.tickets.pendingRestart = some r) (hroom : systemRoom s.journal = true) :
    (drain s).tickets.pendingRestart = none ∧ s.journal.last < (drain s).journal.last
      ∧ retainedEntry (drain s).journal (s.journal.last + 1) = some
          { seq := s.journal.last + 1, body := .restart r (nowStamp s) } := by
  obtain ⟨bs, hlength, hjournal⟩ := (drain_appends (restartDrained r s)).pushed
  rw [restartDrained_journal] at hjournal
  rw [drain_of_restart h hroom]
  refine ⟨drain_pendingRestart (by rw [restartDrained_tickets]), ?_, ?_⟩
  · rw [hjournal, pushes_last, push_last]
    omega
  · rw [hjournal]
    exact retainedEntry_pushes bs (retainedEntry_push_last _ _) (by rw [push_last]; omega)

/-- The ROLLOVER record with its effects, before the head is tried (R92). -/
theorem drain_rollover_appended (hnone : s.tickets.pendingRestart = none) (h : s.tickets.pendingRollover = some d)
    (hroom : systemRoom s.journal = true) :
    (drain s).tickets.pendingRollover = none ∧ (drain s).journal.last = s.journal.last + 1
      ∧ (drain s).allow = (beginYardDay d s).allow := by
  obtain ⟨-, -, -, -, hkept⟩ := tryHead_tickets (s := rolloverDrained d s)
  rw [drain_of_rollover hnone h hroom]
  exact ⟨by rw [hkept, rolloverDrained_tickets], by rw [tryHead_journal, rolloverDrained_journal, push_last],
    by rw [tryHead_allow, rolloverDrained_allow]⟩

end Drain

/-! ### ARCHIVE UP TO (R136) -/

section Archive

variable {s t : State} {seq : BitVec 32}

/-- The command with its mark moved, before the drain. -/
def archived (n : Nat) (s : State) : State := (beginExchange .office s).setJournal { s.journal with mark := n }

theorem archiveUpTo_range {n : Nat} (h : n < s.journal.mark ∨ s.journal.last < n) : archiveUpTo n s = (.range, s) := if_pos h

theorem archiveUpTo_done {n : Nat} (hlow : s.journal.mark ≤ n) (hhigh : n ≤ s.journal.last) :
    archiveUpTo n (beginExchange .office s) = (.done, drain (archived n s)) := if_neg (by
  rintro (hn | hn)
  · exact Nat.not_lt.2 hlow hn
  · exact Nat.not_lt.2 hhigh hn)

/-- A result shown at a port that holds no reply of an earlier exchange is the port's answer. -/
theorem setResult_eq_answer {p : PortId} (h : PortsKept (beginExchange p s) t) (c : Byte) (r : Result) :
    setResult p c r ReplyData.zero t = t.answer p c r := by
  have hport : (beginExchange p s).port p = { s.port p with reply := none, move := none } := modPort_port s p _
  have hreply : (t.port p).reply = none := (congrArg Port.reply (h p)).trans (congrArg Port.reply hport)
  have hmove : (t.port p).move = none := (congrArg Port.move (h p)).trans (congrArg Port.move hport)
  refine modPort_congr t p ?_
  unfold Port.answered
  rw [← hreply, ← hmove]

theorem drain_portsKept (s : State) : PortsKept s (drain s) := (drain_appends s).port

theorem archived_portsKept (n : Nat) (s : State) : PortsKept (beginExchange .office s) (drain (archived n s)) :=
  (PortsKept.of_ports (t := archived n s) rfl).trans (drain_portsKept _)

theorem exec_archiveUpTo_done (h : Takes s .office) (hlow : s.journal.mark ≤ seq.toNat) (hhigh : seq.toNat ≤ s.journal.last) :
    exec (.archiveUpTo .office seq) s = .next ((drain (archived seq.toNat s)).answer .office 0x48#8 .done) := by
  have hcommand := command_of_takes h 0x48#8 rfl (archiveUpTo seq.toNat)
  rw [archiveUpTo_done hlow hhigh] at hcommand
  rw [← setResult_eq_answer (archived_portsKept seq.toNat s)]
  exact hcommand

/-- What the drain and the answer after it can reach. -/
def archiveParts : List Part := [.allow, .tickets, .journal, .nv] ++ yardParts

theorem archived_keeps (n : Nat) (s : State) :
    KeepsAllBut archiveParts s ((drain (archived n s)).answer .office 0x48#8 .done) := by
  have hyard : HidesYard archiveParts := by unfold HidesYard; decide
  have hbegun : KeepsAllBut archiveParts s (beginExchange .office s) := beginExchange_hide hyard.ports .office s
  have hmarked : KeepsAllBut archiveParts (beginExchange .office s) (archived n s) := rfl
  have hdrained : KeepsAllBut archiveParts (archived n s) (drain (archived n s)) :=
    drain_hide hyard (by decide) (by decide) (by decide) (by decide)
  have hanswered : KeepsAllBut archiveParts (drain (archived n s)) ((drain (archived n s)).answer .office 0x48#8 .done) :=
    modPort_hide hyard.ports .office _
  exact ((hbegun.trans hmarked).trans hdrained).trans hanswered

theorem drain_mark (s : State) : (drain s).journal.mark = s.journal.mark := by
  obtain ⟨bs, -, hjournal⟩ := (drain_appends s).pushed
  rw [hjournal, pushes_mark]

/-- With nothing pending and no request waiting the mark and the issue wait are all that moves. -/
theorem archived_idle (n : Nat) (hrestart : s.tickets.pendingRestart = none) (hrollover : s.tickets.pendingRollover = none)
    (hqueue : s.tickets.queue = []) : (drain (archived n s)).answer .office 0x48#8 .done =
      ((s.setJournal { s.journal with mark := n }).setTickets { s.tickets with wait := .none }).answer .office 0x48#8 .done := by
  rw [drain_of_none (s := archived n s) hrestart hrollover, tryHead_of_empty (s := archived n s) hqueue]
  exact modPort_modPort ((s.setJournal { s.journal with mark := n }).setTickets { s.tickets with wait := .none }) .office
    (fun x => { x with reply := none, move := none }) fun x => x.answered 0x48#8 .done

/-- Settles O41: the command by its two bodies, the drain by its stages, the try of the head by its obstacle. -/
theorem archiveMovesTheMarkAndDrains : Obligations.ArchiveMovesTheMarkAndDrains := by
  refine ⟨fun s seq h => ⟨fun hrange => ?_, fun hlow hhigh => ⟨exec_archiveUpTo_done h hlow hhigh,
      ⟨_, exec_archiveUpTo_done h hlow hhigh, ?_, drain_mark _, archived_keeps _ s⟩,
      fun hrestart hrollover hqueue => ?_⟩⟩,
    fun s => ⟨fun r hr hroom => drain_of_restart_noRoom hr hroom, fun r hr hroom => ⟨drain_of_restart hr hroom,
      drain_restart_appended hr hroom⟩, fun d hnone hd hroom => drain_of_rollover_noRoom hnone hd hroom,
      fun d hnone hd hroom => ?_, fun hrestart hrollover => drain_of_none hrestart hrollover⟩,
    fun s => ⟨issueObstacle_firstFailing s, tryHead_of_empty, fun hqueue => ?_⟩⟩
  · exact command_refused h 0x48#8 rfl (archiveUpTo_range (s := beginExchange .office s) hrange)
  · rw [← setResult_eq_answer (archived_portsKept seq.toNat s)]
    exact (archived_portsKept seq.toNat s).answered _ _
  · rw [exec_archiveUpTo_done h hlow hhigh, archived_idle _ hrestart hrollover hqueue]
  · obtain ⟨hpending, hlast, hallow⟩ := drain_rollover_appended hnone hd hroom
    refine ⟨drain_of_rollover hnone hd hroom, hpending, ?_, hlast, ?_, ?_⟩ <;> rw [hallow] <;> rfl
  · intro waits
    rw [tryHead_of_head hqueue]
    refine ⟨fun hno => if_neg ?_, fun hobstacle hnone => if_pos ⟨hobstacle, hnone⟩⟩
    rintro ⟨hobstacle, hnone⟩
    exact hno.elim (fun h => h hobstacle) fun h => h hnone

end Archive

end Sys2Proof.Machine

/-! PROOFS, 07_tickets_and_the_journal (R122, R127) and 11_clock_retained_memory_and_start_up (R188). The ticket unit and its next
ticket number through every command. -/

namespace Sys2Proof.Machine
open Sys2Proof

/-! ### Operations that leave the ticket unit alone -/

section UntouchedTickets

/-- Every part but the ticket unit. -/
def unticketedParts : List Part :=
  [.power, .marker, .cal, .visits, .tares, .allow, .journal, .templates, .clock, .nv, .freeIx, .pending] ++ yardParts

theorem unticketedParts_yard : HidesYard unticketedParts := by unfold HidesYard; decide

/-- What touches no more than the other parts leaves the ticket unit alone. -/
theorem tickets_of_hide {s t : State} (h : t.hide unticketedParts = s.hide unticketedParts) : t.tickets = s.tickets :=
  KeepsAllBut.tickets h (by decide)

variable (s : State)

theorem raiseEvent_tickets (k : EventKind) (x : Option Nat) : (raiseEvent k x s).tickets = s.tickets :=
  tickets_of_outsideYard (raiseEvent_outsideYard s k x)
theorem raiseAt_tickets (k : EventKind) (l : Lane) : (raiseAt k l s).tickets = s.tickets := raiseEvent_tickets s k _
theorem endCapture_tickets (l : Lane) (r : CaptureReason) : (endCapture l r s).tickets = s.tickets :=
  tickets_of_outsideYard (endCapture_outsideYard s l r)
theorem endCaptureLeaving_tickets (l : Lane) (r : CaptureReason) : (endCaptureLeaving l r s).tickets = s.tickets :=
  tickets_of_outsideYard (endCaptureLeaving_outsideYard s l r)
theorem enterFault_tickets (l : Lane) : (enterFault l s).tickets = s.tickets :=
  tickets_of_outsideYard (enterFault_outsideYard s l)
theorem handOut_tickets (l : Lane) (n : Nat) : (handOut l n s).tickets = s.tickets :=
  tickets_of_outsideYard (handOut_outsideYard l n s)
theorem nvRequest_tickets (r : NvRequest) : (nvRequest r s).tickets = s.tickets :=
  tickets_of_hide (nvRequest_hide (by decide) r)
theorem nvServe_tickets : (nvServe s).tickets = s.tickets := tickets_of_hide (nvServe_hide (by decide))
theorem nvEnd_tickets (ok : Bool) : (nvEnd ok s).tickets = s.tickets := tickets_of_hide (nvEnd_hide (by decide) ok)
theorem appendReserved_tickets (b : JournalBody) : (appendReserved b s).tickets = s.tickets :=
  tickets_of_hide (appendReserved_hide unticketedParts_yard (by decide) b)
theorem joinQueue_tickets (l : Lane) (n : Nat) (k : PassKind) : (joinQueue l n k s).tickets = s.tickets :=
  tickets_of_hide (joinQueue_hide unticketedParts_yard (by decide) l n k)
theorem depart_tickets (n : Nat) (f : State → State) (hf : ∀ x : State, (f x).tickets = x.tickets) :
    (depart n f s).tickets = s.tickets := by
  unfold depart
  split
  · rfl
  · split
    · exact hf s
    · dsimp only
      split
      · exact (tickets_of_outsideYard (handHead_outsideYard _ _ true)).trans (hf _)
      · exact hf _

theorem pumpEngine_tickets (l : Lane) : (pumpEngine l s).tickets = s.tickets :=
  tickets_of_hide (pumpEngine_hide unticketedParts_yard (by decide) l)
theorem queueJob_tickets (l : Lane) (k : TicketRecord) (b : Bool) : (queueJob l k b s).2.tickets = s.tickets :=
  tickets_of_hide (queueJob_hide unticketedParts_yard (by decide) l k b)
theorem reprint_tickets (l : Lane) (n : Nat) : (reprint l n s).2.tickets = s.tickets :=
  tickets_of_hide (reprint_hide unticketedParts_yard (by decide) l n)
theorem endJob_tickets (l : Lane) (r : PrintResult) : (endJob l r s).tickets = s.tickets :=
  tickets_of_hide (endJob_hide unticketedParts_yard (by decide) l r)
theorem restartLanes_tickets : (restartLanes s).tickets = s.tickets :=
  tickets_of_hide ((modPort_hide (by decide) _ _).trans (restartLanes_hide unticketedParts_yard (by decide) _ _))

theorem queueOriginal_tickets (l : Lane) (k : TicketRecord) : (queueOriginal l k s).tickets = s.tickets := by
  have hqueue := queueJob_tickets s l k false
  unfold queueOriginal
  split <;> rename_i h <;> rw [h] at hqueue
  · exact hqueue
  · exact (raiseAt_tickets _ _ l).trans hqueue

theorem keepTare_tickets (v : Visit) : (keepTare v s).tickets = s.tickets := by
  unfold keepTare
  split
  · rfl
  · unfold placeTare
    dsimp only
    split
    · split <;> rfl
    · split
      · rfl
      · split <;> rfl

theorem settleTicket_tickets (v : Visit) (n : Nat) : (settleTicket v n s).tickets = s.tickets := by
  unfold settleTicket
  split
  · rfl
  · unfold overrunOutcome
    dsimp only
    split
    · exact raiseEvent_tickets _ _ _
    · rfl

/-- The record of an issue is made and told without touching the ticket unit, which its last step moves on (R127). -/
theorem issueRecord_tickets (v : Visit) (k : TicketRecord) : (issueRecord v k s).tickets = s.tickets := by
  have told : ∀ x : State, (ticketVisit v k x).tickets = x.tickets := fun x =>
    (tickets_of_outsideYard (handHead_outsideYard ((modVisit v.number _ x).modReport k.lane _) k.lane false)).trans rfl
  exact (raiseAt_tickets _ _ _).trans ((queueOriginal_tickets _ _ _).trans ((told _).trans ((keepTare_tickets _ v).trans
    ((settleTicket_tickets _ v _).trans (appendEntry_tickets _ s)))))

/-! #### The tables and the parameters -/

theorem storeAccount_tickets (i : Nat) (w : AccountWrite) : (storeAccount i w s).2.tickets = s.tickets := by
  unfold storeAccount
  split
  · rfl
  · split
    · rfl
    · split
      · rfl
      · split
        · rfl
        · dsimp only
          split
          · exact raiseEvent_tickets _ _ _
          · rfl

theorem storeCap_tickets (i cap : Nat) : (storeCap i cap s).2.tickets = s.tickets := by
  unfold storeCap
  dsimp only
  split
  · rfl
  · split
    · rfl
    · dsimp only
      split
      · exact raiseEvent_tickets _ _ _
      · rfl

/-- No owner of a table is the ticket unit. -/
theorem ownerWrite_tickets (i : Nat) (w : TableWrite) : (ownerWrite i w s).2.tickets = s.tickets := by
  cases w with
  | account w => exact storeAccount_tickets s i w
  | siteCap cap => exact storeCap_tickets s i cap
  | category name reserve => unfold ownerWrite storeCategory; dsimp only; split <;> rfl
  | siteCapEmpty => unfold ownerWrite emptyCap; dsimp only; split <;> rfl
  | templateEmpty => unfold ownerWrite emptyTemplate; dsimp only; split <;> rfl
  | tareDelete => rfl
  | accountDelete =>
    unfold ownerWrite deleteAccount
    dsimp only
    split
    · rfl
    · split <;> rfl
  | template name head =>
    unfold ownerWrite storeTemplate
    dsimp only
    split
    · rfl
    · split <;> rfl
  | line w =>
    unfold ownerWrite storeLine
    dsimp only
    split
    · rfl
    · split <;> rfl
  | categoryRemove =>
    unfold ownerWrite removeCategory
    dsimp only
    split
    · rfl
    · split
      · rfl
      · split <;> rfl
  | route w =>
    unfold ownerWrite storeRoute
    dsimp only
    split
    · split
      · rfl
      · split <;> rfl
    · rfl
  | tare v t d =>
    unfold ownerWrite storeTare
    dsimp only
    split
    · rfl
    · split
      · rfl
      · split
        · rfl
        · split <;> rfl

theorem setLaneMode_tickets (l : Lane) (m : LaneMode) : (setLaneMode l m s).tickets = s.tickets := by
  by_cases h : (s.lane l).params.mode = m
  · exact congrArg State.tickets (if_pos h)
  · rw [setLaneMode_eq s h]
    have hrestart : ∀ x : State, (restartInMode l m x).tickets = x.tickets := fun x =>
      tickets_of_outsideYard (restartInMode_outsideYard l m x)
    exact (hrestart _).trans (endCapture_tickets s l _)

theorem overstayVisit_tickets (n : Nat) : (overstayVisit n s).tickets = s.tickets := raiseEvent_tickets _ _ _

/-- No parameter that can be written belongs to the ticket unit. -/
theorem writeParam_tickets (c i : Byte) (v : Nat) : (writeParam c i v s).2.tickets = s.tickets := by
  have noticed : ∀ (vs : List Nat) (x : State), (vs.foldl (fun s v => overstayVisit v s) x).tickets = x.tickets := by
    intro vs
    induction vs with
    | nil => exact fun _ => rfl
    | cons v vs ih => exact fun x => (ih _).trans (overstayVisit_tickets x v)
  have written : ∀ q : Param, (q.write v s).tickets = s.tickets := fun q => by
    cases q with
    | overstayLimit => exact noticed _ _
    | laneMode l => exact setLaneMode_tickets s l _
    | _ => rfl
  unfold writeParam
  split
  · rfl
  · split
    exacts [rfl, written _]

/-! #### The visits, the lanes and the decks -/

theorem announceBody_tickets (l : Lane) (a : Option Announcement) : (announceBody l a s).2.tickets = s.tickets := by
  unfold announceBody
  split
  · rfl
  · split
    · rfl
    · exact joinQueue_tickets _ l _ _

theorem attachBody_tickets (l : Lane) (v : Option Text) : (attachBody l v s).2.tickets = s.tickets := by
  unfold attachBody
  split
  · rfl
  · split
    · rfl
    · unfold attachVisit
      dsimp only
      split <;> exact joinQueue_tickets _ l _ _

theorem releaseVisit_tickets (l : Lane) (n : Nat) : (releaseVisit l n s).2.tickets = s.tickets := by
  have ended : (if isHead s l n = true then endCaptureLeaving l .abandoned s else s).tickets = s.tickets := by
    split
    exacts [endCaptureLeaving_tickets s l _, rfl]
  unfold releaseVisit
  dsimp only
  split
  · exact ended
  · split
    · exact (depart_tickets _ n (removeVisit n) fun _ => rfl).trans ended
    · exact (depart_tickets _ n (modVisit n _) fun _ => rfl).trans ended
    · exact (depart_tickets _ n id fun _ => rfl).trans ended
    · exact ended

theorem captureVisit_tickets (l : Lane) (n : Nat) : (captureVisit l n s).2.tickets = s.tickets := by
  unfold captureVisit
  split
  · rfl
  · split
    · rfl
    · split
      · rfl
      · split
        exacts [rfl, tickets_of_outsideYard (acceptStart_outsideYard s l n)]

theorem voidVisit_tickets (n : Nat) : (voidVisit n s).2.tickets = s.tickets := by
  have capture : ∀ v : Visit, (voidCapture v s).tickets = s.tickets := fun v => by
    unfold voidCapture
    split
    · rfl
    · split
      exacts [endCaptureLeaving_tickets s _ _, rfl]
  have hold : ∀ (v : Visit) (x : State), (voidHold v x).tickets = x.tickets := fun v x => by
    unfold voidHold
    split <;> rfl
  have record : ∀ (v : Visit) (x : State), (voidRecord v x).tickets = x.tickets := fun v x => by
    unfold voidRecord
    dsimp only
    split <;> exact appendEntry_tickets _ x
  unfold voidVisit
  split
  · rfl
  · exact (depart_tickets _ n _ fun x => record _ x).trans ((hold _ _).trans (capture _))

theorem manualRaise_tickets (l : Lane) : (manualRaise l s).2.tickets = s.tickets := by
  unfold manualRaise
  split
  · rfl
  · split <;> rfl

theorem manualLower_tickets (l : Lane) : (manualLower l s).2.tickets = s.tickets := by
  unfold manualLower
  split
  · rfl
  · dsimp only
    split <;> rfl

theorem setOutput_tickets (n k : Nat) : (setOutput n k s).2.tickets = s.tickets := by
  unfold setOutput
  split
  · rfl
  · split <;> rfl

theorem clearLaneFault_tickets (l : Lane) : (clearLaneFault l s).2.tickets = s.tickets := by
  unfold clearLaneFault
  dsimp only
  split
  · rfl
  · split
    exacts [rfl, (tickets_of_outsideYard (reportCleared_outsideYard l _ (s.modBarrier l _))).trans rfl]

theorem paperGone_tickets (l : Lane) : (paperGone l s).tickets = s.tickets := by
  unfold paperGone
  dsimp only
  split <;> exact raiseAt_tickets _ _ l

theorem paperBack_tickets (l : Lane) : (paperBack l s).tickets = s.tickets := by
  unfold paperBack
  dsimp only
  split
  exacts [pumpEngine_tickets _ l, rfl]

theorem trackStep_tickets (d : Deck) : (trackStep d s).tickets = s.tickets := by
  unfold trackStep
  split <;> rfl

theorem zeroDeck_tickets (d : Deck) : (zeroDeck d s).2.tickets = s.tickets := by
  unfold zeroDeck
  dsimp only
  split <;> exact trackStep_tickets s d

theorem linkFault_tickets (d : Deck) : (linkFault d s).tickets = s.tickets := (linkFault_keeps d s).tickets (by decide)

/-! #### Calibration sessions -/

theorem abandonIdles_tickets (ds : List Deck) : (ds.foldl abandonIdle s).tickets = s.tickets := by
  induction ds generalizing s with
  | nil => rfl
  | cons d ds ih =>
    refine (ih _).trans ?_
    unfold abandonIdle
    split <;> rfl

theorem calBegin_tickets (d : Deck) : (calBegin d s).2.tickets = s.tickets := by
  have tracked := trackStep_tickets s d
  unfold calBegin
  dsimp only
  split
  · exact tracked
  · split
    · exact tracked
    · split
      · exact tracked
      · split <;> exact tracked

theorem calSet_tickets (f : CalFields) (r : CalRecord) (d : Deck) : (calSet f r d s).2.tickets = s.tickets := by
  unfold calSet
  split
  · rfl
  · split <;> rfl

theorem calZero_tickets (r : CalRecord) (d : Deck) : (calZero r d s).2.tickets = s.tickets := by
  unfold calZero
  dsimp only
  split <;> rfl

theorem calSpan_tickets (n : Nat) (r : CalRecord) (d : Deck) : (calSpan n r d s).2.tickets = s.tickets := by
  unfold calSpan
  dsimp only
  split
  · rfl
  · split
    · rfl
    · split
      · rfl
      · split <;> rfl

theorem calEnd_tickets (p : PortId) (r : CalRecord) (d : Deck) : (calEnd p r d s).2.tickets = s.tickets := by
  unfold calEnd
  split
  · rfl
  · split
    · rfl
    · split
      exacts [rfl, nvRequest_tickets _ _]

theorem writeSiteNumber_tickets (p : PortId) (v : Nat) : (writeSiteNumber p v s).2.tickets = s.tickets := by
  unfold writeSiteNumber
  split
  · rfl
  · split
    exacts [rfl, nvRequest_tickets s _]

end UntouchedTickets

/-! ### Operations of the ticket unit that keep its next number (R122) -/

section NextKept

variable (s : State)

theorem tryHead_next : (tryHead s).tickets.next = s.tickets.next := by
  obtain ⟨hnext, -⟩ := tryHead_tickets (s := s)
  exact hnext

theorem requestTicket_next (n : Nat) : (requestTicket n s).tickets.next = s.tickets.next := (requestTicket_queue n s).2

theorem requestFloorWrite_next (b : Bool) : (requestFloorWrite b s).tickets.next = s.tickets.next :=
  (congrArg TicketUnit.next (nvRequest_tickets (s.setTickets { s.tickets with
    floorWrite := some { value := newFloor s.tickets, retry := b } }) _)).trans rfl

theorem rolloverEvent_next : (rolloverEvent s).tickets.next = s.tickets.next := by
  unfold rolloverEvent
  split
  · rfl
  · split
    exacts [congrArg TicketUnit.next (appendRollover_tickets _ s), rfl]

theorem drain_next : (drain s).tickets.next = s.tickets.next := by
  have hrestart : (drainRestart s).tickets.next = s.tickets.next := by
    unfold drainRestart
    split
    · rfl
    · split
      exacts [(congrArg TicketUnit.next (restartDrained_tickets _ s)).trans rfl, rfl]
  have hrollover : (drainRollover (drainRestart s)).tickets.next = (drainRestart s).tickets.next := by
    unfold drainRollover
    split
    · rfl
    · split
      exacts [(congrArg TicketUnit.next (rolloverDrained_tickets _ (drainRestart s))).trans rfl, rfl]
  unfold drain
  dsimp only
  split
  · exact hrestart
  · split
    · exact hrollover.trans hrestart
    · exact (tryHead_next _).trans (hrollover.trans hrestart)

theorem archiveUpTo_next (n : Nat) : (archiveUpTo n s).2.tickets.next = s.tickets.next := by
  unfold archiveUpTo
  split
  exacts [rfl, drain_next _]

theorem retryStore_next (p : PortId) : (retryStore p s).2.tickets.next = s.tickets.next := by
  unfold retryStore
  split
  · rfl
  · split
    exacts [rfl, requestFloorWrite_next s true]

/-! #### The ends of writes -/

theorem floorWriteEnd_next (ok : Bool) : (floorWriteEnd ok s).tickets.next = s.tickets.next := by
  have outcome : ∀ (f : FloorWrite) (x : State), (floorOutcome f ok x).tickets.next = x.tickets.next := fun f x => by
    cases ok with
    | true =>
      rw [floorOutcome_success, tryHead_next, floorStored_tickets]
    | false =>
      obtain ⟨w, htickets, -, -⟩ := floorOutcome_failed f x
      rw [htickets]
  unfold floorWriteEnd
  split
  · rw [nvServe_tickets, outcome, nvEnd_tickets]
  · rfl

theorem siteWriteEnd_next (ok : Bool) : (siteWriteEnd ok s).tickets.next = s.tickets.next := by
  have outcome : ∀ (v : Nat) (x : State), (siteOutcome v ok x).tickets.next = x.tickets.next := fun v x => by
    unfold siteOutcome
    split
    exacts [tryHead_next _, rfl]
  unfold siteWriteEnd
  split
  · rw [nvServe_tickets, outcome, nvEnd_tickets]
  · rfl

theorem calWriteEnd_next (ok : Bool) : (calWriteEnd ok s).tickets.next = s.tickets.next := by
  have after : ∀ (b : Bool) (x : State), (afterCalWrite b x).tickets.next = x.tickets.next := fun b x => by
    unfold afterCalWrite
    dsimp only
    split
    exacts [(tryHead_next _).trans (drain_next x), drain_next x]
  have stored : ∀ (d : Deck) (r : CalRecord) (c : StagedCal) (x : State), (calStored d r c x).tickets = x.tickets :=
    fun d r c x => appendReserved_tickets (calPut d r c x) _
  have failed : ∀ (d : Deck) (x : State), (calNotStored d x).tickets = x.tickets := fun d x => by
    unfold calNotStored
    dsimp only
    split <;> rfl
  unfold calWriteEnd
  split
  · rw [nvServe_tickets, after]
    split
    exacts [by rw [stored, nvEnd_tickets], by rw [failed, nvEnd_tickets]]
  · rfl

/-! #### Decisions, samples and the clock -/

theorem checkAndHold_next (v : Visit) (k : Nat) (f : State → State)
    (hf : ∀ x : State, (f x).tickets.next = x.tickets.next) : (checkAndHold v k f s).tickets.next = s.tickets.next := by
  unfold checkAndHold
  split
  exacts [rfl, hf _]

theorem firstCapture_next (v : Visit) (w : CapturedWeight) : (firstCapture v w s).tickets.next = s.tickets.next := by
  have twoPassed : ∀ x : State, (twoPass v w.deck x).tickets.next = x.tickets.next := fun x =>
    checkAndHold_next x v _ _ fun _ => rfl
  have looked : ∀ x : State, (tareLookup v.vehicle x).2.tickets = x.tickets := fun x =>
    tickets_of_hide (tareLookup_hide (by decide) v.vehicle)
  have stored : ∀ (n : Nat) (m : Bool) (x : State), (useStoredTare v w n m x).tickets.next = x.tickets.next :=
    fun n m x => by
      unfold useStoredTare
      dsimp only
      split
      exacts [rfl, checkAndHold_next _ v _ _ fun y => requestTicket_next _ v.number]
  have delivered : ∀ x : State, (firstDelivery v w x).tickets.next = x.tickets.next := fun x => by
    have hlook := looked x
    unfold firstDelivery
    split
    · split <;> rename_i h <;> rw [h] at hlook
      · rw [stored, hlook]
      · rw [twoPassed, hlook]
    · exact twoPassed x
  unfold firstCapture
  dsimp only
  split
  · exact delivered _
  · unfold firstCollection
    split <;> rfl

theorem secondCapture_next (v : Visit) (w : CapturedWeight) : (secondCapture v w s).tickets.next = s.tickets.next := by
  unfold secondCapture
  split
  · rfl
  · dsimp only
    split
    exacts [rfl, requestTicket_next _ v.number]

theorem completeCapture_next (d : Deck) : (completeCapture d s).tickets.next = s.tickets.next := by
  have decided : ∀ (n : Nat) (w : CapturedWeight) (x : State), (decideVisit d n w x).tickets.next = x.tickets.next :=
    fun n w x => by
      unfold decideVisit
      split
      · rfl
      · split
        · rw [handOut_tickets, firstCapture_next]
        · rw [handOut_tickets, secondCapture_next]
        · rfl
  unfold completeCapture
  split
  · rfl
  · exact (congrArg TicketUnit.next (raiseAt_tickets _ _ d)).trans (decided _ _ _)

theorem sampleStep_next (d : Deck) (c : BitVec 24) : (sampleStep d c s).tickets.next = s.tickets.next := by
  have tested : ∀ (b a : DeckUnit) (x : State), (captureTests d b a x).tickets.next = x.tickets.next := fun b a x => by
    unfold captureTests
    split
    · split
      · rw [endCapture_tickets]
      · split
        exacts [completeCapture_next x d, rfl]
    · rfl
  have staged : ∀ (b : DeckUnit) (x : State), (stageEvents d b x).tickets = x.tickets := fun b x =>
    tickets_of_hide (stageEvents_hide x d unticketedParts_yard (by decide) b)
  exact (tested _ _ _).trans (congrArg TicketUnit.next ((staged _ _).trans (trackStep_tickets s d)))

theorem resolveVisit_next (n : Nat) (c : Option Choice) : (resolveVisit n c s).2.tickets.next = s.tickets.next := by
  have accepted : ∀ v : Visit, (acceptZero v s).tickets.next = s.tickets.next := fun v => by
    rw [tickets_of_outsideYard (acceptZero_outsideYard v s)]
    exact requestTicket_next _ _
  unfold resolveVisit
  split
  · rfl
  · split
    · rfl
    · split
      · rfl
      · split
        exacts [congrArg TicketUnit.next (voidVisit_tickets s n), accepted _]

theorem countSecond_next : (countSecond s).tickets.next = s.tickets.next := by
  have counted : (monoAtAdvance (s.setClock s.clock.advance)).tickets = s.tickets :=
    (monoAtAdvance_keeps (s.setClock s.clock.advance)).tickets (by decide)
  have minute : ∀ x : State, (if x.clock.second % 60 = 0 then raiseEvent .minute none x else x).tickets = x.tickets :=
    fun x => by
      split
      exacts [raiseEvent_tickets x _ _, rfl]
  have events : ∀ x : State, (clockEvents x).tickets.next = x.tickets.next := fun x => by
    unfold clockEvents
    have hminute := minute x
    split
    · dsimp only
      generalize (if x.clock.second % 60 = 0 then raiseEvent .minute none x else x) = y at hminute ⊢
      split
      · rw [rolloverEvent_next, hminute]
      · rw [hminute]
    · rfl
  unfold countSecond
  dsimp only
  split
  · exact (events _).trans (congrArg TicketUnit.next counted)
  · exact congrArg TicketUnit.next counted

/-! #### The start that finds retained memory valid (R187) -/

theorem startLanes_tickets (ls : List Lane) : (ls.foldl startLane s).tickets = s.tickets := by
  induction ls generalizing s with
  | nil => rfl
  | cons l ls ih =>
    refine (ih _).trans ?_
    have harm : (startArm l s).tickets = s.tickets := by
      unfold startArm
      split
      exacts [enterFault_tickets s l, tickets_of_outsideYard (lowerUnlessDown_outsideYard s l)]
    rw [startLane_eq]
    exact (tickets_of_outsideYard (restartInMode_outsideYard l _ _)).trans harm

theorem startNotices_tickets (x : CellsReadable) : (startNotices x s).tickets = s.tickets := by
  have raised : ∀ (ps : List PortId) (y : State),
      (ps.foldl (fun s p => raiseNotice .restart p s) y).tickets = y.tickets := by
    intro ps
    induction ps with
    | nil => exact fun _ => rfl
    | cons p ps ih => exact fun y => (ih _).trans (raiseNotice_tickets y _ _)
  unfold startNotices
  dsimp only
  split
  · exact raised _ s
  · exact (raiseNotice_tickets _ _ _).trans (raised _ s)

theorem warmStart_next (x : CellsReadable) : (warmStart x s).tickets.next = s.tickets.next := by
  have restarted : (restartLanesAtStart (warmValues x s)).tickets.next = s.tickets.next :=
    (congrArg TicketUnit.next
      (startLanes_tickets (takeLaneOrder (warmValues x s)).2 (takeLaneOrder (warmValues x s)).1)).trans rfl
  have resolved : ∀ y : State, (resolveStaged y).tickets = y.tickets := fun y => by
    unfold resolveStaged
    split
    · rfl
    · dsimp only
      split
      exacts [appendReserved_tickets y _, rfl]
  have recorded : ∀ y : State, (warmRestartRecord y).tickets.next = y.tickets.next := fun y => by
    unfold warmRestartRecord
    split
    · rfl
    · dsimp only
      split
      exacts [congrArg TicketUnit.next (appendEntry_tickets _ y), rfl]
  unfold warmStart
  rw [startNotices_tickets, drain_next]
  exact (recorded _).trans ((congrArg TicketUnit.next (resolved _)).trans restarted)

/-- A start that finds retained memory valid keeps the next number, be it cut short or not (R185, R187). -/
theorem startPart_next {x : StartInputs} (hvalid : retainedValid x s = true) :
    (startPart x s).tickets.next = s.tickets.next := by
  have stopped : ∃ y, (if s.power then losePower x.writeLanded s else s) = y ∧ y.tickets = s.tickets
      ∧ retainedValid x y = true := by
    split
    exacts [⟨_, rfl, rfl, hvalid⟩, ⟨_, rfl, rfl, hvalid⟩]
  obtain ⟨y, hy, htickets, hstill⟩ := stopped
  unfold startPart
  dsimp only
  rw [hy]
  split
  · unfold startCutShort
    rw [if_pos hstill, htickets]
  · rw [warmStart_next, htickets]

/-- TICKET_ISSUE keeps the next number or adds one to it (R127). -/
theorem issueStep_next : (issueStep s).tickets.next = s.tickets.next ∨ (issueStep s).tickets.next = s.tickets.next + 1 := by
  unfold issueStep
  split
  · exact .inl rfl
  · split
    · unfold issueHead
      split
      · split
        · refine .inr ?_
          rw [tryHead_next]
          exact congrArg (fun t : TicketUnit => t.next + 1) (issueRecord_tickets s _ _)
        · exact .inl rfl
      · exact .inl rfl
    · exact .inl (tryHead_next s)

end NextKept

/-! ### The next number through every command -/

section Numbered

variable {s : State} {n : Nat}

/-- The next ticket number is `n`. -/
def Numbered (n : Nat) (s : State) : Prop := s.tickets.next = n

theorem portBlind_numbered : PortBlind (Numbered n) := fun _ _ _ h => h

theorem Numbered.of_next {t : State} (hs : Numbered n s) (h : t.tickets.next = s.tickets.next) : Numbered n t := h.trans hs

theorem Numbered.of_tickets {t : State} (hs : Numbered n s) (h : t.tickets = s.tickets) : Numbered n t :=
  hs.of_next (congrArg TicketUnit.next h)

/-- A command whose body keeps the next number. -/
theorem command_numbered {p : PortId} {k : Byte} {b : Bool} {body : State → Result × State}
    (hb : ∀ x, (body x).2.tickets.next = x.tickets.next) (hs : Numbered n s) :
    ∀ t, command p k b body s = .next t → Numbered n t :=
  command_keeps portBlind_numbered (fun x hx => hx.of_next (hb x)) hs

theorem laneCommand_numbered {p : PortId} {k b : Byte} {body : Lane → State → Result × State}
    (hb : ∀ l x, (body l x).2.tickets = x.tickets) (hs : Numbered n s) :
    ∀ t, laneCommand p k b body s = .next t → Numbered n t :=
  laneCommand_keeps portBlind_numbered (fun l x hx => hx.of_tickets (hb l x)) hs

theorem sessionCommand_numbered {p : PortId} {k b : Byte} {body : CalRecord → Deck → State → Result × State}
    (hb : ∀ r d x, (body r d x).2.tickets = x.tickets) (hs : Numbered n s) :
    ∀ t, calCommand p k b (inSession body) s = .next t → Numbered n t :=
  calCommand_keeps portBlind_numbered (inSession_keeps fun r d x hx => hx.of_tickets (hb r d x)) hs

theorem writeRecordExchange_numbered (p : PortId) (framed : Port → Bool) (w : TableId → Option TableWrite)
    (hs : Numbered n s) : ∀ t, writeRecordExchange p framed w s = .next t → Numbered n t :=
  writeRecordExchange_keeps portBlind_numbered (fun i w x hx => hx.of_tickets (ownerWrite_tickets x i w)) hs

theorem writeTable_numbered (p : PortId) (k : TableId) (w : TableWrite) (hs : Numbered n s) :
    ∀ t, writeTable p k w s = .next t → Numbered n t := writeRecordExchange_numbered p _ _ hs

theorem readCommand_numbered {p : PortId} {r : Reply} {f : State → Reply × Option CursorMove} (hs : Numbered n s) :
    ∀ t, whenRunning s (exchange p (readReply p r f)) = .next t → Numbered n t :=
  whenRunning_keeps hs (exchange_keeps portBlind_numbered (fun _ hx => readReply_keeps portBlind_numbered hx) hs)

/-- An event of a running part that keeps the next number, and one of a timer. -/
theorem whenRunning_numbered {f : State → State} (hf : (f s).tickets.next = s.tickets.next) (hs : Numbered n s) :
    ∀ t, whenRunning s f = .next t → Numbered n t := whenRunning_keeps hs (hs.of_next hf)

theorem whenDue_numbered {late : Nat} {f g : State → State} (hf : (f s).tickets = s.tickets)
    (hg : (g s).tickets = s.tickets) (hs : Numbered n s) : ∀ t, whenDue late f g s = .next t → Numbered n t :=
  whenDue_keeps hs (hs.of_tickets hf) (hs.of_tickets hg)

/-- An effect under a condition, where either outcome leaves the ticket unit alone. -/
theorem tickets_ite {c : Prop} [Decidable c] {f g : State} (hf : f.tickets = s.tickets) (hg : g.tickets = s.tickets) :
    (if c then f else g).tickets = s.tickets := by
  split
  exacts [hf, hg]

theorem next_ite {c : Prop} [Decidable c] {f g : State} (hf : f.tickets = s.tickets) (hg : g.tickets = s.tickets) :
    (if c then f else g).tickets.next = s.tickets.next := congrArg TicketUnit.next (tickets_ite hf hg)

/-- Every command keeps the next ticket number, but TICKET_ISSUE and the starts. -/
theorem exec_keeps_numbered (i : Instr) (hissue : i ≠ .ticketIssue)
    (hstart : ∀ x, i ≠ .powerOn x ∧ i ≠ .externalReset x) (hs : Numbered n s) :
    ∀ t, exec i s = .next t → Numbered n t := by
  have blind := portBlind_numbered (n := n)
  have of_tickets {a b : State} (h : a.tickets = b.tickets) : a.tickets.next = b.tickets.next :=
    congrArg TicketUnit.next h
  cases i with
  | readStatus p => exact whenRunning_keeps hs (exchange_keeps blind (fun _ hx => hx) hs)
  | readParameter | readRecord | readWeight | readJournal => exact readCommand_numbered hs
  | clearNotices | setNoticeEnable => exact command_numbered (fun x => by split <;> rfl) hs
  | writeParameter | writeLaneMode | writeLanePortEnable =>
    exact command_numbered (fun x => of_tickets (writeParam_tickets x _ _ _)) hs
  | selectTable p k i =>
    refine servedCommand_keeps blind (fun x hx => hx.of_tickets ?_) hs
    unfold selectTable
    split
    · rfl
    · split
      · rfl
      · split <;> rfl
  | writeRecord p args =>
    exact writeRecordExchange_numbered p (fun x => writeRecordFramed x args.length) (fun k => tableWriteOf k args) hs
  | writeCategory p name reserve => exact writeTable_numbered p .categories (.category name reserve.toNat) hs
  | removeCategory p => exact writeTable_numbered p .categories .categoryRemove hs
  | writeAccount p w => exact writeTable_numbered p .accounts (.account w) hs
  | deleteAccount p => exact writeTable_numbered p .accounts .accountDelete hs
  | writeSiteCap p cap => exact writeTable_numbered p .siteCaps (.siteCap cap.toNat) hs
  | emptySiteCap p => exact writeTable_numbered p .siteCaps .siteCapEmpty hs
  | writeTare p v t d => exact writeTable_numbered p .tares (.tare v t.toNat d.toNat) hs
  | deleteTare p => exact writeTable_numbered p .tares .tareDelete hs
  | writeTemplate p name head => exact writeTable_numbered p .templates (.template name head.toNat) hs
  | emptyTemplate p => exact writeTable_numbered p .templates .templateEmpty hs
  | writeLine p w => exact writeTable_numbered p .lines (.line w) hs
  | writeRoute p w => exact writeTable_numbered p .routes (.route w) hs
  | followJournal p => exact servedCommand_keeps blind (fun _ hx => hx) hs
  | leaveFollow p =>
    unfold exec execLeaveFollow
    refine whenRunning_keeps hs ?_
    dsimp only
    split
    · exact hs
    · exact takeWithData_keeps blind (s := beginExchange p s) (fun _ hx => hx) hs
  | followExchange p =>
    unfold exec execFollowExchange
    exact whenRunning_numbered (next_ite rfl rfl) hs
  | readCursorMove p =>
    unfold exec execReadCursorMove
    exact whenRunning_keeps hs hs
  | framingDiscard p k a r =>
    unfold exec execFramingDiscard
    exact whenRunning_numbered (next_ite rfl rfl) hs
  | unknownCommand p k =>
    unfold exec execUnknownCommand
    refine whenRunning_keeps hs ?_
    split
    · exact exchange_keeps blind (fun _ hx => hx) hs
    · exact hs
  | announce p b v a k m w =>
    refine whenRunning_keeps hs (exchange_keeps blind (fun x hx => takeWithData_keeps blind (fun y hy => ?_) hx) hs)
    split
    exacts [hy, hy.of_tickets (announceBody_tickets y _ _)]
  | attach p b v =>
    refine whenRunning_keeps hs (exchange_keeps blind (fun x hx => takeWithData_keeps blind (fun y hy => ?_) hx) hs)
    split
    exacts [hy, hy.of_tickets (attachBody_tickets y _ _)]
  | release p b ref => exact laneCommand_numbered (fun l x => by split; exacts [rfl, releaseVisit_tickets x l _]) hs
  | capture p b ref => exact laneCommand_numbered (fun l x => by split; exacts [rfl, captureVisit_tickets x l _]) hs
  | manualRaise p b => exact laneCommand_numbered (fun l x => manualRaise_tickets x l) hs
  | manualLower p b => exact laneCommand_numbered (fun l x => manualLower_tickets x l) hs
  | reprintLast p b =>
    refine laneCommand_numbered (fun l x => ?_) hs
    unfold reprintLast
    split
    exacts [rfl, reprint_tickets x l _]
  | reprintTicket p m b =>
    exact command_numbered (fun x => of_tickets (by split; exacts [rfl, reprint_tickets x _ _])) hs
  | abortPrint p b =>
    refine laneCommand_numbered (fun l x => ?_) hs
    unfold abortPrint
    split
    exacts [rfl, endJob_tickets x l _]
  | zeroDeck p b => exact command_numbered (fun x => of_tickets (by split; exacts [rfl, zeroDeck_tickets x _])) hs
  | voidVisit p m => exact command_numbered (fun x => of_tickets (voidVisit_tickets x _)) hs
  | resolve p m k => exact command_numbered (fun x => resolveVisit_next x _ _) hs
  | archiveUpTo p m => exact command_numbered (fun x => archiveUpTo_next x _) hs
  | setClock p d m => exact command_numbered (fun x => by unfold setClock; split <;> rfl) hs
  | forceRollover p => exact command_numbered rolloverEvent_next hs
  | setOutput p m k => exact command_numbered (fun x => of_tickets (setOutput_tickets x _ _)) hs
  | restartLanes p => exact command_numbered (fun x => of_tickets (restartLanes_tickets x)) hs
  | clearLaneFault p b =>
    exact command_numbered (fun x => of_tickets (by split; exacts [rfl, clearLaneFault_tickets x _])) hs
  | calBegin p b => exact calCommand_keeps blind (fun d x hx => hx.of_tickets (calBegin_tickets x d)) hs
  | calSet p b f => exact sessionCommand_numbered (fun r d x => calSet_tickets x f r d) hs
  | calZero p b => exact sessionCommand_numbered (fun r d x => calZero_tickets x r d) hs
  | calSpan p b m => exact sessionCommand_numbered (fun r d x => calSpan_tickets x _ r d) hs
  | calEnd p b => exact sessionCommand_numbered (fun r d x => calEnd_tickets x p r d) hs
  | calAbandon p b => exact sessionCommand_numbered (fun _ _ _ => rfl) hs
  | lockCalibration p =>
    exact command_numbered (fun x => of_tickets (abandonIdles_tickets (lockUntilPower x) Idx.all)) hs
  | writeSiteNumber p m => exact command_numbered (fun x => of_tickets (writeSiteNumber_tickets x p _)) hs
  | retryStore p => exact command_numbered (fun x => retryStore_next x p) hs
  | sampleOk d c => exact whenRunning_numbered (sampleStep_next s d c) hs
  | sampleCellError d c =>
    unfold exec execSampleCellError
    exact whenRunning_numbered (next_ite rfl (linkFault_tickets s d)) hs
  | linkSilenceTimeout d =>
    unfold exec execLinkSilenceTimeout
    exact whenDue_numbered rfl (tickets_ite (linkFault_tickets s d) rfl) hs
  | captureTimeout d =>
    unfold exec execCaptureTimeout
    exact whenDue_numbered rfl (endCapture_tickets s d _) hs
  | zeroTrackingStep d => exact whenRunning_numbered (of_tickets (trackStep_tickets s d)) hs
  | ticketIssue => exact absurd rfl hissue
  | floorWriteEnd ok => exact whenRunning_numbered (floorWriteEnd_next s ok) hs
  | calWriteEnd ok => exact whenRunning_numbered (calWriteEnd_next s ok) hs
  | siteNumberWriteEnd ok => exact whenRunning_numbered (siteWriteEnd_next s ok) hs
  | clockAdvance =>
    rintro t ⟨⟩
    split
    exacts [hs.of_tickets ((absorbAdvance_keeps s).tickets (by decide)), hs.of_next (countSecond_next s)]
  | overstay m =>
    unfold exec execOverstay
    refine whenRunning_numbered ?_ hs
    split
    · rfl
    · exact next_ite (overstayVisit_tickets s _) rfl
  | loopFilterChange l b =>
    unfold exec execLoopFilterChange
    exact whenRunning_numbered (next_ite rfl ((loopChange_keeps l b s).tickets (by decide))) hs
  | beamFilterChange l b x =>
    unfold exec execBeamFilterChange
    exact whenRunning_keeps hs hs
  | barrierLimitChange l x a =>
    show ∀ t, execBarrierLimitChange l x a s = .next t → Numbered n t
    unfold execBarrierLimitChange
    split
    · rintro t ⟨⟩
      exact hs
    · rintro t ⟨⟩
      exact hs.of_tickets (tickets_ite ((tickets_of_outsideYard (limitActive_outsideYard l x _)).trans rfl) rfl)
  | travelTimeout l =>
    unfold exec execTravelTimeout
    exact whenDue_numbered rfl (tickets_ite (enterFault_tickets s l) rfl) hs
  | passTimeout l =>
    unfold exec execPassTimeout
    exact whenDue_numbered rfl
      (tickets_ite (tickets_ite rfl (tickets_of_outsideYard (stallLane_outsideYard l s))) rfl) hs
  | unannouncedOccupancyTimeout l =>
    unfold exec execUnannouncedOccupancyTimeout
    refine whenDue_numbered rfl ?_ hs
    split <;> rfl
  | metrologySwitchChange b =>
    unfold exec execMetrologySwitchChange
    exact whenRunning_numbered (next_ite rfl (tickets_ite rfl
      (abandonIdles_tickets { s with cal := { s.cal with switchClosed := b } } Idx.all))) hs
  | printByteSent l =>
    unfold exec execPrintByteSent
    exact whenRunning_numbered (next_ite (pumpEngine_tickets _ l) rfl) hs
  | printerReadyChange l b =>
    rintro t ⟨⟩
    exact hs
  | paperOutChange l b =>
    unfold exec execPaperOutChange
    exact whenRunning_numbered (next_ite rfl (tickets_ite (paperGone_tickets s l) (paperBack_tickets s l))) hs
  | pauseTimeout l =>
    unfold exec execPauseTimeout
    exact whenDue_numbered rfl (tickets_ite (endJob_tickets s l _) rfl) hs
  | inputFilterChange m b =>
    unfold exec execInputFilterChange
    exact whenRunning_numbered (next_ite (raiseEvent_tickets _ _ _) rfl) hs
  | outputPulseExpiry m =>
    unfold exec execOutputPulseExpiry
    exact whenDue_numbered rfl (tickets_ite rfl rfl) hs
  | powerOn x => exact absurd rfl (hstart x).1
  | externalReset x => exact absurd rfl (hstart x).2
  | powerLoss b => exact whenRunning_keeps hs hs

/-- Settles O10: every command but TICKET_ISSUE and the starts keeps the next number; TICKET_ISSUE keeps it or adds one, and a
start keeps it where retained memory is valid. -/
theorem ticketNumbersMoveOnlyByIssue : Obligations.TicketNumbersMoveOnlyByIssue := by
  intro i s t h hmoved
  by_cases hissue : i = .ticketIssue
  · subst hissue
    refine .inl ⟨rfl, ?_⟩
    cases h
    split at hmoved
    · rename_i hpower
      rw [if_pos hpower]
      exact (issueStep_next s).resolve_left hmoved
    · exact absurd rfl hmoved
  · have started : ∀ x, t = startPart x s → retainedValid x s = false := fun x ht => by
      by_contra hvalid
      exact hmoved (ht ▸ startPart_next s (Bool.not_eq_false _ ▸ hvalid))
    by_cases hstart : ∃ x, i = .powerOn x ∨ i = .externalReset x
    · obtain ⟨x, rfl | rfl⟩ := hstart
      · cases h
        exact .inr ⟨x, .inl rfl, started x rfl⟩
      · cases h
        exact .inr ⟨x, .inr rfl, started x rfl⟩
    · have hno : ∀ x, i ≠ .powerOn x ∧ i ≠ .externalReset x := fun x =>
        ⟨fun hi => hstart ⟨x, .inl hi⟩, fun hi => hstart ⟨x, .inr hi⟩⟩
      exact absurd (exec_keeps_numbered i hissue hno rfl t h) hmoved

end Numbered

end Sys2Proof.Machine

/-! PROOFS, 07_tickets_and_the_journal (R126 to R131). TICKET_ISSUE: the check word, the record, and what the issue leaves in each
part of the state. -/

namespace Sys2Proof.Machine
open Sys2Proof

/-! ### The check word (R130) -/

section CheckWord

/-- The rotation of the 33 bits by 5, as arithmetic. -/
theorem rotateLeft_five_toNat (q : BitVec 33) :
    (q.rotateLeft 5).toNat = q.toNat * 32 % 2 ^ 33 + q.toNat * 32 / 2 ^ 33 := by
  have hq : q.toNat < 2 ^ 33 := q.isLt
  have hlow : q.toNat / 2 ^ 28 < 2 ^ 5 := by omega
  have hhigh : q.toNat * 32 % 2 ^ 33 = (q.toNat % 2 ^ 28) <<< 5 := by
    rw [Nat.shiftLeft_eq]
    omega
  have hover : q.toNat * 32 / 2 ^ 33 = q.toNat / 2 ^ 28 := by omega
  rw [BitVec.toNat_rotateLeft, Nat.shiftLeft_eq, Nat.shiftRight_eq_div_pow]
  show q.toNat * 32 % 2 ^ 33 ||| q.toNat / 2 ^ 28 = _
  rw [hover, hhigh, Nat.shiftLeft_add_eq_or_of_lt hlow]

/-- An exclusive-or with a word reaches the low 16 bits alone. -/
theorem xor_word {r w : Nat} (hw : w < 65536) : r ^^^ w = r / 65536 * 65536 + (r % 65536 ^^^ w) := by
  have hhigh : (r ^^^ w) / 2 ^ 16 = r / 2 ^ 16 := by
    rw [Nat.xor_div_two_pow, Nat.div_eq_of_lt (a := w) (b := 2 ^ 16) hw, Nat.xor_zero]
  have hlow : (r ^^^ w) % 2 ^ 16 = r % 2 ^ 16 ^^^ w := by
    rw [Nat.xor_mod_two_pow, Nat.mod_eq_of_lt (a := w) (b := 2 ^ 16) hw]
  calc r ^^^ w = (r ^^^ w) / 2 ^ 16 * 2 ^ 16 + (r ^^^ w) % 2 ^ 16 := (Nat.div_add_mod' _ _).symm
    _ = r / 65536 * 65536 + (r % 65536 ^^^ w) := congrArg₂ (· * 2 ^ 16 + ·) hhigh hlow

theorem checkStep_toNat (q : BitVec 33) {w : Nat} (hw : w < 65536) : (checkStep q w).toNat = turned q.toNat w := by
  have hword : ((BitVec.ofNat 16 w).setWidth 33).toNat = w := by
    rw [BitVec.toNat_setWidth, BitVec.toNat_ofNat]
    omega
  unfold checkStep turned
  rw [BitVec.toNat_xor, rotateLeft_five_toNat, hword]
  exact xor_word hw

theorem foldl_checkStep_toNat (words : List Nat) (hw : ∀ w ∈ words, w < 65536) (q : BitVec 33) :
    (words.foldl checkStep q).toNat = words.foldl turned q.toNat := by
  induction words generalizing q with
  | nil => rfl
  | cons w words ih =>
    rw [List.foldl_cons, List.foldl_cons, ih fun x hx => hw x (List.mem_cons_of_mem _ hx),
      checkStep_toNat q (hw w List.mem_cons_self)]

theorem checkWord_toNat {site : Nat} {words : List Nat} (hsite : site < 65536) (hw : ∀ w ∈ words, w < 65536) :
    (checkWord site words).toNat = words.foldl turned site % 2 ^ 32 := by
  have hstart : (BitVec.ofNat 33 site).toNat = site := by
    rw [BitVec.toNat_ofNat]
    omega
  unfold checkWord
  rw [BitVec.toNat_setWidth, foldl_checkStep_toNat words hw, hstart]

theorem twoWords_eq_halves (w : Int) : twoWords w = halves w := by
  have hwrapped : (BitVec.ofInt 32 w).toNat = (w % 4294967296).toNat := BitVec.toNat_ofInt w
  have hupper : (w % 4294967296).toNat / 65536 = (w / 65536 % 65536).toNat := by omega
  have hlower : (w % 4294967296).toNat % 65536 = (w % 65536).toNat := by omega
  unfold twoWords halves
  rw [hwrapped]
  dsimp only
  rw [hupper, hlower]

theorem checkWords_eq_wordsOf (k : TicketRecord) : checkWords k = wordsOf k := by
  unfold checkWords wordsOf
  simp only [twoWords_eq_halves]
  cases hkind : k.kind <;> cases hsource : k.tareSource <;> cases k.second <;> rfl

end CheckWord

/-! ### The record (R128) -/

section Record

variable {s : State} {v : Visit} {l : Lane} {f : CapturedWeight} {site : Nat}

theorem settle_eq (a : Amounts) (reserve net : Nat) : a.settle reserve net =
    { a with held := a.held - reserve, debited := a.debited + net,
             overrun := a.overrun || decide ((a.allow : Int) - (a.debited + net : Nat) - (a.held - reserve : Nat) < 0) } := rfl

theorem settleAnswer_overrun_iff (row : Option Amounts) :
    (settleAnswer v.reserve (v.net.getD 0).toNat row).overrun = true ↔ ∃ a, row = some a ∧ LeftBelow v a := by
  cases row with
  | none => simp [settleAnswer]
  | some a =>
    have hbelow : (settleAnswer v.reserve (v.net.getD 0).toNat (some a)).overrun = true ↔ LeftBelow v a := decide_eq_true_iff
    rw [hbelow]
    simp

theorem accountRow_eq_some_iff {n c : Nat} {x : Amounts} :
    accountRow s n c = some x ↔ ∃ a r, findAccount s n = some a ∧ a.row c = some r ∧ r.amounts = x := by
  simp [accountRow, Option.bind_eq_some_iff]

/-- A delivery's ticket is marked where the settlement leaves either of its two rows below zero (R83). -/
theorem ticketOverrun_iff : ticketOverrun s v = true ↔ v.kind = .delivery
    ∧ ((∃ a r, findAccount s v.account = some a ∧ a.row v.category = some r ∧ LeftBelow v r.amounts)
      ∨ ∃ cap, Table.find s.allow.caps v.category = some cap ∧ LeftBelow v cap) := by
  unfold ticketOverrun
  cases v.kind with
  | collection => simp
  | delivery =>
    have hanswer : (settlementAnswer s v.account v.category v.reserve (v.net.getD 0).toNat).overrun = true ↔
        (∃ x, accountRow s v.account v.category = some x ∧ LeftBelow v x)
          ∨ ∃ cap, Table.find s.allow.caps v.category = some cap ∧ LeftBelow v cap := by
      rw [← settleAnswer_overrun_iff, ← settleAnswer_overrun_iff]
      exact Bool.or_eq_true_iff
    dsimp only
    rw [hanswer]
    simp only [accountRow_eq_some_iff]
    constructor
    · rintro (⟨_, ⟨a, r, ha, hr, rfl⟩, hbelow⟩ | hcap)
      exacts [⟨trivial, .inl ⟨a, r, ha, hr, hbelow⟩⟩, ⟨trivial, .inr hcap⟩]
    · rintro ⟨-, ⟨a, r, ha, hr, hbelow⟩ | hcap⟩
      exacts [.inl ⟨_, ⟨a, r, ha, hr, rfl⟩, hbelow⟩, .inr hcap]

theorem tareValue_eq (v : Visit) (f : CapturedWeight) : tareValue v f =
    if v.tareSource = .stored then (v.storedTare.getD 0 : Int)
    else if v.kind = .delivery then (v.second.getD f).weight else f.weight := by
  unfold tareValue
  cases v.tareSource <;> cases v.kind <;> rfl

/-- The record that the issue forms. -/
def issuedRecord (s : State) (v : Visit) (l : Lane) (f : CapturedWeight) (site : Nat) : TicketRecord :=
  ticketRecord s v l f site (ticketOverrun s v)

theorem issuedRecord_ticketOf (s : State) (v : Visit) (l : Lane) (f : CapturedWeight) (site : Nat) :
    TicketOf s v l f site (issuedRecord s v l f site) := by
  have hcheck : (issuedRecord s v l f site).check = checkWord site (wordsOf (issuedRecord s v l f site)) :=
    congrArg (checkWord site) (checkWords_eq_wordsOf (issuedRecord s v l f site))
  exact ⟨rfl, rfl, rfl, rfl, rfl, rfl, rfl, rfl, rfl, rfl, rfl, tareValue_eq v f, rfl, rfl, rfl, rfl, ticketOverrun_iff, rfl, rfl,
    hcheck⟩

end Record

/-! ### What each step of the issue leaves alone (R127) -/

section Steps

variable {ps : List Part} (s : State)

/-- A ticket's settlement, before its outcome is told: a delivery's two rows settled and its reserve returned (R59, R82). -/
theorem settleTicket_hide (hy : HidesYard ps) (hv : .visits ∈ ps) (ha : .allow ∈ ps) (v : Visit) (n : Nat) :
    (settleTicket v n s).hide ps = s.hide ps := by
  have settled : ∀ f g, (modVisit v.number f (modBothRows v.account v.category g s)).hide ps = s.hide ps := fun f g =>
    (modVisit_hide hv _ _).trans (modBothRows_hide ha _ _ _)
  unfold settleTicket overrunOutcome
  split
  · rfl
  · dsimp only
    split
    · exact (hide_of_yard hy ((raiseNotice_outsideYard _ _ _).trans (raiseEvent_outsideYard _ _ _))).trans (settled _ _)
    · exact settled _ _

theorem placeTare_hide (hp : .ports ∈ ps) (ht : .tares ∈ ps) (x : Text) (w : CapturedWeight) :
    (placeTare x w s).hide ps = s.hide ps := by
  unfold placeTare
  dsimp only
  split
  · split
    exacts [rfl, setTare_hide ht _ _]
  · split
    · exact setTare_hide ht _ _
    · split
      exacts [setTare_hide ht _ _, modPort_hide hp _ _]

theorem keepTare_hide (hp : .ports ∈ ps) (ht : .tares ∈ ps) (v : Visit) : (keepTare v s).hide ps = s.hide ps := by
  unfold keepTare
  split
  exacts [rfl, placeTare_hide s hp ht _ _]

theorem ticketVisit_hide (hy : HidesYard ps) (hv : .visits ∈ ps) (v : Visit) (k : TicketRecord) :
    (ticketVisit v k s).hide ps = s.hide ps :=
  (hide_of_yard hy (handHead_outsideYard _ _ _)).trans ((modReport_hide hy _ _).trans (modVisit_hide hv _ _))

theorem queueOriginal_hide (hy : HidesYard ps) (ht : .templates ∈ ps) (l : Lane) (k : TicketRecord) :
    (queueOriginal l k s).hide ps = s.hide ps := by
  have hqueue := queueJob_hide (s := s) hy ht l k false
  unfold queueOriginal
  split <;> rename_i h <;> rw [h] at hqueue
  · exact hqueue
  · exact (modPrinter_hide hy l _).trans ((raiseLaneOffice_hide hy _ l).trans ((raiseAt_hide hy _ l).trans hqueue))

theorem announceTicket_hide (hy : HidesYard ps) (k : TicketRecord) : (announceTicket k s).hide ps = s.hide ps :=
  (raiseLaneOffice_hide hy _ _).trans ((raiseAt_hide hy _ _).trans (modReport_hide hy _ _))

theorem finishIssue_hide (ht : .tickets ∈ ps) : (finishIssue s).hide ps = s.hide ps := by
  simp [State.hide, finishIssue, ht]

end Steps

/-! ### The stages of an issue -/

section Stages

variable {s : State} {v : Visit} {k : TicketRecord} {ps : List Part}

/-- The settlement is made on the appended record. -/
def issueSettled (v : Visit) (k : TicketRecord) (s : State) : State :=
  settleTicket v k.net.toNat (appendEntry (.ticket k) s)

/-- The tare is handed on and the ticket counted. -/
def issueCounted (v : Visit) (k : TicketRecord) (s : State) : State :=
  countTicket k.kind k.category k.net.toNat (keepTare v (issueSettled v k s))

/-- The visit has moved and its lane is told. -/
def issueTold (v : Visit) (k : TicketRecord) (s : State) : State := ticketVisit v k (issueCounted v k s)

/-- The issue up to its ORIGINAL job. -/
def issueQueued (v : Visit) (k : TicketRecord) (s : State) : State := queueOriginal k.lane k (issueTold v k s)

/-- The issue whole: the job queued, the ticket announced, the request gone, and the next head tried. -/
def issueDone (v : Visit) (k : TicketRecord) (s : State) : State :=
  tryHead (finishIssue (announceTicket k (issueQueued v k s)))

theorem issueSettled_hide (hy : HidesYard ps) (hj : .journal ∈ ps) (hv : .visits ∈ ps) (ha : .allow ∈ ps) :
    (issueSettled v k s).hide ps = s.hide ps := (settleTicket_hide _ hy hv ha _ _).trans (appendEntry_hide hy hj _)

theorem issueCounted_hide (hp : .ports ∈ ps) (hr : .tares ∈ ps) (ha : .allow ∈ ps) :
    (issueCounted v k s).hide ps = (issueSettled v k s).hide ps :=
  (countTicket_hide ha _ _ _).trans (keepTare_hide _ hp hr v)

/-- What the issue does once the visit and its lane are told. -/
theorem issueDone_hide_told (hy : HidesYard ps) (hp : .templates ∈ ps) (ht : .tickets ∈ ps) (hn : .nv ∈ ps) :
    (issueDone v k s).hide ps = (issueTold v k s).hide ps :=
  (tryHead_hide hn ht).trans ((finishIssue_hide _ ht).trans ((announceTicket_hide _ hy k).trans (queueOriginal_hide _ hy hp _ k)))

theorem issueDone_hide_counted (hy : HidesYard ps) (hp : .templates ∈ ps) (ht : .tickets ∈ ps) (hn : .nv ∈ ps)
    (hv : .visits ∈ ps) : (issueDone v k s).hide ps = (issueCounted v k s).hide ps :=
  (issueDone_hide_told hy hp ht hn).trans (ticketVisit_hide _ hy hv v k)

/-- The parts that an issue reaches. -/
def issueParts : List Part := [.visits, .tares, .allow, .tickets, .journal, .templates, .nv] ++ yardParts

/-- The parts it reaches once the visit and its lane are told. -/
def laterParts : List Part := [.tickets, .templates, .nv] ++ yardParts

theorem laterParts_yard : HidesYard laterParts := by unfold HidesYard; decide

theorem issueDone_keeps (v : Visit) (k : TicketRecord) (s : State) : KeepsAllBut issueParts s (issueDone v k s) := by
  have hy : HidesYard issueParts := by unfold HidesYard; decide
  exact (issueDone_hide_counted hy (by decide) (by decide) (by decide) (by decide)).trans
    ((issueCounted_hide (by decide) (by decide) (by decide)).trans (issueSettled_hide hy (by decide) (by decide) (by decide)))

/-- The TICKET record is the one entry that an issue appends. -/
theorem issueDone_journal (v : Visit) (k : TicketRecord) (s : State) :
    (issueDone v k s).journal = s.journal.push (.ticket k) := by
  have hy : HidesYard ([.visits, .tares, .allow] ++ laterParts) := by unfold HidesYard; decide
  have hlater : KeepsAllBut ([.visits, .tares, .allow] ++ laterParts) (appendEntry (.ticket k) s) (issueDone v k s) :=
    (issueDone_hide_counted hy (by decide) (by decide) (by decide) (by decide)).trans
      ((issueCounted_hide (by decide) (by decide) (by decide)).trans (settleTicket_hide _ hy (by decide) (by decide) _ _))
  rw [hlater.journal (by decide), appendEntry_journal]

/-- An issue leaves the ticket unit with the request gone and the number moved on (R127). -/
theorem issueDone_tickets (v : Visit) (k : TicketRecord) (s : State) :
    (issueDone v k s).tickets.next = s.tickets.next + 1 ∧ (issueDone v k s).tickets.queue = s.tickets.queue.drop 1 := by
  obtain ⟨hnext, -, hqueue, -⟩ := tryHead_tickets (s := finishIssue (issueRecord v k s))
  have hfinished : (finishIssue (issueRecord v k s)).tickets =
      { s.tickets with next := s.tickets.next + 1, queue := s.tickets.queue.drop 1 } := by
    rw [← issueRecord_tickets s v k]
    rfl
  rw [hfinished] at hnext hqueue
  exact ⟨hnext, hqueue⟩

/-! #### The visit (R59) -/

/-- A visit whose reserve has been returned. -/
def Visit.returned (v : Visit) : Visit := { v with reserve := 0 }

/-- A visit that has taken its ticket and moved. -/
def Visit.ticketed (k : TicketRecord) (v : Visit) : Visit := { v with ticket := some k.number, state := ticketedState k }

/-- A visit as the settlement leaves it: a delivery's reserve is returned. -/
def Visit.settled (v : Visit) : Visit := if v.kind = .delivery then v.returned else v

theorem findVisit_returned (hv : findVisit s v.number = some v) (m : Nat) :
    findVisit (modVisit v.number Visit.returned s) m = if m = v.number then some v.returned else findVisit s m := by
  rw [findVisit_modVisit (f := Visit.returned) (fun _ => rfl), hv]
  rfl

theorem findVisit_ticketed {u : Visit} (hv : findVisit s v.number = some u) (m : Nat) :
    findVisit (modVisit v.number (Visit.ticketed k) s) m = if m = v.number then some (u.ticketed k) else findVisit s m := by
  rw [findVisit_modVisit (f := Visit.ticketed k) (fun _ => rfl), hv]
  rfl

theorem settleTicket_visits (v : Visit) (n : Nat) (s : State) : (settleTicket v n s).visits =
    if v.kind = .delivery then (modVisit v.number Visit.returned s).visits else s.visits := by
  unfold settleTicket overrunOutcome
  cases v.kind with
  | collection => rfl
  | delivery =>
    dsimp only
    split
    · exact (visits_of_outsideYard ((raiseNotice_outsideYard _ _ _).trans (raiseEvent_outsideYard _ _ _))).trans rfl
    · rfl

theorem issueSettled_findVisit (hv : findVisit s v.number = some v) (m : Nat) :
    findVisit (issueSettled v k s) m = if m = v.number then some v.settled else findVisit s m := by
  have happended : ∀ x, findVisit (appendEntry (.ticket k) s) x = findVisit s x := findVisit_congr (appendEntry_visits s _)
  have hvisits := settleTicket_visits v k.net.toNat (appendEntry (.ticket k) s)
  by_cases hkind : v.kind = .delivery
  · rw [if_pos hkind] at hvisits
    refine (findVisit_congr hvisits m).trans ?_
    rw [findVisit_returned ((happended _).trans hv), happended, Visit.settled, if_pos hkind]
  · rw [if_neg hkind] at hvisits
    refine ((findVisit_congr hvisits m).trans (happended m)).trans ?_
    rw [Visit.settled, if_neg hkind]
    split
    · rename_i hm
      rw [hm, hv]
    · rfl

/-- What an issue shows of the visits: its own one is settled, numbered and moved. -/
theorem issueDone_findVisit (hv : findVisit s v.number = some v) (m : Nat) : findVisit (issueDone v k s) m =
    if m = v.number then some (v.settled.ticketed k) else findVisit s m := by
  have hlater : KeepsAllBut laterParts (issueTold v k s) (issueDone v k s) :=
    issueDone_hide_told laterParts_yard (by decide) (by decide) (by decide)
  have hcounted : KeepsAllBut [.tares, .allow, .ports] (issueSettled v k s) (issueCounted v k s) :=
    issueCounted_hide (by decide) (by decide) (by decide)
  have htold : (issueTold v k s).visits = (modVisit v.number (Visit.ticketed k) (issueCounted v k s)).visits :=
    handHead_visits _ _ _
  have hsettled : ∀ x, findVisit (issueCounted v k s) x = if x = v.number then some v.settled else findVisit s x := fun x =>
    (findVisit_congr (hcounted.visits (by decide)) x).trans (issueSettled_findVisit hv x)
  rw [findVisit_congr (hlater.visits (by decide)), findVisit_congr htold,
    findVisit_ticketed ((hsettled v.number).trans (if_pos rfl)), hsettled]
  split <;> rfl

/-! #### The tare (R70) -/

theorem placeTare_tares_congr {t : State} (h : t.tares = s.tares) (x : Text) (w : CapturedWeight) :
    (placeTare x w t).tares = (placeTare x w s).tares := by
  unfold placeTare tareEntryOf
  dsimp only
  rw [h]
  split
  · split
    · exact h
    · unfold setTare
      rw [h]
  · split
    · unfold setTare
      rw [h]
    · split
      · unfold setTare
        rw [h]
      · exact h

/-- The rows as the settlement of a visit's ticket leaves them (R82). -/
def rowsSettled (v : Visit) (n : Nat) (s : State) : State :=
  if v.kind = .delivery then modBothRows v.account v.category (Amounts.settle v.reserve n) s else s

theorem settleTicket_allow (v : Visit) (n : Nat) (s : State) : (settleTicket v n s).allow = (rowsSettled v n s).allow := by
  unfold settleTicket overrunOutcome rowsSettled
  cases v.kind with
  | collection => rfl
  | delivery =>
    dsimp only
    split
    · exact (allow_of_outsideYard ((raiseNotice_outsideYard _ _ _).trans (raiseEvent_outsideYard _ _ _))).trans rfl
    · rfl

theorem rowsSettled_allow_congr {t : State} (h : t.allow = s.allow) (v : Visit) (n : Nat) :
    (rowsSettled v n t).allow = (rowsSettled v n s).allow := by
  unfold rowsSettled modBothRows modCap modRow
  split
  · dsimp only
    rw [h]
  · exact h

theorem issueSettled_allow (v : Visit) (k : TicketRecord) (s : State) :
    (issueSettled v k s).allow = (rowsSettled v k.net.toNat s).allow :=
  (settleTicket_allow v _ _).trans (rowsSettled_allow_congr (appendEntry_allow _ s) v _)

/-- A change of rows is found at the account it was made at, whose other fields it keeps. -/
theorem findAccount_modRow_keepTares (m c : Nat) (f : Amounts → Amounts) (s : State) (n : Nat) :
    (findAccount (modRow m c f s) n).map (·.keepTares) = (findAccount s n).map (·.keepTares) := by
  have changed : ∀ xs : List Account, ((xs.map fun a => if a.number = m then
      { a with rows := a.rows.map fun r => if r.category = c then { r with amounts := f r.amounts } else r } else a).find?
        fun a => a.number = n).map (·.keepTares) = (xs.find? fun a => a.number = n).map (·.keepTares) := fun xs => by
    rw [List.find?_map, Option.map_map]
    congr 1
    · funext a
      dsimp only [Function.comp]
      split <;> rfl
    · congr 1
      funext a
      dsimp only [Function.comp]
      split <;> rfl
  have haccounts := changed (s.allow.accounts.map Prod.snd)
  rw [List.map_map] at haccounts
  unfold findAccount modRow Table.mapVals
  rw [List.map_map]
  exact haccounts

theorem rowsSettled_keepTares (v : Visit) (m : Nat) (s : State) (n : Nat) :
    (findAccount (rowsSettled v m s) n).map (·.keepTares) = (findAccount s n).map (·.keepTares) := by
  unfold rowsSettled
  split
  exacts [findAccount_modRow_keepTares _ _ _ s n, rfl]

theorem findAccount_congr {t : State} (h : t.allow = s.allow) (n : Nat) : findAccount t n = findAccount s n := by
  unfold findAccount
  rw [h]

/-- What a ticket keeps as a tare is not moved by its settlement. -/
theorem issueSettled_keptTare (v : Visit) (k : TicketRecord) (s : State) : keptTare (issueSettled v k s) v = keptTare s v := by
  have hkeep : (findAccount (issueSettled v k s) v.account).map (·.keepTares)
      = (findAccount s v.account).map (·.keepTares) := by
    rw [findAccount_congr (issueSettled_allow v k s), rowsSettled_keepTares]
  unfold keptTare
  rw [hkeep]

theorem issueDone_tares (v : Visit) (k : TicketRecord) (s : State) :
    (issueDone v k s).tares = match keptTare s v with
      | none => s.tares
      | some w => (placeTare v.vehicle w s).tares := by
  have hy : HidesYard ([.visits, .allow] ++ laterParts) := by unfold HidesYard; decide
  have hlater : KeepsAllBut ([.visits, .allow] ++ laterParts) (keepTare v (issueSettled v k s)) (issueDone v k s) :=
    (issueDone_hide_counted hy (by decide) (by decide) (by decide) (by decide)).trans (countTicket_hide (by decide) _ _ _)
  have hsettled : KeepsAllBut ([.visits, .allow, .journal] ++ yardParts) s (issueSettled v k s) :=
    issueSettled_hide (by unfold HidesYard; decide) (by decide) (by decide) (by decide)
  have htares : (issueSettled v k s).tares = s.tares := hsettled.tares (by decide)
  have hkept := issueSettled_keptTare v k s
  rw [hlater.tares (by decide)]
  cases h : keptTare s v with
  | none => rw [keepTare_none (hkept.trans h), htares]
  | some w => rw [keepTare_some (hkept.trans h), placeTare_tares_congr htares]

/-! #### The rows and the counters (R82, R90) -/

theorem countTicket_allow_congr {t : State} (h : t.allow = s.allow) (x : VisitKind) (c n : Nat) :
    (countTicket x c n t).allow = (countTicket x c n s).allow := by
  unfold countTicket countersOf
  dsimp only
  rw [h]

/-- Of the allowance unit an issue leaves the settled rows and the counted ticket. -/
theorem issueDone_allow (v : Visit) (k : TicketRecord) (s : State) :
    (issueDone v k s).allow = (countTicket k.kind k.category k.net.toNat (rowsSettled v k.net.toNat s)).allow := by
  have hlater : KeepsAllBut (.visits :: laterParts) (issueCounted v k s) (issueDone v k s) :=
    issueDone_hide_counted (by unfold HidesYard; decide) (by decide) (by decide) (by decide) (by decide)
  have hkept : KeepsAllBut [.tares, .ports] (issueSettled v k s) (keepTare v (issueSettled v k s)) :=
    keepTare_hide _ (by decide) (by decide) v
  rw [hlater.allow (by decide)]
  exact countTicket_allow_congr ((hkept.allow (by decide)).trans (issueSettled_allow v k s)) _ _ _

/-- A category's counters with a ticket of a kind and a net added. -/
def SiteCounters.plus (x : SiteCounters) (kind : VisitKind) (net : Nat) : SiteCounters :=
  { delivered := if kind = .delivery then x.delivered + net else x.delivered
    collected := if kind = .delivery then x.collected else x.collected + net
    tickets := x.tickets + 1 }

theorem countTicket_countersOf (kind : VisitKind) (c net : Nat) (s : State) (d : Nat) :
    countersOf (countTicket kind c net s) d = if d = c then (countersOf s c).plus kind net else countersOf s d := by
  unfold countTicket
  exact (Table.getD_put _ _ _ _ _).trans (by cases kind <;> rfl)

theorem countersOf_congr {t : State} (h : t.allow = s.allow) (c : Nat) : countersOf t c = countersOf s c := by
  unfold countersOf
  rw [h]

theorem rowsSettled_countersOf (v : Visit) (n : Nat) (s : State) (c : Nat) :
    countersOf (rowsSettled v n s) c = countersOf s c := by
  unfold rowsSettled
  split <;> rfl

theorem issueDone_countersOf (v : Visit) (k : TicketRecord) (s : State) (c : Nat) : countersOf (issueDone v k s) c =
    if c = k.category then (countersOf s k.category).plus k.kind k.net.toNat else countersOf s c := by
  rw [countersOf_congr (issueDone_allow v k s), countTicket_countersOf, rowsSettled_countersOf, rowsSettled_countersOf]

theorem issueDone_accounts (v : Visit) (k : TicketRecord) (s : State) : (issueDone v k s).allow.accounts =
    if v.kind = .delivery then (modRow v.account v.category (fun a => a.settle v.reserve k.net.toNat) s).allow.accounts
    else s.allow.accounts := by
  rw [issueDone_allow]
  show (rowsSettled v k.net.toNat s).allow.accounts = _
  unfold rowsSettled
  split <;> rfl

theorem issueDone_caps (v : Visit) (k : TicketRecord) (s : State) : (issueDone v k s).allow.caps =
    if v.kind = .delivery then s.allow.caps.map fun p => if p.1 = v.category then (p.1, p.2.settle v.reserve k.net.toNat) else p
    else s.allow.caps := by
  rw [issueDone_allow]
  show (rowsSettled v k.net.toNat s).allow.caps = _
  unfold rowsSettled
  split <;> rfl

/-- Rows and counters are all of the allowance unit that an issue moves. -/
theorem issueDone_allow_frame (v : Visit) (k : TicketRecord) (s : State) : (issueDone v k s).allow =
    { s.allow with accounts := (issueDone v k s).allow.accounts, caps := (issueDone v k s).allow.caps
                   counters := (issueDone v k s).allow.counters } := by
  rw [issueDone_allow]
  unfold countTicket rowsSettled
  split <;> rfl

end Stages

end Sys2Proof.Machine

/-! PROOFS, 07_tickets_and_the_journal (R126, R127), 08_ticket_printing (R145) and 06_lanes_and_barriers. What an issue leaves at
the issuing lane: its report, its print engine, the routes and the notices; and TICKET_ISSUE. -/

namespace Sys2Proof.Machine
open Sys2Proof

/-! ### A lane's report but for its last capture -/

section Reports

variable {s t : State} {l : Lane}

/-- What a lane reports but for its last capture, which routes and sequencers can reach (R101, R161). -/
def reportKept (l : Lane) (s : State) : LaneReport := (s.lane l).outsideRoutes.report

theorem reportKept_of_aside (h : Aside l s t) : reportKept l t = reportKept l s := congrArg LaneUnit.report h.lane

theorem reportKept_congr (h : t.lanes = s.lanes) : reportKept l t = reportKept l s := by
  unfold reportKept State.lane
  rw [h]

@[simp] theorem reportKept_modSeq (f : Sequencer → Sequencer) : reportKept l (s.modSeq l f) = reportKept l s := by
  unfold reportKept
  rw [modSeq_lane]
  rfl

@[simp] theorem reportKept_modBarrier (f : Barrier → Barrier) : reportKept l (s.modBarrier l f) = reportKept l s := by
  unfold reportKept
  rw [modBarrier_lane]
  rfl

@[simp] theorem reportKept_modPrinter (f : PrintEngine → PrintEngine) : reportKept l (s.modPrinter l f) = reportKept l s := by
  unfold reportKept
  rw [modPrinter_lane]
  rfl

theorem reportKept_modReport (f : LaneReport → LaneReport) :
    reportKept l (s.modReport l f) = { f (s.lane l).report with lastCapture := .none } := by
  unfold reportKept
  rw [modReport_lane]
  rfl

/-! #### The hand-over of a head (R46) -/

@[simp] theorem reportKept_raiseRequest : reportKept l (raiseRequest l s) = reportKept l s := reportKept_modBarrier _
@[simp] theorem reportKept_lowerRequest : reportKept l (lowerRequest l s) = reportKept l s := reportKept_modBarrier _

@[simp] theorem reportKept_lowerUnlessDown : reportKept l (lowerUnlessDown l s) = reportKept l s := by
  unfold lowerUnlessDown
  split <;> simp

@[simp] theorem reportKept_enterOpen : reportKept l (enterOpen l s) = reportKept l s := by
  unfold enterOpen
  split <;> simp

@[simp] theorem reportKept_enterReleasing : reportKept l (enterReleasing l s) = reportKept l s := by
  unfold enterReleasing
  dsimp only
  split <;> simp

@[simp] theorem reportKept_enterHeld : reportKept l (enterHeld l s) = reportKept l s :=
  reportKept_lowerUnlessDown.trans (reportKept_modSeq _)

theorem reportKept_acceptStart (n : Nat) : reportKept l (acceptStart l n s) = reportKept l s := by
  have captured : ∀ f, reportKept l (s.modDeck l f) = reportKept l s := fun _ => rfl
  unfold acceptStart
  dsimp only
  split
  exacts [(reportKept_modSeq _).trans (captured _), captured _]

@[simp] theorem reportKept_autoStart : reportKept l (autoStart l s) = reportKept l s := by
  unfold autoStart
  split
  · rfl
  · unfold startForHead
    split
    exacts [reportKept_acceptStart _, reportKept_modReport _]

@[simp] theorem reportKept_actInOccupied (b : Bool) : reportKept l (actInOccupied l b s) = reportKept l s := by
  unfold actInOccupied
  split
  · split <;> simp
  all_goals simp

@[simp] theorem reportKept_enterIdle : reportKept l (enterIdle l s) = reportKept l s := reportKept_modSeq _
@[simp] theorem reportKept_enterOccupied : reportKept l (enterOccupied l s) = reportKept l s :=
  (reportKept_actInOccupied true).trans (reportKept_modSeq _)

@[simp] theorem reportKept_enterClosing : reportKept l (enterClosing l s) = reportKept l s := by
  unfold enterClosing closingDone
  dsimp only
  split
  · split <;> simp
  · simp

@[simp] theorem reportKept_settle : reportKept l (settle l s) = reportKept l s := by
  unfold settle
  dsimp only
  split
  · simp
  · split
    · simp
    · split
      · simp
      · split <;> simp
    all_goals
      split
      · simp
      · split <;> simp

theorem reportKept_handHeadAuto (b : Bool) : reportKept l (handHeadAuto l b s) = reportKept l s := by
  have cleared : reportKept l (if headClass s l = .holding then enterHeld l s else s) = reportKept l s := by split <;> simp
  unfold handHeadAuto
  split
  · simp
  · split <;> simp
  · simp
  · split
    exacts [reportKept_enterClosing, cleared]
  · split
    exacts [reportKept_enterClosing, cleared]
  · exact cleared
  · exact cleared
  all_goals rfl

theorem reportKept_handHead (b : Bool) : reportKept l (handHead l b s) = reportKept l s := by
  have kept : reportKept l (keepHead l s) = reportKept l s := reportKept_modSeq _
  unfold handHead
  dsimp only
  split
  exacts [(reportKept_handHeadAuto b).trans kept, kept]

/-! #### The print engine (R146 to R152) -/

theorem reportKept_raiseAt (e : EventKind) (k : Lane) : reportKept l (raiseAt e k s) = reportKept l s :=
  reportKept_of_aside (raiseAt_aside l e k s)

theorem reportKept_raiseLaneOffice (n : Notice) (k : Lane) : reportKept l (raiseLaneOffice n k s) = reportKept l s :=
  reportKept_of_aside (raiseLaneOffice_aside l n k s)

theorem reportKept_closeJob (r : PrintResult) : reportKept l (closeJob l r s) = reportKept l s := by
  have uncounted : ∀ j, reportKept l (uncountJob j s) = reportKept l s := fun j => by
    unfold uncountJob
    split <;> rfl
  have emptied : ∀ j f, reportKept l ((uncountJob j s).modPrinter l f) = reportKept l s := fun j f =>
    (reportKept_modPrinter f).trans (uncounted j)
  unfold closeJob
  split
  · rfl
  · dsimp only
    rw [reportKept_modPrinter]
    split
    · exact (reportKept_raiseLaneOffice _ _).trans ((reportKept_raiseAt _ _).trans (emptied _ _))
    all_goals exact (reportKept_raiseAt _ _).trans (emptied _ _)

theorem reportKept_startJob : reportKept l (startJob l s) = reportKept l s := by
  have counted : ∀ i, reportKept l (modInUse i (· + 1) s) = reportKept l s := fun _ => rfl
  have started : ∀ (i : Nat) (w : JobWalk) (f : PrintEngine → PrintEngine),
      reportKept l ((setWalk l w (modInUse i (· + 1) s)).modPrinter l f) = reportKept l s := fun i _ f =>
    (reportKept_modPrinter f).trans ((reportKept_modPrinter _).trans (counted i))
  unfold startJob
  dsimp only
  split
  · rfl
  · split
    · exact reportKept_closeJob _
    · split
      · exact (reportKept_raiseLaneOffice _ _).trans ((reportKept_modPrinter _).trans (started _ _ _))
      · exact started _ _ _

theorem reportKept_engineMove (h : engineMove l s = some t) : reportKept l t = reportKept l s := by
  unfold engineMove at h
  dsimp only at h
  split at h
  · cases h
  · split at h
    · cases h; exact reportKept_startJob
    · split at h
      · cases h
      · split at h
        · split at h
          · cases h; exact reportKept_closeJob _
          · cases h
        · split at h
          · split at h
            · cases h; exact reportKept_closeJob _
            · split at h
              · cases h; exact reportKept_closeJob _
              · cases h; exact (reportKept_modPrinter _).trans (reportKept_modPrinter _)
          · cases h

theorem reportKept_pumpEngine : reportKept l (pumpEngine l s) = reportKept l s := by
  unfold pumpEngine
  generalize 32 = n
  induction n generalizing s with
  | zero => rfl
  | succ n ih =>
    unfold runEngine
    split
    · rfl
    · exact ih.trans (reportKept_engineMove ‹_›)

end Reports

/-! ### The ORIGINAL job (R145) -/

section Original

variable {s : State} {l : Lane} {k : TicketRecord}

/-- The lane with the ORIGINAL job of a ticket put at the end of its queue. -/
def jobJoined (l : Lane) (k : TicketRecord) (s : State) : State :=
  s.modPrinter l fun e => { e with jobs := e.jobs ++ [{ ticket := k, copy := false, walk := none }] }

theorem queueOriginal_of_room (h : (s.lane l).printer.jobs.length < 2) :
    queueOriginal l k s = pumpEngine l (jobJoined l k s) := by
  unfold queueOriginal queueJob
  simp only [if_neg (Nat.not_le.2 h)]
  rfl

theorem queueOriginal_of_full (h : 2 ≤ (s.lane l).printer.jobs.length) : queueOriginal l k s =
    (raiseLaneOffice .print l (raiseAt .printFailed l s)).modPrinter l fun e => { e with lastResult := .failed .queueFull } := by
  unfold queueOriginal queueJob
  simp only [if_pos h]

theorem reportKept_queueOriginal : reportKept l (queueOriginal l k s) = reportKept l s := by
  by_cases h : (s.lane l).printer.jobs.length < 2
  · rw [queueOriginal_of_room h]
    exact reportKept_pumpEngine.trans (reportKept_modPrinter _)
  · rw [queueOriginal_of_full (Nat.not_lt.1 h)]
    exact (reportKept_modPrinter _).trans ((reportKept_raiseLaneOffice _ _).trans (reportKept_raiseAt _ _))

end Original

/-! ### What a lane's print engine sees of an issue -/

section Engine

variable {a b : State} {l : Lane} {v : Visit} {k : TicketRecord} {s : State}

theorem SameForEngine.of_outsideYard (h : a.outsideYard = b.outsideYard) : SameForEngine l a b := by
  have hprinter : (a.lane l).printer = (b.lane l).printer :=
    (congrArg LaneUnit.printer (lane_of_outsideYard h l)).trans rfl
  have htemplates : a.templates = b.templates := (congrArg State.templates h).trans rfl
  have hclock : a.clock = b.clock := (congrArg State.clock h).trans rfl
  have hpending : a.pending = b.pending := (congrArg State.pending h).trans rfl
  exact ⟨hprinter, htemplates, by rw [allow_of_outsideYard h], hclock, hpending⟩

/-- The parts that a print engine reads nothing of. -/
def unprintedParts : List Part := [.visits, .tares, .tickets, .journal, .nv, .ports]

theorem SameForEngine.of_keeps (h : KeepsAllBut unprintedParts b a) : SameForEngine l a b := by
  have hlanes : a.lanes = b.lanes := h.lanes (by decide)
  have htemplates : a.templates = b.templates := (congrArg State.templates h).trans rfl
  have hpending : a.pending = b.pending := (congrArg State.pending h).trans rfl
  exact ⟨by rw [State.lane, State.lane, hlanes], htemplates, by rw [h.allow (by decide)], h.clock (by decide), hpending⟩

theorem appendEntry_sameForEngine (e : JournalBody) (s : State) : SameForEngine l (appendEntry e s) s :=
  have hpushed : SameForEngine l (s.setJournal (s.journal.push e)) s := ⟨rfl, rfl, rfl, rfl, rfl⟩
  SameForEngine.trans (.of_outsideYard (countEvents_outsideYard _ _)) hpushed

theorem settleTicket_sameForEngine (v : Visit) (n : Nat) (s : State) : SameForEngine l (settleTicket v n s) s := by
  have hsettled : ∀ f g, SameForEngine l (modVisit v.number f (modBothRows v.account v.category g s)) s := fun _ _ =>
    ⟨rfl, rfl, rfl, rfl, rfl⟩
  unfold settleTicket overrunOutcome
  split
  · exact ⟨rfl, rfl, rfl, rfl, rfl⟩
  · dsimp only
    split
    · exact SameForEngine.trans (.of_outsideYard ((raiseNotice_outsideYard _ _ _).trans (raiseEvent_outsideYard _ _ _)))
        (hsettled _ _)
    · exact hsettled _ _

/-- Up to its ORIGINAL job an issue leaves all that the engine reads. -/
theorem issueTold_sameForEngine (v : Visit) (k : TicketRecord) (s : State) : SameForEngine l (issueTold v k s) s := by
  have hsettled : SameForEngine l (issueSettled v k s) s :=
    (settleTicket_sameForEngine v _ _).trans (appendEntry_sameForEngine _ s)
  have hkept : SameForEngine l (keepTare v (issueSettled v k s)) (issueSettled v k s) :=
    .of_keeps (keepTare_hide _ (by decide) (by decide) v)
  have hcounted : SameForEngine l (issueCounted v k s) (keepTare v (issueSettled v k s)) := ⟨rfl, rfl, rfl, rfl, rfl⟩
  have hmoved : SameForEngine l (modVisit v.number (Visit.ticketed k) (issueCounted v k s)) (issueCounted v k s) :=
    ⟨rfl, rfl, rfl, rfl, rfl⟩
  have htold : SameForEngine l (issueTold v k s) (modVisit v.number (Visit.ticketed k) (issueCounted v k s)) :=
    .of_outsideYard ((handHead_outsideYard _ _ _).trans (modReport_outsideYard _ _ _))
  exact htold.trans (hmoved.trans (hcounted.trans (hkept.trans hsettled)))

/-- Nor does anything of it come after the job. -/
theorem issueDone_sameForEngine (v : Visit) (k : TicketRecord) (s : State) :
    SameForEngine l (issueDone v k s) (issueQueued v k s) := by
  have hannounced : SameForEngine l (announceTicket k (issueQueued v k s)) (issueQueued v k s) :=
    .of_outsideYard ((raiseLaneOffice_outsideYard _ _ _).trans ((raiseAt_outsideYard _ _ _).trans (modReport_outsideYard _ _ _)))
  have hfinished : SameForEngine l (issueDone v k s) (announceTicket k (issueQueued v k s)) :=
    .of_keeps ((tryHead_hide (by decide) (by decide)).trans (finishIssue_hide _ (by decide)))
  exact hfinished.trans hannounced

/-- With room in the queue the job joins it and the engine goes on (R145). -/
theorem issueDone_printed (h : (s.lane k.lane).printer.jobs.length < 2) :
    SameForEngine k.lane (issueDone v k s) (pumpEngine k.lane (jobJoined k.lane k s)) := by
  have htold : SameForEngine k.lane (issueTold v k s) s := issueTold_sameForEngine v k s
  obtain ⟨hprinter, -⟩ := htold
  have hjoined : SameForEngine k.lane (jobJoined k.lane k (issueTold v k s)) (jobJoined k.lane k s) :=
    SameForEngine.modPrinter (issueTold_sameForEngine v k s) (by rw [hprinter])
  have hqueued : issueQueued v k s = pumpEngine k.lane (jobJoined k.lane k (issueTold v k s)) :=
    queueOriginal_of_room (by rw [hprinter]; exact h)
  have hdone := issueDone_sameForEngine (l := k.lane) v k s
  rw [hqueued] at hdone
  exact hdone.trans (pumpEngine_same hjoined)

/-- A full queue is left as it is, and the job reported QUEUE_FULL (R145). -/
theorem issueQueued_of_full (h : 2 ≤ (s.lane k.lane).printer.jobs.length) : issueQueued v k s =
    (raiseLaneOffice .print k.lane (raiseAt .printFailed k.lane (issueTold v k s))).modPrinter k.lane fun e =>
      { e with lastResult := .failed .queueFull } := by
  have htold : SameForEngine k.lane (issueTold v k s) s := issueTold_sameForEngine v k s
  obtain ⟨hprinter, -⟩ := htold
  exact queueOriginal_of_full (by rw [hprinter]; exact h)

theorem issueDone_unprinted (h : 2 ≤ (s.lane k.lane).printer.jobs.length) :
    ((issueDone v k s).lane k.lane).printer = { (s.lane k.lane).printer with lastResult := .failed .queueFull }
      ∧ (issueDone v k s).templates = s.templates := by
  have hraised : SameForEngine k.lane (raiseLaneOffice .print k.lane (raiseAt .printFailed k.lane (issueTold v k s))) s :=
    SameForEngine.trans (.of_outsideYard ((raiseLaneOffice_outsideYard _ _ _).trans (raiseAt_outsideYard _ _ _)))
      (issueTold_sameForEngine v k s)
  have hdone := issueDone_sameForEngine (l := k.lane) v k s
  rw [issueQueued_of_full h] at hdone
  obtain ⟨hprinter, htemplates, -⟩ := hdone
  obtain ⟨hsame, hkept, -⟩ := hraised
  refine ⟨?_, htemplates.trans hkept⟩
  rw [hprinter, modPrinter_lane, hsame]

end Engine

/-! ### What an issue tells (R127 step 9) -/

section Telling

variable {l : Lane} {v : Visit} {k : TicketRecord} {s : State}

theorem raiseEvent_fired (e : EventKind) (x : Option Nat) (s : State) : Fired e x (raiseEvent e x s) :=
  foldl_fired (fireRoute_grows e x) (fun _ _ _ hp hq hi => fireRoute_outcome hp hq hi) s

/-- After the announcement nothing but the ticket unit and the writer moves. -/
theorem issueDone_keeps_announced (v : Visit) (k : TicketRecord) (s : State) :
    KeepsAllBut [.tickets, .nv] (announceTicket k (issueQueued v k s)) (issueDone v k s) :=
  (tryHead_hide (by decide) (by decide)).trans (finishIssue_hide _ (by decide))

theorem issueDone_fired (v : Visit) (k : TicketRecord) (s : State) :
    Fired .ticketIssued (some k.lane.num) (issueDone v k s) := by
  have hroutes : (issueDone v k s).routes = (announceTicket k (issueQueued v k s)).routes :=
    (congrArg State.routes (issueDone_keeps_announced v k s)).trans rfl
  have hannounced : Fired .ticketIssued (some k.lane.num) (announceTicket k (issueQueued v k s)) :=
    Fired.grows (raiseEvent_fired .ticketIssued (some k.lane.num) _) (.of_routes rfl)
  exact hannounced.grows (.of_routes (by rw [hroutes]))

theorem announceTicket_grows (k : TicketRecord) (s : State) : NoticesGrow s (announceTicket k s) :=
  have hreported : NoticesGrow s (s.modReport k.lane fun r => { r with lastTicket := some k.number }) := .of_ports rfl
  (hreported.trans (raiseAt_aside k.lane .ticketIssued k.lane _).notices).trans (raiseLaneOffice_grows _ _ _)

theorem issueDone_noticed (v : Visit) (k : TicketRecord) (s : State) :
    Noticed (issueDone v k s) .ticket (.lane k.lane) ∧ Noticed (issueDone v k s) .ticket .office := by
  have hgrow : NoticesGrow (announceTicket k (issueQueued v k s)) (issueDone v k s) :=
    .of_ports ((issueDone_keeps_announced v k s).ports (by decide))
  have hannounced : Noticed (announceTicket k (issueQueued v k s)) .ticket (.lane k.lane)
      ∧ Noticed (announceTicket k (issueQueued v k s)) .ticket .office := noticed_raiseLaneOffice .ticket k.lane _
  obtain ⟨hlane, hoffice⟩ := hannounced
  exact ⟨hgrow _ _ hlane, hgrow _ _ hoffice⟩

theorem issueDone_printNoticed (h : 2 ≤ (s.lane k.lane).printer.jobs.length) :
    Noticed (issueDone v k s) .print (.lane k.lane) ∧ Noticed (issueDone v k s) .print .office := by
  have hgrow : NoticesGrow (issueQueued v k s) (issueDone v k s) :=
    (announceTicket_grows k _).trans (.of_ports ((issueDone_keeps_announced v k s).ports (by decide)))
  obtain ⟨hlane, hoffice⟩ := noticed_raiseLaneOffice .print k.lane (raiseAt .printFailed k.lane (issueTold v k s))
  rw [issueQueued_of_full h] at hgrow
  exact ⟨hgrow _ _ hlane, hgrow _ _ hoffice⟩

/-- The lane's report names the ticket and the decision pass. -/
theorem issueDone_report (v : Visit) (k : TicketRecord) (s : State) :
    ((issueDone v k s).lane k.lane).report.lastTicket = some k.number
      ∧ ((issueDone v k s).lane k.lane).report.lastDecision = .pass := by
  have hdone : reportKept k.lane (issueDone v k s) = reportKept k.lane (announceTicket k (issueQueued v k s)) :=
    reportKept_congr ((issueDone_keeps_announced v k s).lanes (by decide))
  have hannounced : reportKept k.lane (announceTicket k (issueQueued v k s)) =
      { ((issueQueued v k s).lane k.lane).report with lastCapture := .none, lastTicket := some k.number } :=
    (reportKept_raiseLaneOffice _ _).trans ((reportKept_raiseAt _ _).trans (reportKept_modReport _))
  have htold : reportKept k.lane (issueQueued v k s) =
      { ((modVisit v.number (Visit.ticketed k) (issueCounted v k s)).lane k.lane).report with
          lastCapture := .none, lastDecision := .pass } :=
    reportKept_queueOriginal.trans ((reportKept_handHead false).trans (reportKept_modReport _))
  have hpass : ((issueQueued v k s).lane k.lane).report.lastDecision = .pass := congrArg LaneReport.lastDecision htold
  have hreport := hdone.trans hannounced
  have hticket : ((issueDone v k s).lane k.lane).report.lastTicket = some k.number := congrArg LaneReport.lastTicket hreport
  have hdecision : ((issueDone v k s).lane k.lane).report.lastDecision = ((issueQueued v k s).lane k.lane).report.lastDecision :=
    (congrArg LaneReport.lastDecision hreport).trans rfl
  exact ⟨hticket, hdecision.trans hpass⟩

end Telling

/-! ### TICKET_ISSUE (R126, R127) -/

section Issuing

variable {s : State} {n site : Nat} {rest : List Nat} {v : Visit} {pl : LanePlace} {f : CapturedWeight}

theorem exec_ticketIssue (hpower : s.power = true) : exec .ticketIssue s = .next (issueStep s) :=
  congrArg Host.Outcome.next (if_pos hpower)

theorem issueStep_of_empty (hqueue : s.tickets.queue = []) : issueStep s = s := by
  unfold issueStep
  rw [hqueue]

theorem issueStep_of_obstacle (hqueue : s.tickets.queue ≠ []) (hobstacle : issueObstacle s ≠ .none) :
    issueStep s = tryHead s := by
  unfold issueStep
  split
  · exact absurd ‹_› hqueue
  · exact if_neg hobstacle

theorem tryHead_wait (hqueue : s.tickets.queue ≠ []) : (tryHead s).tickets.wait = issueObstacle s := by
  rw [tryHead_of_head hqueue]
  split
  · unfold requestFloorWrite
    rw [nvRequest_tickets]
    rfl
  · rfl

theorem issueStep_of_head (hqueue : s.tickets.queue = n :: rest) (hnone : issueObstacle s = .none)
    (hv : findVisit s n = some v) (hplace : v.place = some pl) (hfirst : v.first = some f) (hsite : s.cal.site = some site) :
    issueStep s = issueDone v (issuedRecord s v pl.lane f site) s := by
  unfold issueStep
  rw [hqueue]
  dsimp only
  rw [if_pos hnone]
  unfold issueHead
  rw [hv, hsite]
  dsimp only
  rw [hplace, hfirst]
  rfl

theorem settled_ticketed_issuedRecord (s : State) (v : Visit) (l : Lane) (f : CapturedWeight) (site : Nat) :
    v.settled.ticketed (issuedRecord s v l f site) = { v with
      ticket := some s.tickets.next, reserve := if v.kind = .delivery then 0 else v.reserve,
      state := if v.second.isSome = true then .ticketed else .ticketedOnSite } := by
  unfold Visit.settled
  by_cases hkind : v.kind = .delivery
  · rw [if_pos hkind, if_pos hkind]
    rfl
  · rw [if_neg hkind, if_neg hkind]
    rfl

/-- Settles O57: the command is its step, and the step that issues is taken apart by the parts of the state. -/
theorem ticketIssueTakesTheHeadOfTheQueue : Obligations.TicketIssueTakesTheHeadOfTheQueue := by
  intro s hpower
  rw [exec_ticketIssue hpower]
  refine ⟨issueObstacle_firstFailing s, fun hqueue => by rw [issueStep_of_empty hqueue], fun hqueue hobstacle => ?_, settle_eq,
    fun site words hsite hwords => checkWord_toNat hsite hwords, fun n rest v pl f site hqueue hnone hv hplace hfirst hsite => ?_⟩
  · obtain ⟨hnext, -, hkept, -⟩ := tryHead_tickets (s := s)
    rw [issueStep_of_obstacle hqueue hobstacle]
    exact ⟨_, rfl, tryHead_wait hqueue, hkept, hnext, tryHead_hide (by decide) (by decide)⟩
  · obtain rfl := number_of_findVisit hv
    let k := issuedRecord s v pl.lane f site
    obtain ⟨hnext, hrest⟩ := issueDone_tickets v k s
    obtain ⟨hticket, hdecision⟩ := issueDone_report v k s
    obtain ⟨hlane, hoffice⟩ := issueDone_noticed v k s
    have hjournal := issueDone_journal v k s
    refine ⟨issueDone v k s, k, congrArg _ (issueStep_of_head hqueue hnone hv hplace hfirst hsite),
      issuedRecord_ticketOf s v pl.lane f site, hnext, by rw [hrest, hqueue]; rfl, by rw [hjournal, push_last],
      by rw [hjournal]; rfl, by rw [hjournal, retainedEntry_push_last], fun a w ha hsource hkeep hnet hw => ?_, fun hno => ?_,
      ?_, fun m hm => ?_, issueDone_accounts v k s, issueDone_caps v k s,
      ⟨fun hroom => ?_, fun hfull => ?_⟩, ?_, fun c hc => ?_, issueDone_allow_frame v k s, hticket, hdecision,
      issueDone_fired v k s, hlane, hoffice, issueDone_keeps v k s⟩
    · rw [issueDone_tares, (keptTare_wanted ha hsource hkeep hnet).trans hw]
    · rw [issueDone_tares, keptTare_unwanted hno]
    · rw [issueDone_findVisit hv, if_pos rfl, settled_ticketed_issuedRecord]
    · rw [issueDone_findVisit hv, if_neg hm]
    · obtain ⟨hprinter, htemplates, -⟩ := issueDone_printed (v := v) (k := k) hroom
      exact ⟨hprinter, htemplates⟩
    · obtain ⟨hprinter, htemplates⟩ := issueDone_unprinted (v := v) (k := k) hfull
      exact ⟨hprinter, htemplates, issueDone_printNoticed hfull⟩
    · exact (issueDone_countersOf v k s v.category).trans (if_pos rfl)
    · exact (issueDone_countersOf v k s c).trans (if_neg hc)

end Issuing

end Sys2Proof.Machine
